-- ==== Sys2Proof/Word.lean ====
section
/-! DEFINITION. The byte of frames and memory images, and the two sixteen-bit halves of it. -/

namespace Sys2Proof

/-- A byte of a frame or of a memory image. -/
abbrev Byte := BitVec 8

/-- The low eight bits of a number, as a byte. -/
def byte (n : Nat) : Byte := BitVec.ofNat 8 n

end Sys2Proof
end

