-- ==== Sys2Proof/Syntax.lean ====
section
/-! DEFINITION. The commands of the ZN816: one constructor for each row of spec/opcode_table.json. -/

namespace Sys2Proof

/-- A local zone Z0..Z7. -/
abbrev ZoneId := Fin 8

/-- A playback channel 0..3. -/
abbrev ChanId := Fin 4

/-- A contact input C0..C7. -/
abbrev ContactId := Fin 8

/-- The two pulse inputs of a zone (R142): its noise sensor and its line sense. -/
inductive PulseInput where
  | noiseSensor
  | lineSense
deriving DecidableEq, Repr

/-- One command. A frame command stands for a frame that has completed on the line and has passed check 1 of R16;
`dst` and `src` are its destination and source bytes and `payload` its payload bytes (R184). -/
inductive Instr where
  | coldStart
  | resetAssert
  | resetRelease
  /-- The bytes that the read of the configuration memory gave, from address 0 (R189). -/
  | configImageRead (image : List Byte)
  /-- The first bytes of the phrase memory, and the bytes of the template store that the header's check covers (R188). -/
  | phraseHeaderRead (header store : List Byte)
  /-- The bytes of the template store (R188). -/
  | templateStoreRead (store : List Byte)
  | enterJoining
  | joinTimerExpiry
  /-- A character, and whether its stop bit was read as 0 (R1). -/
  | characterReceived (char : Byte) (framingError : Bool)
  | nonIdleRunLimit
  | unknownIdleLimit
  | lineQuiet
  | disturbanceEnd
  | disturbanceTimerExpiry
  | discardSpanEnd
  | slotReached
  | echoMismatch
  | transmissionComplete
  /-- All the bytes of a completed frame that fails check 1 (R16). -/
  | badFrame (raw : List Byte)
  | unknownKind (dst src kind : Byte) (payload : List Byte)
  | time (dst src : Byte) (payload : List Byte)
  | secondAdvance
  | doubtTimerExpiry
  | callPost (dst src : Byte) (payload : List Byte)
  | callAmend (dst src : Byte) (payload : List Byte)
  | callCancel (dst src : Byte) (payload : List Byte)
  | callMove (dst src : Byte) (payload : List Byte)
  | trainEvent (dst src : Byte) (payload : List Byte)
  | callHandover (dst src : Byte) (payload : List Byte)
  | callAdopt (dst src : Byte) (payload : List Byte)
  | callRefuse (dst src : Byte) (payload : List Byte)
  | lingerExpiry (call : BitVec 16)
  | moveTimerExpiry (call : BitVec 16)
  | announce (dst src : Byte) (payload : List Byte)
  | announceStop (dst src : Byte) (payload : List Byte)
  | liveOpen (dst src : Byte) (payload : List Byte)
  | liveKeep (dst src : Byte) (payload : List Byte)
  | liveClose (dst src : Byte) (payload : List Byte)
  /-- The queue entry with this tag. -/
  | notBeforeReached (tag : Byte)
  | entryExpiry (tag : Byte)
  | claim (dst src : Byte) (payload : List Byte)
  | release (dst src : Byte) (payload : List Byte)
  /-- The occupancy slot of this global zone. -/
  | occupancyExpiry (zone : Byte)
  | refreshDeadlineExpiry (ch : ChanId)
  | claimSendTimeout (ch : ChanId)
  | wakeEnd (ch : ChanId)
  | listenWindowEnd (ch : ChanId)
  | primingDeadline (ch : ChanId)
  /-- The four bytes of a directory entry: 20 bits of first block, 12 bits of block count (R188). -/
  | directoryReadComplete (entry : BitVec 32)
  /-- The samples of the block read (R188). -/
  | blockReadComplete (samples : List (BitVec 16))
  | blockPlayed (ch : ChanId)
  | gapEnd (ch : ChanId)
  | keepTimerExpiry (ch : ChanId)
  | tailEnd (ch : ChanId)
  | gateEnd (zone : ZoneId)
  | quietDeadlineExpiry (zone : ZoneId)
  | evacStart (dst src : Byte) (payload : List Byte)
  | evacStop (dst src : Byte) (payload : List Byte)
  | evacRepeatExpiry
  | tonePlayingEnd
  | evacPauseEnd
  /-- The contact, and whether its new accepted level is ACTIVE. -/
  | acceptedLevelChange (contact : ContactId) (active : Bool)
  | roundDeadlineExpiry
  | settleEnd
  | lineGateEnd
  | spacingEnd
  | faultAck (dst src : Byte) (payload : List Byte)
  | testStep (dst src : Byte) (payload : List Byte)
  | statusQuery (dst src : Byte) (payload : List Byte)
  | faultReport (dst src : Byte) (payload : List Byte)
  | nodeStatus (dst src : Byte) (payload : List Byte)
  | announceResult (dst src : Byte) (payload : List Byte)
  /-- The levels of the pins C0..C7, bit i for Ci, 1 for high. -/
  | contactSample (pins : BitVec 8)
  | risingPulseEdge (zone : ZoneId) (input : PulseInput)
deriving DecidableEq, Repr

end Sys2Proof
end

