-- ==== Sys2Proof/Config.lean ====
section
/-! DEFINITION. The free values: what the spec gives an effect but no exact value. -/

namespace Sys2Proof.Config

/-- FREE VALUE (log entry 30). Whether the product of an output sample and the factor of a gain code is brought back to sixteen bits
away from zero, where it is no whole number. R140 multiplies a sample by 10^(-G/80) and does not state the rounding. -/
opaque attenuateRoundsUp : Nat → BitVec 16 → Bool

/-- FREE VALUE (log entry 30). Whether the product of an output sample and the fade's factor is brought back to sixteen bits away from
zero, where it is no whole number, given how many milliseconds of the 300 have passed. R132 does not state the rounding. -/
opaque fadeRoundsUp : Nat → BitVec 16 → Bool

/-- FREE VALUE (log entry 54). Whether a sample of the alert tone is brought to sixteen bits away from zero, given the part of a turn at
which it stands, in eightieths. R157 gives the tone as a sine at full scale and does not state the rounding. -/
opaque toneRoundsUp : Nat → Bool

/-- FREE VALUE (log entry 38). The number of the result ABORTED in an ANNOUNCE_RESULT. R103 gives a live announcement whose keep timer
expires the result ABORTED; the table of R106, whose order numbers the results (R187), does not list it. -/
opaque abortedResult : Byte

end Sys2Proof.Config
end

