-- ==== Sys2Proof/Machine/Bytes.lean ====
section
/-! DEFINITION. Bytes of frames and memory images: multi-byte fields (high byte first), twelve-bit runs, the CRC of R16
and check 1. -/

namespace Sys2Proof.Machine

/-- Byte `i` as a number. A byte that was not read is all ones (R181). -/
def u8 (b : List Byte) (i : Nat) : Nat := (b.getD i 0xFF#8).toNat

/-- Two bytes from `i`, high byte first. -/
def u16 (b : List Byte) (i : Nat) : Nat := u8 b i * 256 + u8 b (i + 1)

/-- Three bytes from `i`, high byte first. -/
def u24 (b : List Byte) (i : Nat) : Nat := u16 b i * 256 + u8 b (i + 2)

/-- Four bytes from `i`, high byte first. -/
def u32 (b : List Byte) (i : Nat) : Nat := u16 b i * 65536 + u16 b (i + 2)

/-- The two bytes of a sixteen-bit field, high byte first. -/
def word16 (n : Nat) : List Byte := [byte (n / 256), byte n]

/-- A twelve-bit run (R184 and the text after it): three bytes to each pair of values, two bytes for an odd last value. -/
def run12 : List Nat → List Byte
  | [] => []
  | [a] => [byte (a / 16), byte (a % 16 * 16)]
  | a :: b :: rest => byte (a / 16) :: byte (a % 16 * 16 + b / 256) :: byte b :: run12 rest

/-- The first `k` values of a twelve-bit run. -/
def unrun12 : Nat → List Byte → List Nat
  | 0, _ => []
  | 1, b => [u8 b 0 * 16 + u8 b 1 / 16]
  | k + 2, b => (u8 b 0 * 16 + u8 b 1 / 16) :: (u8 b 1 % 16 * 256 + u8 b 2) :: unrun12 k (b.drop 3)

/-- An absent code or twelve-bit value is 4095. -/
def opt12 (n : Nat) : Option Nat := if n = 4095 then none else some n

/-- An absent minute is 0xFFFF. -/
def optMinute (n : Nat) : Option Nat := if n = 0xFFFF then none else some n

/-- One bit of the CRC-16 of R16: polynomial x^16 + x^12 + x^5 + 1, register not reflected. -/
def crcBit (r : BitVec 16) : BitVec 16 := if r.msb then (r <<< 1) ^^^ 0x1021#16 else r <<< 1

/-- One byte enters the register most significant bit first. -/
def crcByte (r : BitVec 16) (b : Byte) : BitVec 16 :=
  let x := r ^^^ (b.setWidth 16 <<< 8)
  crcBit (crcBit (crcBit (crcBit (crcBit (crcBit (crcBit (crcBit x)))))))

/-- The CRC-16 of R16: initial value all ones, nothing XORed into the result. -/
def crc16 (b : List Byte) : BitVec 16 := b.foldl crcByte 0xFFFF#16

/-- Check 1 of R16 over all the bytes of a completed frame. -/
def check1 (raw : List Byte) : Bool :=
  decide (6 ≤ raw.length) && decide (u8 raw 3 ≤ 60) && decide (raw.length = 4 + u8 raw 3 + 2)
    && decide (raw.drop (raw.length - 2) = word16 (crc16 (raw.take (raw.length - 2))).toNat)

/-- A frame as it goes on the line (R184): header, payload and check. -/
def frameBytes (dst src kind : Byte) (payload : List Byte) : List Byte :=
  let body := [dst, src, kind, byte payload.length] ++ payload
  body ++ word16 (crc16 body).toNat

end Sys2Proof.Machine
end

