-- ==== Sys2Proof/Machine/State.lean ====
section
/-! DEFINITION. The state of the ZN816, block by block, its faults and refusals, and the state after a cold start. -/

namespace Sys2Proof.Machine

/-! ### Start-up Controller and configuration (R56, R180, R181, R189) -/

/-- The node phase (R180). -/
inductive Phase where
  | start | limited | joining | run
deriving DecidableEq, Repr

/-- The step of START that is in progress (R180); `ended` once START is over. -/
inductive StartStep where
  | readConfig | readHeader | readTemplates | waitLine | ended
deriving DecidableEq, Repr

/-- A set of local zones, as an ascending list without repeats. -/
abbrev ZoneSet := List ZoneId

/-- A train event (R43), in the order of the TRAIN_EVENT layout. -/
inductive TrainEvent where
  | approaching | arrived | doorsClosing | departed
deriving DecidableEq, Repr

/-- A call record's kind (R33). -/
inductive CallKind where
  | arrival | departure
deriving DecidableEq, Repr

/-- The ten states of R34, in the order of its table. -/
inductive CallState where
  | planned | approaching | atPlatform | closing | moving | departed | terminated | cancelled | moved | moveFailed
deriving DecidableEq, Repr

/-- The seven cues of a plan (R56), in their fixed order. -/
inductive CueName where
  | c1 | c2 | c3 | c4 | delay | cancel | alteration
deriving DecidableEq, Repr

/-- The trigger of a plan cue (R56). -/
inductive Trigger where
  | beforeTime (offset : Nat)
  | onEvent (e : TrainEvent)
  | afterEvent (e : TrainEvent) (offset : Nat)
deriving DecidableEq, Repr

/-- One cue of a plan (R56). `window` is read for plan cues only; the special cues have fixed windows. `repeatEvery` is absent
for ONCE. -/
structure Cue where
  used : Bool
  trigger : Trigger
  template : Nat
  cls : Nat
  platformZones : Bool
  concourse : ZoneSet
  window : List CallState
  repeatEvery : Option Nat
  validity : Nat
deriving DecidableEq, Repr

/-- The configuration of one local zone (R148, R189). `slot` is its platform slot, absent for a zone without a platform. -/
structure ZoneConfig where
  present : Bool
  slot : Option Nat
  neighbours : List Nat
  zoneMin : Nat
  zoneMax : Nat
  zoneFull : Nat
  defaultAmbient : Nat
  sensor : Bool
  lo : Nat
  hi : Nat
deriving DecidableEq, Repr

/-- A contact's role (R162). -/
inductive ContactRole where
  | unused | evacTrigger | ampFault (amp : Fin 4) | mainsBattery | spareAlarm
deriving DecidableEq, Repr

/-- The configuration of one contact (R161, R162). -/
structure ContactConfig where
  role : ContactRole
  activeHigh : Bool
deriving DecidableEq, Repr

/-- The applied configuration (R181, R189). -/
structure NodeConfig where
  nodeId : Nat
  h0 : Nat
  samplePeriod : Nat
  gateLength : Nat
  staleLimit : Nat
  lateLimit : Nat
  delayThreshold : Nat
  rearmThreshold : Nat
  linger : Nat
  margin : Vector Nat 4
  batteryCut : Nat
  groupSize : Nat
  roundPeriod : Nat
  errorBudget : Nat
  ampWake : Nat
  evacTemplate : Nat
  chimes : Vector Nat 5
  platforms : Vector Nat 4
  zones : Vector ZoneConfig 8
  amplifiers : Vector ZoneSet 4
  contacts : Vector ContactConfig 8
  timetable : BitVec 32
  describer : BitVec 32
  desk : BitVec 32
  evac : BitVec 32
  timesrc : BitVec 32
  peer : BitVec 32
  arrivalPlan : Vector Cue 7
  departurePlan : Vector Cue 7
deriving DecidableEq, Repr

/-- The Start-up Controller (R180, R183). `config` is absent until an image has been applied, and in LIMITED. -/
structure Startup where
  phase : Phase
  step : StartStep
  resetHeld : Bool
  config : Option NodeConfig
deriving DecidableEq, Repr

/-! ### Link Controller (R1 to R20) -/

/-- The line monitor's state (R1). -/
inductive Monitor where
  | unknown | quiet | active | disturbed
deriving DecidableEq, Repr

/-- The frame kinds, in the order of the table of 14_frame_and_record_layouts.md. -/
inductive FrameKind where
  | time | callPost | callAmend | callCancel | callMove | trainEvent | callHandover | callAdopt | callRefuse
  | announce | announceStop | liveOpen | liveKeep | liveClose | announceResult | evacStart | evacStop
  | claim | release | faultReport | faultAck | testStep | statusQuery | nodeStatus
deriving DecidableEq, Repr

/-- A frame of the transmit queue (R11). `sending` is the state SENDING, `released` the mark that a RELEASE of the tag was offered
while the CLAIM was SENDING (R14). -/
structure TxFrame where
  dest : Nat
  kind : FrameKind
  payload : List Byte
  access : Nat
  seq : Nat
  retry : Nat
  sending : Bool
  tag : Option Nat
  firstMark : Bool
  successor : Option (List Byte)
  released : Bool
deriving DecidableEq, Repr

/-- The Link Controller (R1, R4, R6, R7, R9, R11, R19). `rxFaulty` marks the frame in the receiver as holding a character with a
framing error (R4); `echoed` counts the characters of the frame on the line whose echo has matched, and `echoAge` the character times
since the next one began (R9). -/
structure Link where
  monitor : Monitor
  idleRun : Nat
  nonIdleRun : Nat
  framingErrors : Nat
  disturbTimer : Option Nat
  rxFrame : List Byte
  rxFaulty : Bool
  discarding : Bool
  slotCount : Nat
  queue : List TxFrame
  seqCounter : Nat
  budget : Option Nat
  echoed : Nat
  echoAge : Nat
deriving DecidableEq, Repr

/-! ### Time Base (R21 to R31) -/

/-- The time state (R22). -/
inductive TimeState where
  | unset | set | doubtful
deriving DecidableEq, Repr

/-- The Time Base (R21, R22). `secondStart` is the running count at which the sub-second phase was last 0. -/
structure Clock where
  now : Nat
  charPhase : Nat
  timeState : TimeState
  clockSecond : Nat
  serviceDay : Nat
  secondStart : Nat
  doubtTimer : Option Nat
deriving DecidableEq, Repr

/-! ### Call Table and cue slots (R32 to R36, R58) -/

/-- An event minute of a record (R33, R44). -/
inductive EventMinute where
  | absent
  | minute (m : Nat)
  | untimed (stamp : Nat)
deriving DecidableEq, Repr

/-- A cue slot's state (R58). -/
inductive SlotState where
  | idle | armed | fired | missed
deriving DecidableEq, Repr

/-- A cue slot (R58). -/
structure CueSlot where
  state : SlotState
  next : Option Nat
  firedBase : Option Nat
deriving DecidableEq, Repr

/-- What a record holds in MOVING (R33, R47). -/
structure Moving where
  prior : CallState
  target : Nat
  deadline : Nat
deriving DecidableEq, Repr

/-- A call record (R33). -/
structure CallRecord where
  id : Nat
  platform : Nat
  kind : CallKind
  scheduled : Nat
  expected : Option Nat
  destination : Nat
  origin : Option Nat
  carriages : Option Nat
  points : List Nat
  posted : Nat
  truncated : Bool
  state : CallState
  events : Vector EventMinute 4
  lastDelay : Option Nat
  moving : Option Moving
  linger : Option Nat
  slots : Vector CueSlot 7
deriving DecidableEq, Repr

/-! ### Sentence Assembler (R75, R76) -/

/-- The kind of a template element (R76). -/
inductive ElementKind where
  | fixed (code : Nat)
  | schedTime | expectedTime | platform | destination | origin | callingPoints | delay | carriages
  | param (k : Fin 4)
deriving DecidableEq, Repr

/-- A template element (R76). -/
structure Element where
  kind : ElementKind
  group : Nat
deriving DecidableEq, Repr

/-- The template store (R75). An undefined template is `none`. -/
structure TemplateStore where
  valid : Bool
  templates : List (Option (List Element))
deriving DecidableEq, Repr

/-! ### Announcement Queue and Dispatcher (R89, R100, R106) -/

/-- An announcement's key; its constructor is the origin (R89). -/
inductive Key where
  | cue (call : Nat) (slot : CueName)
  | desk (desk : Nat) (tag : Nat)
  | live (desk : Nat)
deriving DecidableEq, Repr

/-- The repeat field of an entry (R89). -/
inductive Repeat where
  | once
  | every (minutes : Nat) (remaining : Option Nat)
  | continuous (gap : Nat)
deriving DecidableEq, Repr

/-- A queue entry (R89). `template` is absent for LIVE entries, `boundCall` for all but CUE entries. -/
structure Entry where
  tag : Nat
  seq : Nat
  key : Key
  cls : Nat
  mask : ZoneSet
  template : Option Nat
  params : List (Option Nat)
  notBefore : Nat
  expiry : Option Nat
  repetition : Repeat
  attempts : Nat
  boundCall : Option Nat
deriving DecidableEq, Repr

/-- The results of R106, in the order of its table, and ABORTED, which R103 alone names (log entry 38). -/
inductive Result where
  | done | expired | evicted | queueFull | obsolete | stopped | preempted | contended | noZone | suppressed
  | assemblyFault | underrun | purged | busy | aborted
deriving DecidableEq, Repr

/-- The stop mark of a continuation record (R103). -/
inductive StopMark where
  | obsolete | stopped
deriving DecidableEq, Repr

/-- A continuation record (R100). -/
structure Continuation where
  entry : Entry
  dispatchedAt : Nat
  renewal : Option Entry
  stopMark : Option StopMark
deriving DecidableEq, Repr

/-- The Announcement Queue and Dispatcher (R89, R90, R100). `walkedAt` is the model's own: the instant of the last walk, by which a
not-before that has been reached or passed and not yet walked for is known (R21, R96; log entry 42). -/
structure Queue where
  entries : List Entry
  tagCounter : Nat
  seqCounter : Nat
  continuations : Vector (Option Continuation) 4
  walkedAt : Nat
deriving DecidableEq, Repr

/-! ### Claim Controller (R107, R114, R124) -/

/-- An own claim record (R107). -/
structure OwnClaim where
  tag : Nat
  cls : Nat
  zones : List Nat
  established : Bool
  transmitted : Bool
  refreshAt : Nat
  sendDeadline : Option Nat
deriving DecidableEq, Repr

/-- The contents of an occupied slot (R114). -/
structure Occupant where
  owner : Nat
  cls : Nat
  tag : Nat
  established : Bool
  lastHeard : Nat
  expiry : Nat
deriving DecidableEq, Repr

/-- A slot of the occupancy table, for one remote neighbour zone (R114). -/
structure OccSlot where
  zone : Nat
  occupant : Option Occupant
deriving DecidableEq, Repr

/-- The Claim Controller (R107, R114, R124). -/
structure Claims where
  own : Vector (Option OwnClaim) 4
  occupancy : List OccSlot
  joinTimer : Option Nat
deriving DecidableEq, Repr

/-! ### Playback Channels and Phrase Fetch Arbiter (R125, R127, R133, R134, R156) -/

/-- The state of a channel that carries an instance (R125); a FREE channel carries none. -/
inductive ChanState where
  | claiming | leadIn | speaking | live | tail
deriving DecidableEq, Repr

/-- The stages of LEAD_IN (R127). -/
inductive Stage where
  | wake | chime | hold
deriving DecidableEq, Repr

/-- The outcome of an instance (R125). -/
inductive Ending where
  | done | withdrawn | preempted | obsolete | stopped | underrun | aborted
deriving DecidableEq, Repr

/-- A place in an instance's audio: phrase 0 is the chime, phrases 1.. the list; blocks count from 0 (R125). -/
structure Place where
  phrase : Nat
  block : Nat
deriving DecidableEq, Repr

/-- A filled buffer block (R133). -/
structure Block where
  place : Place
  samples : List (BitVec 16)
deriving DecidableEq, Repr

/-- A directory entry that the channel has read for the phrase at a position of its instance (R133, R188). -/
structure DirRead where
  phrase : Nat
  firstBlock : Nat
  count : Nat
deriving DecidableEq, Repr

/-- What a channel plays: nothing, the block at the play position, or a block of silence in a gap (R135). A boundary gap
follows the end of a phrase (R129). -/
inductive InPlay where
  | nothing | block | gap (boundary : Bool)
deriving DecidableEq, Repr

/-- The two playings of the evacuation cycle (R156). -/
inductive Playing where
  | message | tone
deriving DecidableEq, Repr

/-- The evacuation instance's cycle (R156, R157): the playing chosen, the end of a tone playing, the end of a pause. -/
structure EvacCycle where
  chosen : Playing
  toneEnd : Option Nat
  pauseEnd : Option Nat
deriving DecidableEq, Repr

/-- An instance on a channel (R125). `key` is absent for the evacuation instance. `holdFrom` is the later of the chime end and the
listen window end so far (R128). `silentTail` marks a TAIL entered from CLAIMING (R126),
`liveTail` one entered from LIVE (R132). The buffer's filled blocks stand in play
order. -/
structure ChanInst where
  cls : Nat
  key : Option Key
  tag : Nat
  state : ChanState
  stage : Stage
  chime : Option Nat
  phrases : List Nat
  play : Place
  fetch : Place
  dirs : List DirRead
  gains : List (ZoneId × Nat)
  defaultLevel : Bool
  levelLimited : Bool
  gapCount : Nat
  outcome : Option Ending
  stopPending : Bool
  wakeEnd : Option Nat
  listenEnd : Option Nat
  holdFrom : Nat
  priming : Option Nat
  keepAt : Option Nat
  tailEnd : Option Nat
  silentTail : Bool
  liveTail : Bool
  inPlay : InPlay
  blockEnd : Option Nat
  buffer : List Block
  evac : Option EvacCycle
deriving DecidableEq, Repr

/-- What a channel asks of the arbiter (R133). -/
inductive Request where
  | directory (phrase : Nat)
  | block (place : Place)
deriving DecidableEq, Repr

/-- A transaction in progress (R134): what was asked, the address that the port reads from (R188), and whether its result is still
wanted. -/
structure Transaction where
  ch : ChanId
  request : Request
  address : Nat
  wanted : Bool
deriving DecidableEq, Repr

/-- The Phrase Fetch Arbiter (R134). The port is idle when it has been handed over and no transaction is in progress. -/
structure Port where
  handedOver : Bool
  transaction : Option Transaction
deriving DecidableEq, Repr

/-! ### Zone Output Controller (R138) -/

/-- A zone's state, with the holder of a held zone (R138). -/
inductive ZoneState where
  | idle | test | held (ch : ChanId) | off
deriving DecidableEq, Repr

/-- A zone's line status (R138, R166). -/
inductive LineStatus where
  | untested | good | suspectShort | suspectOpen | short | openLine
deriving DecidableEq, Repr

/-- An entry of the zone table (R138). -/
structure Zone where
  present : Bool
  state : ZoneState
  ampFault : Bool
  lineStatus : LineStatus
  gain : Option Nat
  lastAudible : Option Nat
deriving DecidableEq, Repr

/-! ### Level Controller (R141) -/

/-- The user of a measurement counter (R141). -/
inductive CounterUser where
  | free | noise | line
deriving DecidableEq, Repr

/-- A zone's sensor fault (R141, R146). -/
inductive SensorFault where
  | none | high | silent
deriving DecidableEq, Repr

/-- A noise gate (R141). -/
structure Gate where
  startAt : Nat
  endAt : Nat
deriving DecidableEq, Repr

/-- The Level Controller's items for one zone (R141). -/
structure Level where
  count : Nat
  overflow : Bool
  user : CounterUser
  gate : Option Gate
  quietAt : Option Nat
  ambient : Nat
  lastUpdate : Nat
  highRun : Nat
  silentRun : Nat
  goodRun : Nat
  sensorFault : SensorFault
deriving DecidableEq, Repr

/-! ### Evacuation Controller (R153) -/

/-- The Evacuation Controller (R153); the source is the set of `input` and `link`. -/
structure Evac where
  active : Bool
  input : Bool
  link : Bool
  repeatAt : Option Nat
deriving DecidableEq, Repr

/-! ### Supervision Unit (R161, R164, R166, R169) -/

/-- A contact's accepted level (R161). -/
inductive Accepted where
  | unknown | inactive | active
deriving DecidableEq, Repr

/-- A debouncer (R161). `previous` is the previous sample, read as active or inactive. -/
structure Debouncer where
  level : Accepted
  candidate : Nat
  previous : Option Bool
deriving DecidableEq, Repr

/-- The kind of a fail run (R166). -/
inductive FailKind where
  | short | openLine
deriving DecidableEq, Repr

/-- A fail run that is not empty (R166). -/
structure FailRun where
  kind : FailKind
  count : Nat
deriving DecidableEq, Repr

/-- The line-test runs and the skip count of a zone (R166, R169). -/
structure Line where
  failRun : Option FailRun
  passRun : Nat
  skips : Nat
deriving DecidableEq, Repr

/-- The stage of the group under test (R164). -/
inductive GroupStage where
  | settle | gate | spacing
deriving DecidableEq, Repr

/-- The scan state (R164). -/
structure Scan where
  roundAt : Option Nat
  inRound : Bool
  group : Option Nat
  stage : Option GroupStage
  stageAt : Option Nat
deriving DecidableEq, Repr

/-- The Supervision Unit. `pins` are the contact pin levels last given to the part. -/
structure Supervision where
  contacts : Vector Debouncer 8
  lines : Vector Line 8
  scan : Scan
  pins : Option (BitVec 8)
  sampleAt : Option Nat
deriving DecidableEq, Repr

/-! ### Fault Table and Status (R171, R172, R178) -/

/-- The fault kinds of R172, in the order of its table. -/
inductive FaultKind where
  | lineShort | lineOpen | lineUntested | ampFault | mainsBattery | spareAlarm | sensorHigh | sensorSilent
  | linkDisturbed | timeDoubtful | phraseStoreInvalid | linkErrors | nodeIdClash | phraseMissing | phraseUnderrun
  | templateFault | callMoveFailed | configClamped
deriving DecidableEq, Repr

/-- The state of a fault record (R171). -/
inductive FaultState where
  | activeUnack | activeAck | clearedUnack
deriving DecidableEq, Repr

/-- A time stamp: service day number and service minute (R171). -/
structure Stamp where
  day : Nat
  minute : Nat
deriving DecidableEq, Repr

/-- A fault record (R171). Nature and severity are fixed by the kind (R172). -/
structure FaultRecord where
  kind : FaultKind
  subject : Option Nat
  simulated : Bool
  state : FaultState
  firstSeen : Option Stamp
  lastChange : Option Stamp
  occurrences : Nat
  generation : Nat
  age : Nat
deriving DecidableEq, Repr

/-- A slot of the fault table with its report marks (R171, R176). -/
structure FaultSlot where
  record : Option FaultRecord
  reportPending : Bool
  staleAck : Bool
deriving DecidableEq, Repr

/-- The fault table (R171, R177). -/
structure FaultTable where
  slots : Vector FaultSlot 16
  testStep : Nat
deriving DecidableEq, Repr

/-- The sixteen counters, in the order of the table of R178. -/
inductive Counter where
  | rxGood | rxBad | rxUnauthorised | rxUnknown | txSent | txCollisions | txDropped | qRefused | annDone | annAborted
  | underruns | cuesMissed | staleEvent | callRefused | contested | faultsDropped
deriving DecidableEq, Repr

/-! ### The machine -/

/-- The state of the ZN816. `pending` is the queue of waiting commands; every other field is one block of the manual. -/
structure State where
  pending : List Instr
  startup : Startup
  link : Link
  clock : Clock
  calls : List CallRecord
  store : TemplateStore
  queue : Queue
  claims : Claims
  chans : Vector (Option ChanInst) 4
  port : Port
  zones : Vector Zone 8
  levels : Vector Level 8
  evac : Evac
  sup : Supervision
  faults : FaultTable
  counters : Vector Nat 16
deriving DecidableEq, Repr

/-- The reasons the machine stops with a fault. There is none: the spec gives every command an effect in every state. -/
inductive Fault where
deriving DecidableEq, Repr

/-- The reasons a command is refused. -/
inductive Refusal where
  /-- A command whose meaning is not written, raised by `exec` alone; safe, since nothing is then claimed of it. No command of this
  model is refused so. -/
  | notModelled (mnemonic : String)
deriving DecidableEq, Repr

/-! ### Reset values -/

/-- R1, R11, R19 after a cold start. -/
def Link.reset : Link :=
  { monitor := .unknown, idleRun := 0, nonIdleRun := 0, framingErrors := 0, disturbTimer := none, rxFrame := [], rxFaulty := false,
    discarding := false, slotCount := 0, queue := [], seqCounter := 0, budget := none, echoed := 0, echoAge := 0 }

/-- R21, R22 after a cold start. -/
def Clock.reset : Clock :=
  { now := 0, charPhase := 0, timeState := .unset, clockSecond := 0, serviceDay := 0, secondStart := 0, doubtTimer := none }

/-- R89 after a cold start. -/
def Queue.reset : Queue :=
  { entries := [], tagCounter := 0, seqCounter := 0, continuations := Vector.replicate 4 none, walkedAt := 0 }

/-- R107, R114, R124 after a cold start. -/
def Claims.reset : Claims := { own := Vector.replicate 4 none, occupancy := [], joinTimer := none }

/-- R138 after a cold start. -/
def Zone.reset : Zone :=
  { present := false, state := .idle, ampFault := false, lineStatus := .untested, gain := none, lastAudible := none }

/-- R141 after a cold start. -/
def Level.reset : Level :=
  { count := 0, overflow := false, user := .free, gate := none, quietAt := none, ambient := 120, lastUpdate := 0, highRun := 0,
    silentRun := 0, goodRun := 0, sensorFault := .none }

/-- R153 after a cold start. -/
def Evac.reset : Evac := { active := false, input := false, link := false, repeatAt := none }

/-- R161 after a cold start. -/
def Debouncer.reset : Debouncer := { level := .unknown, candidate := 0, previous := none }

/-- R166, R169 after a cold start. -/
def Line.reset : Line := { failRun := none, passRun := 0, skips := 0 }

/-- R164 after a cold start. -/
def Scan.reset : Scan := { roundAt := none, inRound := false, group := none, stage := none, stageAt := none }

/-- R161, R164, R166, R169 after a cold start. -/
def Supervision.reset : Supervision :=
  { contacts := Vector.replicate 8 Debouncer.reset, lines := Vector.replicate 8 Line.reset, scan := Scan.reset, pins := none,
    sampleAt := none }

/-- An empty slot of the fault table without marks. -/
def FaultSlot.empty : FaultSlot := { record := none, reportPending := false, staleAck := false }

/-- The state after a cold start (R183 and the rules it names), with no command waiting. -/
def State.reset : State :=
  { pending := [],
    startup := { phase := .start, step := .readConfig, resetHeld := false, config := none },
    link := Link.reset,
    clock := Clock.reset,
    calls := [],
    store := { valid := false, templates := [] },
    queue := Queue.reset,
    claims := Claims.reset,
    chans := Vector.replicate 4 none,
    port := { handedOver := false, transaction := none },
    zones := Vector.replicate 8 Zone.reset,
    levels := Vector.replicate 8 Level.reset,
    evac := Evac.reset,
    sup := Supervision.reset,
    faults := { slots := Vector.replicate 16 FaultSlot.empty, testStep := 0 },
    counters := Vector.replicate 16 0 }

end Sys2Proof.Machine
end

