-- ==== Sys2Proof/Machine/Ops.lean ====
section
/-! DEFINITION. Named access to the state: configuration, zones, channels, calls, time, counters and tables of eight. -/

namespace Sys2Proof.Machine

/-! ### Small tables -/

/-- The local zones, in order. -/
def allZones : List ZoneId := [0, 1, 2, 3, 4, 5, 6, 7]

/-- The channels, in order. -/
def allChans : List ChanId := [0, 1, 2, 3]

/-- The contact inputs, in order. -/
def allContacts : List ContactId := [0, 1, 2, 3, 4, 5, 6, 7]

/-- The seven cues of a plan, in the order of R56. -/
def allCues : List CueName := [.c1, .c2, .c3, .c4, .delay, .cancel, .alteration]

/-- A cue's place in its plan. -/
def CueName.idx : CueName → Fin 7
  | .c1 => 0 | .c2 => 1 | .c3 => 2 | .c4 => 3 | .delay => 4 | .cancel => 5 | .alteration => 6

/-- C1..C4 are plan cues, the other three special cues (R56). -/
def CueName.isPlan : CueName → Bool
  | .c1 | .c2 | .c3 | .c4 => true
  | .delay | .cancel | .alteration => false

/-- A train event's number less one (R185). -/
def TrainEvent.idx : TrainEvent → Fin 4
  | .approaching => 0 | .arrived => 1 | .doorsClosing => 2 | .departed => 3

/-- Event number 1..4 of the layouts (R185). -/
def eventOfNat : Nat → Option TrainEvent
  | 1 => some .approaching
  | 2 => some .arrived
  | 3 => some .doorsClosing
  | 4 => some .departed
  | _ => none

/-- The number 0..9 of a call state in the table of R34. -/
def CallState.idx : CallState → Nat
  | .planned => 0 | .approaching => 1 | .atPlatform => 2 | .closing => 3 | .moving => 4 | .departed => 5 | .terminated => 6
  | .cancelled => 7 | .moved => 8 | .moveFailed => 9

/-- The ten call states, in order. -/
def allCallStates : List CallState :=
  [.planned, .approaching, .atPlatform, .closing, .moving, .departed, .terminated, .cancelled, .moved, .moveFailed]

/-- The five live states of R34. -/
def CallState.isLive : CallState → Bool
  | .planned | .approaching | .atPlatform | .closing | .moving => true
  | .departed | .terminated | .cancelled | .moved | .moveFailed => false

/-- A table of eight made entry by entry. -/
def eight {α : Type} (f : Fin 8 → α) : Vector α 8 := ⟨#[f 0, f 1, f 2, f 3, f 4, f 5, f 6, f 7], rfl⟩

/-- The local zones whose bit is set in a mask byte (log entry 9). -/
def zonesOfMask (m : Nat) : ZoneSet := allZones.filter fun z => m.testBit z.val

/-- The union of two sets of zones, in order. -/
def zoneUnion (a b : ZoneSet) : ZoneSet := allZones.filter fun z => a.contains z || b.contains z

/-! ### Configuration -/

/-- A zone configuration with every item at nothing. -/
def blankZone : ZoneConfig :=
  { present := false, slot := none, neighbours := [], zoneMin := 0, zoneMax := 0, zoneFull := 0, defaultAmbient := 0, sensor := false,
    lo := 0, hi := 0 }

/-- A cue that is not used. -/
def blankCue : Cue :=
  { used := false, trigger := .beforeTime 0, template := 0, cls := 3, platformZones := false, concourse := [], window := [],
    repeatEvery := none, validity := 1 }

/-- What the node works with while no configuration is applied, in START and LIMITED. R160, R161: C0 is EVAC_TRIGGER, active low, with
p = 20 ms; every other contact is unused; the amplifier wake is 500 ms; there are no chimes, neighbours, platforms or masks.
DEDUCED (log entry 34). -/
def noConfig : NodeConfig :=
  { nodeId := 0, h0 := 0, samplePeriod := 20, gateLength := 200, staleLimit := 60, lateLimit := 0, delayThreshold := 1,
    rearmThreshold := 1, linger := 1, margin := Vector.replicate 4 0, batteryCut := 0, groupSize := 1, roundPeriod := 1,
    errorBudget := 1, ampWake := 500, evacTemplate := 0, chimes := Vector.replicate 5 4095, platforms := Vector.replicate 4 0,
    zones := Vector.replicate 8 blankZone, amplifiers := Vector.replicate 4 [],
    contacts := (Vector.replicate 8 { role := .unused, activeHigh := false }).set 0 { role := .evacTrigger, activeHigh := false },
    timetable := 0, describer := 0, desk := 0, evac := 0, timesrc := 0, peer := 0,
    arrivalPlan := Vector.replicate 7 blankCue, departurePlan := Vector.replicate 7 blankCue }

/-- The configuration in force. -/
def State.cfg (s : State) : NodeConfig := s.startup.config.getD noConfig

/-- The phases in which the node takes part on the link: JOINING and RUN (R180). -/
def State.onLink (s : State) : Bool := s.startup.phase = .joining || s.startup.phase = .run

/-- The global id of a local zone (R107). -/
def NodeConfig.globalZone (c : NodeConfig) (z : ZoneId) : Nat := 8 * c.nodeId + z.val

/-- The local zone that a global id names, if it is of this node (R93). -/
def NodeConfig.localZone (c : NodeConfig) (g : Nat) : Option ZoneId :=
  if g / 8 = c.nodeId then some ⟨g % 8, Nat.mod_lt g (by decide)⟩ else none

/-- The configured neighbours of a zone that belong to this node (R181). -/
def NodeConfig.localNeighbours (c : NodeConfig) (z : ZoneId) : List ZoneId := (c.zones[z]).neighbours.filterMap c.localZone

/-- The configured neighbours of a zone that belong to other nodes (R181). -/
def NodeConfig.remoteNeighbours (c : NodeConfig) (z : ZoneId) : List Nat :=
  (c.zones[z]).neighbours.filter fun g => (c.localZone g).isNone

/-- Whether a platform is one of the node's own (R37). Platform 0 marks an unused slot. -/
def NodeConfig.ownPlatform (c : NodeConfig) (p : Nat) : Bool := decide (p ≠ 0) && c.platforms.toList.contains p

/-! ### Zones and channels -/

/-- A zone of the zone table. -/
def State.zone (s : State) (z : ZoneId) : Zone := s.zones[z]

/-- Change one entry of the zone table. -/
def State.setZone (s : State) (z : ZoneId) (f : Zone → Zone) : State := { s with zones := s.zones.set z (f s.zones[z]) }

/-- The Level Controller's items of a zone. -/
def State.level (s : State) (z : ZoneId) : Level := s.levels[z]

/-- Change the Level Controller's items of one zone. -/
def State.setLevel (s : State) (z : ZoneId) (f : Level → Level) : State := { s with levels := s.levels.set z (f s.levels[z]) }

/-- Change the Supervision Unit's items of one zone. -/
def State.setLine (s : State) (z : ZoneId) (f : Line → Line) : State :=
  { s with sup := { s.sup with lines := s.sup.lines.set z (f s.sup.lines[z]) } }

/-- Change the scan state. -/
def State.setScan (s : State) (f : Scan → Scan) : State := { s with sup := { s.sup with scan := f s.sup.scan } }

/-- The instance on a channel; none on a FREE channel (R125). -/
def State.chan (s : State) (c : ChanId) : Option ChanInst := s.chans[c]

/-- Put an instance on a channel, or free it. -/
def State.setChan (s : State) (c : ChanId) (i : Option ChanInst) : State := { s with chans := s.chans.set c i }

/-- Change the instance on a channel, if there is one. -/
def State.updChan (s : State) (c : ChanId) (f : ChanInst → ChanInst) : State := s.setChan c ((s.chan c).map f)

/-- The zones a channel holds (R138). -/
def State.heldBy (s : State) (c : ChanId) : ZoneSet := allZones.filter fun z => (s.zone z).state = .held c

/-- The instance holding a zone, when the zone is HELD (R99). -/
def State.holder (s : State) (z : ZoneId) : Option ChanInst :=
  match (s.zone z).state with
  | .held c => s.chan c
  | _ => none

/-- The live input is in use from the dispatch of a LIVE entry until its channel is FREE (R98). -/
def State.liveInUse (s : State) : Bool :=
  allChans.any fun c =>
    match s.chan c with
    | some { key := some (.live _), .. } => true
    | _ => false

/-- The channel whose instance has a key. -/
def State.chanOfKey (s : State) (k : Key) : Option ChanId :=
  allChans.find? fun c => decide ((s.chan c).bind ChanInst.key = some k)

/-- The local zone table's zones in service for a dispatch: neither OFF nor flagged AMP_FAULT (R97). -/
def State.inService (s : State) (z : ZoneId) : Bool := decide ((s.zone z).state ≠ .off) && !(s.zone z).ampFault

/-! ### Time -/

/-- The running count, which has 40 bits, brought to a deadline that the event taken says has been reached (R21, log entry 2). -/
def State.advanceTo (s : State) (d : Nat) : State := { s with clock := { s.clock with now := max s.clock.now d % 2 ^ 40 } }

/-- The present running count. -/
def State.now (s : State) : Nat := s.clock.now

/-- The service second of R23. -/
def serviceSecond (h0 c : Nat) : Nat := (c + 86400 - h0 * 3600 % 86400) % 86400

/-- The service minute of R23. -/
def serviceMinute (h0 c : Nat) : Nat := serviceSecond h0 c / 60

/-- The clock minute of a service minute (R23, R80). -/
def clockMinute (h0 m : Nat) : Nat := (m + 60 * h0) % 1440

/-- The present service minute, or no time while UNSET (R22, R31). -/
def State.minuteNow (s : State) : Option Nat :=
  if s.clock.timeState = .unset then none else some (serviceMinute s.cfg.h0 s.clock.clockSecond)

/-- The present time as a stamp (R171). -/
def State.stampNow (s : State) : Option Stamp := s.minuteNow.map fun m => { day := s.clock.serviceDay, minute := m }

/-- The sub-second phase in ms (R22, R24, log entry 7). -/
def State.subSecond (s : State) : Nat := if s.clock.timeState = .unset then 0 else s.clock.now - s.clock.secondStart

/-! ### Counters -/

/-- A counter's place in the table of R178. -/
def Counter.idx : Counter → Fin 16
  | .rxGood => 0 | .rxBad => 1 | .rxUnauthorised => 2 | .rxUnknown => 3 | .txSent => 4 | .txCollisions => 5 | .txDropped => 6
  | .qRefused => 7 | .annDone => 8 | .annAborted => 9 | .underruns => 10 | .cuesMissed => 11 | .staleEvent => 12
  | .callRefused => 13 | .contested => 14 | .faultsDropped => 15

/-- Sixteen-bit saturating count (R178). -/
def satInc (n : Nat) : Nat := min (n + 1) 65535

/-- Count one event (R178). -/
def State.count (s : State) (k : Counter) : State := { s with counters := s.counters.set k.idx (satInc s.counters[k.idx]) }

/-! ### Calls -/

/-- The record of a call id (R32). -/
def State.call (s : State) (id : Nat) : Option CallRecord := s.calls.find? fun r => r.id = id

/-- Put a record in the list, in order of call id, in place of one of the same id. -/
def insertCall (r : CallRecord) : List CallRecord → List CallRecord
  | [] => [r]
  | q :: rest => if r.id < q.id then r :: q :: rest else if r.id = q.id then r :: rest else q :: insertCall r rest

/-- Create or change a record (R32). -/
def State.putCall (s : State) (r : CallRecord) : State := { s with calls := insertCall r s.calls }

/-- The base of a record (R33). -/
def CallRecord.base (r : CallRecord) : Nat := r.expected.getD r.scheduled

/-- A cue slot of a record. -/
def CallRecord.slot (r : CallRecord) (n : CueName) : CueSlot := r.slots[n.idx]

/-- Change a cue slot of a record. -/
def CallRecord.setSlot (r : CallRecord) (n : CueName) (c : CueSlot) : CallRecord := { r with slots := r.slots.set n.idx c }

/-- A slot as it is created or cleared (R33, R58). -/
def CueSlot.clear : CueSlot := { state := .idle, next := none, firedBase := none }

/-- The plan of a record's kind (R56). -/
def State.cue (s : State) (r : CallRecord) (n : CueName) : Cue :=
  match r.kind with
  | .arrival => s.cfg.arrivalPlan[n.idx]
  | .departure => s.cfg.departurePlan[n.idx]

/-- The number of pool cells not in use (R35). DEDUCED (log entry 8). -/
def poolFree (calls : List CallRecord) : Nat := 256 - (calls.map fun r => r.points.length).sum

/-! ### Results of a command -/

/-- A command's outcome. While the reset line is held the node does nothing (R180). DESIGN CHOICE (log entry 3). -/
def State.run (s : State) (f : State → State) : Host.Outcome State Fault Refusal := .next (if s.startup.resetHeld then s else f s)

end Sys2Proof.Machine
end

