-- ==== Sys2Proof/Machine/Faults.lean ====
section
/-! DEFINITION. The fault table by itself: kinds, raising, clearing, placing and acknowledging records, and the FAULT_REPORT
payload (R171 to R177, R187). -/

namespace Sys2Proof.Machine

/-- The number 1..18 of a fault kind (R187). -/
def FaultKind.code : FaultKind → Nat
  | .lineShort => 1 | .lineOpen => 2 | .lineUntested => 3 | .ampFault => 4 | .mainsBattery => 5 | .spareAlarm => 6
  | .sensorHigh => 7 | .sensorSilent => 8 | .linkDisturbed => 9 | .timeDoubtful => 10 | .phraseStoreInvalid => 11
  | .linkErrors => 12 | .nodeIdClash => 13 | .phraseMissing => 14 | .phraseUnderrun => 15 | .templateFault => 16
  | .callMoveFailed => 17 | .configClamped => 18

/-- The nature of a kind is condition, not event (R172). -/
def FaultKind.isCondition : FaultKind → Bool
  | .lineShort | .lineOpen | .lineUntested | .ampFault | .mainsBattery | .spareAlarm | .sensorHigh | .sensorSilent
  | .linkDisturbed | .timeDoubtful | .phraseStoreInvalid => true
  | .linkErrors | .nodeIdClash | .phraseMissing | .phraseUnderrun | .templateFault | .callMoveFailed | .configClamped => false

/-- The severity of a kind is MAJOR, not MINOR (R172). -/
def FaultKind.isMajor : FaultKind → Bool
  | .lineShort | .ampFault | .mainsBattery | .linkDisturbed | .phraseStoreInvalid | .nodeIdClash => true
  | .lineOpen | .lineUntested | .spareAlarm | .sensorHigh | .sensorSilent | .timeDoubtful | .linkErrors | .phraseMissing
  | .phraseUnderrun | .templateFault | .callMoveFailed | .configClamped => false

/-- The number of a record state (R187). -/
def FaultState.code : FaultState → Nat
  | .activeUnack => 0 | .activeAck => 1 | .clearedUnack => 2

/-- A record in ACTIVE_UNACK or ACTIVE_ACK. -/
def FaultRecord.isActive (r : FaultRecord) : Bool := decide (r.state ≠ .clearedUnack)

/-- The slots of the fault table, in order. -/
def allSlots : List (Fin 16) := [0, 1, 2, 3, 4, 5, 6, 7, 8, 9, 10, 11, 12, 13, 14, 15]

/-- The key of a record: kind, subject and simulated flag (R171). -/
def FaultRecord.hasKey (r : FaultRecord) (k : FaultKind) (subject : Option Nat) (simulated : Bool) : Bool :=
  decide (r.kind = k) && decide (r.subject = subject) && decide (r.simulated = simulated)

/-- The slot holding the record of a key. -/
def FaultTable.find (t : FaultTable) (k : FaultKind) (subject : Option Nat) (simulated : Bool) : Option (Fin 16) :=
  allSlots.find? fun i => (t.slots[i].record).any fun r => r.hasKey k subject simulated

/-- The slot of the record with the oldest age among those that satisfy `p`; of equal ages the lower slot (R174).
DESIGN CHOICE (log entry 48). -/
def FaultTable.oldest (t : FaultTable) (p : FaultRecord → Bool) : Option (Fin 16) :=
  allSlots.foldl
    (fun best i =>
      match t.slots[i].record, best with
      | none, _ => best
      | some r, none => if p r then some i else none
      | some r, some j =>
        if p r && (t.slots[j].record).any (fun q => decide (r.age < q.age)) then some i else some j)
    none

/-- The slot that a new record takes (R174). -/
def FaultTable.place (t : FaultTable) (major : Bool) : Option (Fin 16) :=
  match allSlots.find? fun i => (t.slots[i].record).isNone with
  | some i => some i
  | none =>
    match t.oldest fun r => decide (r.state = .clearedUnack) with
    | some i => some i
    | none => if major then t.oldest fun r => !r.kind.isMajor && decide (r.state = .activeAck) else none

/-- Put a record in a slot and mark the slot for a report (R176). -/
def FaultTable.write (t : FaultTable) (i : Fin 16) (r : Option FaultRecord) : FaultTable :=
  { t with slots := t.slots.set i { t.slots[i] with record := r, reportPending := true } }

/-- A raise applied to a record (R173). -/
def FaultRecord.raised (r : FaultRecord) (stamp : Option Stamp) (now : Nat) : FaultRecord :=
  { r with
    occurrences := min (r.occurrences + 1) 255,
    generation := (r.generation + 1) % 256,
    lastChange := stamp,
    age := now,
    state := if r.kind.isCondition then .activeUnack else .clearedUnack }

/-- A record as R173 starts it, before its first raise is applied. -/
def FaultRecord.new (k : FaultKind) (subject : Option Nat) (simulated : Bool) (stamp : Option Stamp) : FaultRecord :=
  { kind := k, subject := subject, simulated := simulated, state := .activeUnack, firstSeen := stamp, lastChange := stamp,
    occurrences := 0, generation := 0, age := 0 }

/-- A raise (R173, R174); none when it is dropped. -/
def FaultTable.raise (t : FaultTable) (k : FaultKind) (subject : Option Nat) (simulated : Bool) (stamp : Option Stamp) (now : Nat) :
    Option FaultTable :=
  match t.find k subject simulated with
  | some i => some (t.write i ((t.slots[i].record).map fun r => r.raised stamp now))
  | none =>
    match t.place k.isMajor with
    | some i => some (t.write i (some ((FaultRecord.new k subject simulated stamp).raised stamp now)))
    | none => none

/-- A clear applied to a record (R173). -/
def FaultRecord.cleared (r : FaultRecord) (stamp : Option Stamp) (now : Nat) : FaultRecord :=
  { r with state := .clearedUnack, lastChange := stamp, age := now }

/-- A clear of a real condition (R173). -/
def FaultTable.clear (t : FaultTable) (k : FaultKind) (subject : Option Nat) (stamp : Option Stamp) (now : Nat) : FaultTable :=
  match t.find k subject false with
  | some i =>
    match t.slots[i].record with
    | some r => if r.isActive then t.write i (some (r.cleared stamp now)) else t
    | none => t
  | none => t

/-- Whether a real record of a key is held and active (R162). -/
def FaultTable.hasActive (t : FaultTable) (k : FaultKind) (subject : Option Nat) : Bool :=
  match t.find k subject false with
  | some i => (t.slots[i].record).any FaultRecord.isActive
  | none => false

/-- An acknowledgement of a slot with a generation (R175). DEDUCED (log entry 37). -/
def FaultTable.ack (t : FaultTable) (i : Fin 16) (generation : Nat) : FaultTable :=
  match t.slots[i].record with
  | none => t
  | some r =>
    if r.generation = generation then
      match r.state with
      | .activeUnack => t.write i (some { r with state := .activeAck })
      | .activeAck => t
      | .clearedUnack => t.write i none
    else { t with slots := t.slots.set i { t.slots[i] with staleAck := true } }

/-- The number of occupied slots (R179). -/
def FaultTable.occupied (t : FaultTable) : Nat := (allSlots.filter fun i => (t.slots[i].record).isSome).length

/-- The simulated fault of a test step (R177). -/
def stepFault : Nat → Option FaultKind
  | 1 => some .lineShort
  | 2 => some .ampFault
  | 3 => some .mainsBattery
  | 4 => some .sensorHigh
  | 5 => some .linkDisturbed
  | 6 => some .phraseUnderrun
  | 7 => some .callMoveFailed
  | _ => none

/-- Free the simulated record, if one is held (R177). -/
def FaultTable.freeSimulated (t : FaultTable) : FaultTable :=
  match allSlots.find? fun i => (t.slots[i].record).any fun r => r.simulated with
  | some i => t.write i none
  | none => t

/-- Mark every occupied slot for a report (R176). -/
def FaultTable.markAll (t : FaultTable) : FaultTable :=
  { t with slots := ⟨(t.slots.toList.map fun x => if x.record.isSome then { x with reportPending := true } else x).toArray, by simp⟩ }

/-- The table after a warm reset: real records kept, simulated ones freed, marks cleared, step 0 (R171, R177). -/
def FaultTable.warm (t : FaultTable) : FaultTable :=
  { slots :=
      ⟨(t.slots.toList.map fun x =>
          { record := x.record.filter fun r => !r.simulated, reportPending := false, staleAck := false : FaultSlot }).toArray, by simp⟩,
    testStep := 0 }

/-- A flag as a bit of a byte. -/
def bit (b : Bool) (n : Nat) : Nat := if b then 2 ^ n else 0

/-- A stamp in a report (R187). An absent stamp has minute 0xFFFF and day 0. -/
def stampBytes : Option Stamp → List Byte
  | none => word16 0 ++ word16 0xFFFF
  | some t => word16 t.day ++ word16 t.minute

/-- The FAULT_REPORT payload of a slot (R187). DESIGN CHOICE (log entry 57). -/
def reportPayload (i : Fin 16) (x : Option FaultRecord) (stale : Bool) : List Byte :=
  match x with
  | none => byte i.val :: byte (bit stale 5) :: List.replicate 13 0#8
  | some r =>
    [byte i.val,
     byte (bit true 7 + bit r.simulated 6 + bit stale 5 + bit (!r.kind.isCondition) 4 + bit r.kind.isMajor 3
       + bit r.subject.isSome 2 + r.state.code),
     byte r.kind.code] ++ word16 (r.subject.getD 0xFFFF) ++ stampBytes r.firstSeen ++ stampBytes r.lastChange
      ++ [byte r.occurrences, byte r.generation]

end Sys2Proof.Machine
end

