-- ==== Sys2Proof/Machine/Transmit.lean ====
section
/-! DEFINITION. The transmit frame queue (R10 to R15), the reports of the fault table that it carries (R176), and raising and
clearing faults. -/

namespace Sys2Proof.Machine

/-- A frame as its block offers it (R11): no tag, no marks, not yet in the queue. -/
def plainFrame (dest : Nat) (kind : FrameKind) (payload : List Byte) (access : Nat) : TxFrame :=
  { dest := dest, kind := kind, payload := payload, access := access, seq := 0, retry := 0, sending := false, tag := none,
    firstMark := false, successor := none, released := false }

/-- Insert the youngest frame in order of access class, then age (R11). -/
def insertFrame (f : TxFrame) : List TxFrame → List TxFrame
  | [] => [f]
  | g :: rest => if g.access ≤ f.access then g :: insertFrame f rest else f :: g :: rest

/-- A frame joins the queue with the next sequence number (R11). -/
def Link.join (l : Link) (f : TxFrame) : Link :=
  { l with queue := insertFrame { f with seq := l.seqCounter } l.queue, seqCounter := (l.seqCounter + 1) % 2 ^ 32 }

/-- A frame that R12 may evict: PENDING, of access class 3. -/
def TxFrame.evictable (f : TxFrame) : Bool := decide (f.access = 3) && !f.sending

/-- A new frame that no coalescing rule absorbs (R11, R12). -/
def State.txInsert (s : State) (f : TxFrame) : State :=
  if s.link.queue.length < 8 then { s with link := s.link.join f }
  else if s.link.queue.any TxFrame.evictable then
    ({ s with link := { s.link with queue := s.link.queue.eraseP TxFrame.evictable }.join f }).count .txDropped
  else s.count .txDropped

/-- Whether a queued frame is the CLAIM of a tag. -/
def TxFrame.isClaimOf (g : TxFrame) (tag : Option Nat) : Bool := decide (g.kind = .claim) && decide (g.tag = tag)

/-- Change every frame of the queue. -/
def State.mapQueue (s : State) (f : TxFrame → TxFrame) : State := { s with link := { s.link with queue := s.link.queue.map f } }

/-- A CLAIM offered (R13). -/
def State.txClaim (s : State) (f : TxFrame) : State :=
  if s.link.queue.any fun g => g.isClaimOf f.tag then
    s.mapQueue fun g =>
      if g.isClaimOf f.tag then
        if g.sending then { g with successor := some f.payload } else { g with payload := f.payload }
      else g
  else s.txInsert f

/-- A RELEASE offered (R14). -/
def State.txRelease (s : State) (f : TxFrame) : State :=
  match s.link.queue.find? fun g => g.isClaimOf f.tag with
  | none => s.txInsert f
  | some g =>
    if g.sending then
      (s.mapQueue fun h => if h.isClaimOf f.tag then { h with successor := none, released := true } else h).txInsert f
    else
      let s := { s with link := { s.link with queue := s.link.queue.eraseP fun h => h.isClaimOf f.tag } }
      if g.firstMark then s else s.txInsert f

/-- Whether a queued frame is a PENDING EVAC_START. -/
def TxFrame.isPendingEvacStart (g : TxFrame) : Bool := decide (g.kind = .evacStart) && !g.sending

/-- An EVAC_START offered (R15). -/
def State.txEvacStart (s : State) (f : TxFrame) : State :=
  if s.link.queue.any TxFrame.isPendingEvacStart then
    s.mapQueue fun g => if g.isPendingEvacStart then { g with payload := f.payload } else g
  else s.txInsert f

/-- A frame offered to the queue. In START and LIMITED it is discarded (R11). -/
def State.txOffer (s : State) (f : TxFrame) : State :=
  if s.onLink then
    match f.kind with
    | .claim => s.txClaim f
    | .release => s.txRelease f
    | .evacStart => s.txEvacStart f
    | _ => s.txInsert f
  else s

/-- The lowest-numbered slot with a report mark (R176). -/
def FaultTable.firstMarked (t : FaultTable) : Option (Fin 16) :=
  allSlots.find? fun i => t.slots[i].reportPending || t.slots[i].staleAck

/-- Offer the report of one slot and clear its marks (R176). -/
def State.report (s : State) (i : Fin 16) : State :=
  let x := s.faults.slots[i]
  { s with faults := { s.faults with slots := s.faults.slots.set i { x with reportPending := false, staleAck := false } } }.txOffer
    (plainFrame 0 .faultReport (reportPayload i x.record x.staleAck) 3)

/-- The table offers reports while none of its own is in the queue (R176). A report that the queue refuses is reported dropped at once and
the next one is offered; each offer clears a slot's marks, so sixteen suffice. -/
def pumpN : Nat → State → State
  | 0, s => s
  | n + 1, s =>
    if s.onLink && !(s.link.queue.any fun g => decide (g.kind = .faultReport)) then
      match s.faults.firstMarked with
      | some i => pumpN n (s.report i)
      | none => s
    else s

/-- R176, at every moment at which one of its two conditions may have come true. -/
def State.pump (s : State) : State := pumpN 16 s

/-- A block offers a frame; a report of the fault table that it evicts is followed by the next report (R12, R176). -/
def State.offer (s : State) (f : TxFrame) : State := (s.txOffer f).pump

/-- A block raises a fault (R173, R174). -/
def State.raiseAs (s : State) (k : FaultKind) (subject : Option Nat) (simulated : Bool) : State :=
  match s.faults.raise k subject simulated s.stampNow s.now with
  | some t => ({ s with faults := t } : State).pump
  | none => s.count .faultsDropped

/-- A block raises a real fault. -/
def State.raise (s : State) (k : FaultKind) (subject : Option Nat) : State := s.raiseAs k subject false

/-- A block clears a condition (R173). -/
def State.clear (s : State) (k : FaultKind) (subject : Option Nat) : State :=
  ({ s with faults := s.faults.clear k subject s.stampNow s.now } : State).pump

/-- The frame that is on the line (R11). -/
def State.sendingFrame (s : State) : Option TxFrame := s.link.queue.find? fun g => g.sending

/-- DE, the line-driver enable: asserted while a frame is SENDING (R7, R9). -/
def State.driverEnable (s : State) : Bool := s.sendingFrame.isSome

/-- What a collision makes of the frame that was SENDING, when R14 has not marked it released (R9, R10, R13). -/
def TxFrame.collided (g : TxFrame) : TxFrame :=
  { g with sending := false, payload := g.successor.getD g.payload, successor := none, retry := g.retry + 1 }

/-- The queue after a collision of the frame `g` (R9, R10, R13, R14), and whether R10 dropped it. -/
def collideQueue (q : List TxFrame) (g : TxFrame) : List TxFrame :=
  let rest := q.eraseP fun h => h.sending
  if g.released then
    if g.firstMark then rest.eraseP fun h => decide (h.kind = .release) && decide (h.tag = g.tag) else rest
  else if g.retry < 8 then q.map fun h => if h.sending then h.collided else h
  else rest

/-- A collision (R9): transmission stops, the retry rule is applied, and the receiver enters the discard span. -/
def State.collide (s : State) : State :=
  match s.sendingFrame with
  | none => s
  | some g =>
    let s := ({ s with
      link := { s.link with queue := collideQueue s.link.queue g, discarding := true, echoed := 0, echoAge := 0 } } : State).count .txCollisions
    if !g.released && decide (8 ≤ g.retry) then (s.count .txDropped).pump else s.pump

/-- The queue after the transmission of `g` completed (R9, R13). -/
def Link.completed (l : Link) (g : TxFrame) : Link :=
  let l' := { l with queue := l.queue.eraseP fun h => h.sending }
  match g.successor with
  | some p => l'.join { g with payload := p, sending := false, retry := 0, firstMark := false, successor := none }
  | none => l'

/-- The slot of a frame (R7). -/
def frameSlot (nodeId : Nat) (f : TxFrame) : Nat :=
  4 * f.access + nodeId % 4 + if f.retry = 0 then 0 else (5 * nodeId + 3 * f.retry) % 16

end Sys2Proof.Machine
end

