-- ==== Sys2Proof/Machine/Operands.lean ====
section
/-! DEFINITION. The payloads of received frames read and tested as R185 and R186 lay them out, and the payloads that the node builds in
the same layouts. A reader answers none where the layout says "ignore". -/

namespace Sys2Proof.Machine

/-- The kind codes of the frame-kind table (14_frame_and_record_layouts.md). -/
def FrameKind.code : FrameKind → Nat
  | .time => 0x01 | .callPost => 0x10 | .callAmend => 0x11 | .callCancel => 0x12 | .callMove => 0x13 | .trainEvent => 0x14
  | .callHandover => 0x18 | .callAdopt => 0x19 | .callRefuse => 0x1A | .announce => 0x20 | .announceStop => 0x21
  | .liveOpen => 0x24 | .liveKeep => 0x25 | .liveClose => 0x26 | .announceResult => 0x28 | .evacStart => 0x30 | .evacStop => 0x31
  | .claim => 0x40 | .release => 0x41 | .faultReport => 0x50 | .faultAck => 0x51 | .testStep => 0x52 | .statusQuery => 0x58
  | .nodeStatus => 0x59

/-- The twenty-four kinds of the table. -/
def allKinds : List FrameKind :=
  [.time, .callPost, .callAmend, .callCancel, .callMove, .trainEvent, .callHandover, .callAdopt, .callRefuse, .announce, .announceStop,
   .liveOpen, .liveKeep, .liveClose, .announceResult, .evacStart, .evacStop, .claim, .release, .faultReport, .faultAck, .testStep,
   .statusQuery, .nodeStatus]

/-- The kind of a kind code, if the table names it (R17, check 4). -/
def kindOfCode (n : Nat) : Option FrameKind := allKinds.find? fun k => k.code = n

/-- The `n` bytes from `i`, as numbers. -/
def bytesFrom (b : List Byte) (i n : Nat) : List Nat := (List.range n).map fun j => u8 b (i + j)

/-- The `n` codes from `i`, clamped to 4095 (R185). -/
def codesFrom (b : List Byte) (i n : Nat) : List Nat := (List.range n).map fun j => min (u16 b (i + 2 * j)) 4095

/-- A platform in 1..40. -/
def validPlatform (p : Nat) : Bool := decide (1 ≤ p) && decide (p ≤ 40)

/-- A minute that is in range or absent. -/
def validMinute (m : Nat) : Bool := decide (m ≤ 1439) || decide (m = 0xFFFF)

/-- A number clamped to a range. -/
def clampTo (lo hi n : Nat) : Nat := max lo (min hi n)

/-! ### Received payloads (R185) -/

/-- The fields of a TIME frame. -/
structure TimeFields where
  day : Nat
  second : Nat
deriving DecidableEq, Repr

/-- TIME (R185). -/
def readTime (b : List Byte) : Option TimeFields :=
  if b.length = 5 ∧ u24 b 2 ≤ 86399 then some { day := u16 b 0, second := u24 b 2 } else none

/-- The fields of a CALL_POST frame. -/
structure PostFields where
  id : Nat
  platform : Nat
  kind : CallKind
  scheduled : Nat
  expected : Option Nat
  destination : Nat
  origin : Option Nat
  carriages : Option Nat
  points : List Nat
deriving DecidableEq, Repr

/-- Carriages, 0 for absent. -/
def optCarriages (n : Nat) : Option Nat := if n = 0 then none else some n

/-- CALL_POST (R185). -/
def readPost (b : List Byte) : Option PostFields :=
  if 14 ≤ b.length ∧ b.length = 14 + 2 * u8 b 13 ∧ validPlatform (u8 b 2) ∧ u8 b 3 ≤ 1 ∧ u16 b 4 ≤ 1439 ∧ validMinute (u16 b 6)
      ∧ u8 b 13 ≤ 16 then
    some
      { id := u16 b 0, platform := u8 b 2, kind := if u8 b 3 = 0 then .arrival else .departure, scheduled := u16 b 4,
        expected := optMinute (u16 b 6), destination := min (u16 b 8) 4095, origin := opt12 (min (u16 b 10) 4095),
        carriages := (optCarriages (u8 b 12)).map fun n => min n 59, points := codesFrom b 14 (u8 b 13) }
  else none

/-- The fields of a CALL_AMEND frame. -/
structure AmendFields where
  id : Nat
  expected : Option Nat
deriving DecidableEq, Repr

/-- CALL_AMEND (R185). -/
def readAmend (b : List Byte) : Option AmendFields :=
  if b.length = 4 ∧ validMinute (u16 b 2) then some { id := u16 b 0, expected := optMinute (u16 b 2) } else none

/-- CALL_CANCEL (R185): the call id. -/
def readCancel (b : List Byte) : Option Nat := if b.length = 2 then some (u16 b 0) else none

/-- A call id and a platform. -/
structure CallPlatform where
  id : Nat
  platform : Nat
deriving DecidableEq, Repr

/-- CALL_MOVE and CALL_ADOPT (R185). -/
def readCallPlatform (b : List Byte) : Option CallPlatform :=
  if b.length = 3 ∧ validPlatform (u8 b 2) then some { id := u16 b 0, platform := u8 b 2 } else none

/-- CALL_REFUSE (R185); any reason is taken. -/
def readRefuse (b : List Byte) : Option CallPlatform :=
  if b.length = 4 ∧ validPlatform (u8 b 2) then some { id := u16 b 0, platform := u8 b 2 } else none

/-- The fields of a TRAIN_EVENT frame. -/
structure EventFields where
  id : Nat
  event : TrainEvent
deriving DecidableEq, Repr

/-- TRAIN_EVENT (R185). -/
def readEvent (b : List Byte) : Option EventFields :=
  if b.length = 3 then (eventOfNat (u8 b 2)).map fun e => { id := u16 b 0, event := e } else none

/-- The fields of an ANNOUNCE frame. -/
structure AnnounceFields where
  tag : Nat
  cls : Nat
  template : Nat
  validity : Nat
  repetition : Repeat
  params : List (Option Nat)
  zones : List Nat
deriving DecidableEq, Repr

/-- The repeat of an ANNOUNCE (R93, R185): kind, value and count. -/
def readRepeat (kind value count : Nat) : Option Repeat :=
  match kind with
  | 0 => some .once
  | 1 => some (.every (clampTo 1 30 value) (if count = 0 then none else some (min count 99)))
  | 2 => some (.continuous (clampTo 1 60 value))
  | _ => none

/-- ANNOUNCE (R185). -/
def readAnnounce (b : List Byte) : Option AnnounceFields :=
  if 16 ≤ b.length ∧ b.length = 16 + u8 b 15 ∧ (u8 b 1 = 1 ∨ u8 b 1 = 3 ∨ u8 b 1 = 4) ∧ u8 b 15 ≠ 0 then
    (readRepeat (u8 b 4) (u8 b 5) (u8 b 6)).map fun r =>
      { tag := u8 b 0, cls := u8 b 1, template := u8 b 2, validity := min (u8 b 3) 60, repetition := r,
        params := (codesFrom b 7 4).map opt12, zones := bytesFrom b 16 (u8 b 15) }
  else none

/-- ANNOUNCE_STOP (R185): the desk tag. -/
def readStop (b : List Byte) : Option Nat := if b.length = 1 then some (u8 b 0) else none

/-- LIVE_OPEN (R185): the zones. -/
def readLiveOpen (b : List Byte) : Option (List Nat) :=
  if 1 ≤ b.length ∧ b.length = 1 + u8 b 0 ∧ u8 b 0 ≠ 0 then some (bytesFrom b 1 (u8 b 0)) else none

/-- An empty payload (R185). -/
def readEmpty (b : List Byte) : Option Unit := if b.length = 0 then some () else none

/-- The fields of a CLAIM frame. -/
structure ClaimFields where
  tag : Nat
  cls : Nat
  established : Bool
  zones : List Nat
deriving DecidableEq, Repr

/-- CLAIM (R185); an established flag above 1 is clamped to 1. -/
def readClaim (b : List Byte) : Option ClaimFields :=
  if 4 ≤ b.length ∧ b.length = 4 + u8 b 3 ∧ u8 b 1 ≤ 4 ∧ 1 ≤ u8 b 3 ∧ u8 b 3 ≤ 8 then
    some { tag := u8 b 0, cls := u8 b 1, established := decide (u8 b 2 ≠ 0), zones := bytesFrom b 4 (u8 b 3) }
  else none

/-- RELEASE (R185): the tag; any reason is taken. -/
def readRelease (b : List Byte) : Option Nat := if b.length = 2 then some (u8 b 0) else none

/-- The fields of a FAULT_ACK frame. -/
structure AckFields where
  slot : Fin 16
  generation : Nat
deriving DecidableEq, Repr

/-- FAULT_ACK (R185). -/
def readAck (b : List Byte) : Option AckFields :=
  if b.length = 2 then
    if h : u8 b 0 < 16 then some { slot := ⟨u8 b 0, h⟩, generation := u8 b 1 } else none
  else none

/-- STATUS_QUERY (R185): the flags byte. -/
def readQuery (b : List Byte) : Option Nat := if b.length = 1 then some (u8 b 0) else none

/-! ### CALL_HANDOVER (R47, R186) -/

/-- What a CALL_HANDOVER carries (R47, R186). -/
structure Handover where
  id : Nat
  oldPlatform : Nat
  target : Nat
  kind : CallKind
  state : CallState
  carriages : Option Nat
  posted : Nat
  scheduled : Nat
  expected : Option Nat
  destination : Nat
  origin : Option Nat
  events : Vector (Option Nat) 4
  lastDelay : Option Nat
  slots : Vector CueSlot 7
  points : List Nat
deriving DecidableEq, Repr

/-- A carried state's number, for those that are accepted (R186). -/
def carriedState : Nat → Option CallState
  | 0 => some .planned
  | 1 => some .approaching
  | 2 => some .atPlatform
  | 3 => some .closing
  | 7 => some .cancelled
  | _ => none

/-- The number of a slot state (R186). -/
def SlotState.code : SlotState → Nat
  | .idle => 0 | .armed => 1 | .fired => 2 | .missed => 3

/-- The slot state of a number 0..3 (R186). -/
def slotStateOf : Nat → SlotState
  | 0 => .idle
  | 1 => .armed
  | 2 => .fired
  | _ => .missed

/-- A carried cue slot: two bits of state, twelve of fired base; next instants are not carried (R47, R186). -/
def readSlot (w : Nat) : CueSlot := { state := slotStateOf (w / 16384), next := none, firedBase := opt12 (w % 4096) }

/-- A cue slot as it is carried. -/
def slotWord (c : CueSlot) : Nat := c.state.code * 16384 + c.firedBase.getD 4095

/-- A twelve-bit minute that is in range or absent. -/
def validMinute12 (m : Nat) : Bool := decide (m ≤ 1439) || decide (m = 4095)

/-- CALL_HANDOVER (R186). DEDUCED (log entry 27). DESIGN CHOICE (log entries 53 and 56). -/
def readHandover (b : List Byte) : Option Handover :=
  let v := unrun12 9 (b.drop 8)
  let at' (i : Nat) : Nat := v.getD i 4095
  let s := u8 b 7
  let posted := u8 b 6 % 32
  let kind := if u8 b 4 / 128 = 1 then CallKind.departure else CallKind.arrival
  if 36 ≤ b.length ∧ b.length = 36 + (3 * s + 1) / 2 ∧ validPlatform (u8 b 2) ∧ validPlatform (u8 b 3) ∧ posted ≤ 16 ∧ s ≤ posted
      ∧ at' 0 ≤ 1439 ∧ validMinute12 (at' 1) ∧ validMinute12 (at' 4) ∧ validMinute12 (at' 5) ∧ validMinute12 (at' 6)
      ∧ validMinute12 (at' 7) ∧ validMinute12 (at' 8) then
    match carriedState (u8 b 4 % 16) with
    | none => none
    | some st =>
      if kind = .arrival ∧ (st = .atPlatform ∨ st = .closing) then none
      else
        some
          { id := u16 b 0, oldPlatform := u8 b 2, target := u8 b 3, kind := kind, state := st, carriages := optCarriages (u8 b 5),
            posted := posted, scheduled := at' 0, expected := opt12 (at' 1), destination := at' 2, origin := opt12 (at' 3),
            events := #v[opt12 (at' 4), opt12 (at' 5), opt12 (at' 6), opt12 (at' 7)], lastDelay := opt12 (at' 8),
            slots := #v[readSlot (u16 b 22), readSlot (u16 b 24), readSlot (u16 b 26), readSlot (u16 b 28), readSlot (u16 b 30),
              readSlot (u16 b 32), readSlot (u16 b 34)],
            points := unrun12 s (b.drop 36) }
  else none

/-- The CALL_HANDOVER payload (R186). DESIGN CHOICE (log entry 56). -/
def handoverPayload (h : Handover) : List Byte :=
  word16 h.id
    ++ [byte h.oldPlatform, byte h.target, byte ((match h.kind with | .departure => 128 | .arrival => 0) + h.state.idx),
        byte (h.carriages.getD 0), byte ((if h.points.length < h.posted then 128 else 0) + h.posted), byte h.points.length]
    ++ run12 [h.scheduled, h.expected.getD 4095, h.destination, h.origin.getD 4095, h.events[0].getD 4095, h.events[1].getD 4095,
        h.events[2].getD 4095, h.events[3].getD 4095, h.lastDelay.getD 4095]
    ++ (word16 (slotWord h.slots[0]) ++ word16 (slotWord h.slots[1]) ++ word16 (slotWord h.slots[2]) ++ word16 (slotWord h.slots[3])
        ++ word16 (slotWord h.slots[4]) ++ word16 (slotWord h.slots[5]) ++ word16 (slotWord h.slots[6]))
    ++ run12 h.points

/-! ### Payloads the node builds (R185, R187) -/

/-- CLAIM (R185). -/
def claimPayload (tag cls : Nat) (established : Bool) (zones : List Nat) : List Byte :=
  [byte tag, byte cls, byte (if established then 1 else 0), byte zones.length] ++ zones.map byte

/-- RELEASE (R185). -/
def releasePayload (tag reason : Nat) : List Byte := [byte tag, byte reason]

/-- CALL_ADOPT (R185). -/
def adoptPayload (id platform : Nat) : List Byte := word16 id ++ [byte platform]

/-- CALL_REFUSE with reason TABLE_FULL (R40, R185). -/
def refusePayload (id platform : Nat) : List Byte := word16 id ++ [byte platform, byte 1]

/-- The number of a result in the table of R106 (R187); ABORTED, which the table lacks, has an open number (log entry 38). -/
def Result.code : Result → Nat
  | .done => 0 | .expired => 1 | .evicted => 2 | .queueFull => 3 | .obsolete => 4 | .stopped => 5 | .preempted => 6
  | .contended => 7 | .noZone => 8 | .suppressed => 9 | .assemblyFault => 10 | .underrun => 11 | .purged => 12 | .busy => 13
  | .aborted => Config.abortedResult.toNat

/-- ANNOUNCE_RESULT for a desk tag, or for LIVE (R187). -/
def resultPayload (deskTag : Option Nat) (r : Result) : List Byte :=
  match deskTag with
  | some t => [byte 0, byte t, byte r.code]
  | none => [byte 1, byte 0, byte r.code]

end Sys2Proof.Machine
end

