-- ==== Sys2Proof/Machine/Images.lean ====
section
/-! DEFINITION. The configuration image (R181, R189) and the phrase image as far as START reads it (R75, R182, R188). -/

namespace Sys2Proof.Machine

/-- A value read from the image, and whether it was clamped (R181). -/
abbrev Clamped (α : Type) := α × Bool

/-- A numeric field brought to the nearest value in range (R181). -/
def clamped (lo hi n : Nat) : Clamped Nat := (clampTo lo hi n, decide (n < lo) || decide (hi < n))

/-- A field that must be one of a few values, else the value its rule names (R181). -/
def oneOf (l : List Nat) (d n : Nat) : Clamped Nat := if l.contains n then (n, false) else (d, true)

/-- Whether any of several fields was clamped. -/
def anyOf (l : List Bool) : Bool := l.any id

/-- The zone record of 21 bytes at `at'` (R148, R165, R189), given the owned platforms. DESIGN CHOICE (log entry 44). -/
def readZone (b : List Byte) (at' : Nat) (platforms : Vector Nat 4) : Clamped ZoneConfig :=
  let role := clamped 0 1 (u8 b (at' + 1))
  let slot := clamped 0 3 (u8 b (at' + 2))
  let ids := bytesFrom b (at' + 4) (min (u8 b (at' + 3)) 4)
  let zmin := clamped 200 480 (u16 b (at' + 8))
  let zmax := clamped 200 480 (u16 b (at' + 10))
  let full := clamped 240 520 (u16 b (at' + 12))
  let d := clamped 120 520 (u16 b (at' + 14))
  let lo := clamped 0 4095 (u16 b (at' + 17))
  let hi := clamped 0 4095 (u16 b (at' + 19))
  ({ present := decide (u8 b at' ≠ 0),
     slot := if role.1 = 0 ∧ platforms.toList.getD slot.1 0 ≠ 0 then some slot.1 else none,
     neighbours := ids.filter fun g => decide (8 ≤ g),
     zoneMin := zmin.1, zoneMax := max zmax.1 zmin.1, zoneFull := full.1, defaultAmbient := d.1,
     sensor := decide (u8 b (at' + 16) ≠ 0), lo := lo.1, hi := max hi.1 lo.1 },
   anyOf [role.2, slot.2, ids.any fun g => decide (g < 8), zmin.2, zmax.2, decide (zmax.1 < zmin.1), full.2, d.2, lo.2, hi.2,
     decide (hi.1 < lo.1)])

/-- A contact's role (R162, R189); a role above 7 is UNUSED. -/
def readRole : Nat → Clamped ContactRole
  | 0 => (.unused, false)
  | 1 => (.evacTrigger, false)
  | 2 => (.ampFault 0, false)
  | 3 => (.ampFault 1, false)
  | 4 => (.ampFault 2, false)
  | 5 => (.ampFault 3, false)
  | 6 => (.mainsBattery, false)
  | 7 => (.spareAlarm, false)
  | _ => (.unused, true)

/-- A contact record of two bytes (R189). -/
def readContact (b : List Byte) (at' : Nat) : Clamped ContactConfig :=
  let role := readRole (u8 b at')
  ({ role := role.1, activeHigh := decide (u8 b (at' + 1) ≠ 0) }, role.2)

/-- The event of a plan cue (R189); outside 1..4 it becomes APPROACHING. -/
def readCueEvent (n : Nat) : Clamped TrainEvent :=
  match eventOfNat n with
  | some e => (e, false)
  | none => (.approaching, true)

/-- The trigger of a plan cue (R56, R189); a trigger above 2 becomes BEFORE_TIME. DESIGN CHOICE (log entry 58). -/
def readTrigger (t e o : Nat) : Clamped Trigger :=
  let off := clamped 0 120 o
  let ev := readCueEvent e
  match t with
  | 0 => (.beforeTime off.1, off.2)
  | 1 => (.onEvent ev.1, ev.2)
  | 2 => (.afterEvent ev.1 off.1, ev.2 || off.2)
  | _ => (.beforeTime off.1, true)

/-- The states that a plan cue's window may name (R56). -/
def windowStates : List CallState := [.planned, .approaching, .atPlatform, .closing, .departed, .terminated, .cancelled]

/-- The states that are removed from a plan cue's window (R56). -/
def barredStates : List CallState := [.moving, .moved, .moveFailed]

/-- A cue's class (R56). -/
def readCueClass (n : Nat) : Clamped Nat := oneOf [1, 3, 4] 3 n

/-- A cue record of twelve bytes (R56, R189). Special cues disregard their trigger, event, offset and window.
DESIGN CHOICE (log entries 44 and 58). -/
def readCue (b : List Byte) (at' : Nat) (plan : Bool) : Clamped Cue :=
  let trig := readTrigger (u8 b (at' + 1)) (u8 b (at' + 2)) (u8 b (at' + 3))
  let cls := readCueClass (u8 b (at' + 5))
  let w := u16 b (at' + 8)
  let p := clamped 0 30 (u8 b (at' + 10))
  let v := clamped 1 30 (u8 b (at' + 11))
  ({ used := decide (u8 b at' ≠ 0),
     trigger := if plan then trig.1 else .beforeTime 0,
     template := u8 b (at' + 4), cls := cls.1, platformZones := decide (u8 b (at' + 6) ≠ 0),
     concourse := zonesOfMask (u8 b (at' + 7)),
     window := if plan then windowStates.filter fun st => w.testBit st.idx else [],
     repeatEvery := if p.1 = 0 then none else some p.1, validity := v.1 },
   anyOf [plan && trig.2, cls.2, plan && barredStates.any fun st => w.testBit st.idx, p.2, v.2])

/-- The plan at `at'`: C1..C4, DELAY, CANCEL, ALTERATION (R56, R189). -/
def readPlan (b : List Byte) (at' : Nat) : Clamped (Vector Cue 7) :=
  let q (i : Nat) : Clamped Cue := readCue b (at' + 12 * i) (decide (i < 4))
  (#v[(q 0).1, (q 1).1, (q 2).1, (q 3).1, (q 4).1, (q 5).1, (q 6).1], (List.range 7).any fun i => (q i).2)

/-- The body of the configuration image (R189), every field clamped as its rule says. -/
def readBody (b : List Byte) : Clamped NodeConfig :=
  let platforms : Vector Nat 4 := #v[u8 b 33, u8 b 34, u8 b 35, u8 b 36]
  let h0 := clamped 0 23 (u8 b 1)
  let p := oneOf [5, 20, 80] 20 (u8 b 2)
  let w := oneOf [100, 200, 400] 200 (u16 b 3)
  let st := clamped 60 3600 (u16 b 5)
  let k := clamped 0 15 (u8 b 7)
  let dt := clamped 1 60 (u8 b 8)
  let r := clamped 1 30 (u8 b 9)
  let l := clamped 1 30 (u8 b 10)
  let m (i : Nat) := clamped 0 80 (u8 b (11 + i))
  let cut := clamped 0 280 (u16 b 15)
  let g := oneOf [1, 2, 4, 8] 1 (u8 b 17)
  let sl := clamped 1 60 (u8 b 18)
  let budget := clamped 1 255 (u8 b 19)
  let wake := clamped 0 500 (u16 b 20)
  let ch (i : Nat) := clamped 0 4095 (u16 b (23 + 2 * i))
  let z (i : Fin 8) := readZone b (37 + 21 * i.val) platforms
  let con (i : Fin 8) := readContact b (209 + 2 * i.val)
  let arr := readPlan b 249
  let dep := readPlan b 333
  ({ nodeId := u8 b 0, h0 := h0.1, samplePeriod := p.1, gateLength := w.1, staleLimit := st.1, lateLimit := k.1,
     delayThreshold := dt.1, rearmThreshold := r.1, linger := l.1, margin := #v[(m 0).1, (m 1).1, (m 2).1, (m 3).1],
     batteryCut := cut.1, groupSize := g.1, roundPeriod := sl.1, errorBudget := budget.1, ampWake := wake.1,
     evacTemplate := u8 b 22, chimes := #v[(ch 0).1, (ch 1).1, (ch 2).1, (ch 3).1, (ch 4).1], platforms := platforms,
     zones := eight fun i => (z i).1,
     amplifiers := #v[zonesOfMask (u8 b 205), zonesOfMask (u8 b 206), zonesOfMask (u8 b 207), zonesOfMask (u8 b 208)],
     contacts := eight fun i => (con i).1,
     timetable := BitVec.ofNat 32 (u32 b 225), describer := BitVec.ofNat 32 (u32 b 229), desk := BitVec.ofNat 32 (u32 b 233),
     evac := BitVec.ofNat 32 (u32 b 237), timesrc := BitVec.ofNat 32 (u32 b 241), peer := BitVec.ofNat 32 (u32 b 245),
     arrivalPlan := arr.1, departurePlan := dep.1 },
   anyOf
     ([h0.2, p.2, w.2, st.2, k.2, dt.2, r.2, l.2, cut.2, g.2, sl.2, budget.2, wake.2, arr.2, dep.2]
       ++ (List.range 4).map (fun i => (m i).2) ++ (List.range 5).map (fun i => (ch i).2)
       ++ allZones.map (fun i => (z i).2) ++ allContacts.map fun i => (con i).2))

/-- The distinct remote neighbour zones of a configuration, in order of zone id (R114). -/
def NodeConfig.remoteZones (c : NodeConfig) : List Nat :=
  (List.range 256).filter fun g => allZones.any fun z => (c.remoteNeighbours z).contains g

/-- The structural check of R181: none on a failure, else the applied configuration and whether a field was clamped.
DEDUCED (log entry 10). -/
def readImage (image : List Byte) : Option (Clamped NodeConfig) :=
  let b := (image.drop 4).take 417
  let c := readBody b
  if 4 ≤ image.length ∧ u16 image 0 = 417 ∧ b.length = 417 ∧ u16 image 2 = (crc16 b).toNat
      ∧ 1 ≤ c.1.nodeId ∧ c.1.nodeId ≤ 31 ∧ c.1.platforms.toList.all (fun p => decide (p ≤ 40))
      ∧ allZones.all (fun z => decide (u8 b (37 + 21 * z.val + 3) ≤ 4)) ∧ c.1.remoteZones.length ≤ 32 then
    some c
  else none

/-! ### Phrase image -/

/-- The header of the phrase image is valid (R182, R188). `store` is the template store that its check covers. -/
def headerValid (header store : List Byte) : Bool :=
  decide (u16 header 0 = 0x5A38) && decide (u16 header 2 = 4095) && decide (u24 header 4 = 16396)
    && decide (u16 header 7 = (crc16 ((List.range 6208).map fun i => store.getD i 0xFF#8)).toNat)

/-- An element's kind, with the code of a FIXED element (R188); none above 12. -/
def readElementKind (k code : Nat) : Option ElementKind :=
  match k with
  | 0 => some (.fixed code)
  | 1 => some .schedTime
  | 2 => some .expectedTime
  | 3 => some .platform
  | 4 => some .destination
  | 5 => some .origin
  | 6 => some .callingPoints
  | 7 => some .delay
  | 8 => some .carriages
  | 9 => some (.param 0)
  | 10 => some (.param 1)
  | 11 => some (.param 2)
  | 12 => some (.param 3)
  | _ => none

/-- The element of four bytes at `at'`; none for a kind above 12 or a group above 7 (R75, R188). -/
def readElement (b : List Byte) (at' : Nat) : Option Element :=
  if u8 b (at' + 1) ≤ 7 then
    (readElementKind (u8 b at') (u16 b (at' + 2) % 4096)).map fun k => { kind := k, group := u8 b (at' + 1) }
  else none

/-- All of a list, or none. -/
def allSome {α : Type} : List (Option α) → Option (List α)
  | [] => some []
  | none :: _ => none
  | some a :: rest => (allSome rest).map fun l => a :: l

/-- Template `t` of the store, or none when it is undefined (R75, R188). -/
def readTemplate (store : List Byte) (t : Nat) : Option (List Element) :=
  let n := u8 store (97 * t)
  if 1 ≤ n ∧ n ≤ 24 then allSome ((List.range n).map fun i => readElement store (97 * t + 1 + 4 * i)) else none

/-- The 64 templates (R75). -/
def readTemplates (store : List Byte) : List (Option (List Element)) := (List.range 64).map fun t => readTemplate store t

end Sys2Proof.Machine
end

