-- ==== Sys2Proof/Machine/Assembly.lean ====
section
/-! DEFINITION. Sentence assembly (R76 to R88). -/

namespace Sys2Proof.Machine

/-- What a request to the Sentence Assembler names besides its template and class (R77). -/
structure Inputs where
  call : Option CallRecord
  params : List (Option Nat)
deriving DecidableEq, Repr

/-- Codes 69..127 are reserved (00_scope.md) and are not spoken. -/
def reservedCode (c : Nat) : Bool := decide (69 ≤ c) && decide (c ≤ 127)

/-- A code that is spoken where a field or parameter names it (R78). -/
def spokenCode (c : Nat) : Option Nat := if c = 4095 ∨ reservedCode c then none else some c

/-- The delay d = expected − scheduled, when it is at least 0 (R68, R82). -/
def CallRecord.delay (r : CallRecord) : Option Nat :=
  match r.expected with
  | some e => if r.scheduled ≤ e then some (e - r.scheduled) else none
  | none => none

/-- A time (R80). -/
def speakTime (h0 m : Nat) : List Nat :=
  let c := clockMinute h0 m
  let h := c / 60
  let n := c % 60
  (if h = 0 then [0, 0] else [h]) ++ (if n = 0 then [61] else if n ≤ 9 then [60, n] else [n])

/-- A delay of at least 1 (R82). -/
def speakDelay (d : Nat) : List Nat :=
  if d = 1 then [1, 64]
  else if d < 60 then [d, 65]
  else if d < 180 then
    [d / 60, if d / 60 = 1 then 62 else 63]
      ++ (if d % 60 = 0 then [] else [d % 60, if d % 60 = 1 then 64 else 65])
  else [68]

/-- The stored points that are spoken (R83). DESIGN CHOICE (log entry 46). -/
def CallRecord.spokenPoints (r : CallRecord) : List Nat := r.points.filter fun c => !reservedCode c

/-- The whole expansion of CALLING_POINTS (R83), before the length limit. -/
def speakPoints (truncated : Bool) (p : List Nat) : List Nat :=
  if truncated then p ++ [67]
  else if p.length ≤ 1 then p
  else p.dropLast ++ [66] ++ p.drop (p.length - 1)

/-- What an element expands to: words, or the calling points, whose length R84 limits. -/
inductive Expansion where
  | words (l : List Nat)
  | points (truncated : Bool) (p : List Nat)
deriving DecidableEq, Repr

/-- The expansion of one element, or none when it is a field element that is absent (R76, R78, R80 to R83). -/
def expand (h0 : Nat) (x : Inputs) : ElementKind → Option Expansion
  | .fixed c => some (.words (if c = 4095 ∨ reservedCode c then [] else [c]))
  | .schedTime => x.call.map fun r => .words (speakTime h0 r.scheduled)
  | .expectedTime =>
    x.call.bind fun r => r.expected.bind fun e => if e = r.scheduled then none else some (.words (speakTime h0 e))
  | .platform => x.call.map fun r => .words [r.platform]
  | .destination => x.call.bind fun r => (spokenCode r.destination).map fun c => .words [c]
  | .origin => x.call.bind fun r => r.origin.bind fun o => (spokenCode o).map fun c => .words [c]
  | .callingPoints =>
    x.call.bind fun r => if r.spokenPoints.isEmpty then none else some (.points r.truncated r.spokenPoints)
  | .delay => x.call.bind fun r => r.delay.bind fun d => if d = 0 then none else some (.words (speakDelay d))
  | .carriages => x.call.bind fun r => r.carriages.map fun n => .words [n]
  | .param k => ((x.params.getD k.val none).bind spokenCode).map fun c => .words [c]

/-- Whether a group holds an absent field element (R79). -/
def groupAbsent (h0 : Nat) (x : Inputs) (t : List Element) (g : Nat) : Bool :=
  t.any fun e => decide (e.group = g) && (expand h0 x e.kind).isNone

/-- The expansions that survive R79, in template order. -/
def surviving (h0 : Nat) (x : Inputs) (t : List Element) : List Expansion :=
  (t.filter fun e => !groupAbsent h0 x t e.group).filterMap fun e => expand h0 x e.kind

/-- The length of an expansion other than of calling points (R84). -/
def Expansion.fixedLength : Expansion → Nat
  | .words l => l.length
  | .points _ _ => 0

/-- The expansions laid end to end, calling points shortened to the room left (R84). `room` counts the codes still free for calling
points; none when an expansion finds no room. -/
def layOut (room : Nat) : List Expansion → Option (List Nat)
  | [] => some []
  | .words l :: rest => (layOut room rest).map fun r => l ++ r
  | .points tr p :: rest =>
    if room = 0 then none
    else
      let whole := speakPoints tr p
      let placed := if whole.length ≤ room then whole else p.take (room - 1) ++ [67]
      (layOut (room - placed.length) rest).map fun r => placed ++ r

/-- The phrase list of a defined template, or none when the assembly fails (R79, R84). -/
def phraseList (h0 : Nat) (x : Inputs) (t : List Element) : Option (List Nat) :=
  if groupAbsent h0 x t 0 then none
  else
    let l := surviving h0 x t
    let f := (l.map Expansion.fixedLength).sum
    if 40 < f then none
    else
      match layOut (40 - f) l with
      | some [] => none
      | r => r

/-- The template of an id: none for an id above 63, an undefined template, or a store that is not valid (R86). -/
def TemplateStore.template (st : TemplateStore) (id : Nat) : Option (List Element) :=
  if st.valid ∧ id ≤ 63 then (st.templates.getD id none) else none

/-- The chime of a class, or none (R85). -/
def NodeConfig.chimeOf (c : NodeConfig) (cls : Nat) : Option Nat := opt12 (c.chimes.toList.getD cls 4095)

/-- Assembly (R77, R86): the phrase list, or none after TEMPLATE_FAULT has been raised for the template id. -/
def State.assemble (s : State) (template : Nat) (x : Inputs) : State × Option (List Nat) :=
  match (s.store.template template).bind (phraseList s.cfg.h0 x) with
  | some l => (s, some l)
  | none => (s.raise .templateFault (some template), none)

end Sys2Proof.Machine
end

