-- ==== Sys2Proof/Machine/Noise.lean ====
section
/-! DEFINITION. Noise gates, the sensor checks, the ambient average, targets and gain codes (R141 to R151). -/

namespace Sys2Proof.Machine

/-! ### Gates (R142 to R144) -/

/-- Whether the slot of a remote neighbour zone is occupied (R114). -/
def State.occupied (s : State) (g : Nat) : Bool := s.claims.occupancy.any fun o => decide (o.zone = g) && o.occupant.isSome

/-- The occupant of a remote neighbour zone's slot. -/
def State.occupant (s : State) (g : Nat) : Option Occupant := (s.claims.occupancy.find? fun o => o.zone = g).bind OccSlot.occupant

/-- A zone that is HELD or in TEST. -/
def ZoneState.busy : ZoneState → Bool
  | .held _ => true
  | .test => true
  | .idle => false
  | .off => false

/-- The zone and its neighbours are silent, as this node knows them (the conditions common to R143 and R144). -/
def State.silentAround (s : State) (z : ZoneId) : Bool :=
  decide ((s.zone z).state = .idle) && (s.cfg.localNeighbours z).all (fun n => !(s.zone n).state.busy)
    && (s.cfg.remoteNeighbours z).all fun g => !s.occupied g

/-- A noise gate may start on a zone whose counter is free (R143). -/
def State.gateMayStart (s : State) (z : ZoneId) : Bool :=
  s.onLink && (s.cfg.zones[z]).present && (s.cfg.zones[z]).sensor && decide ((s.level z).user = .free)
    && (s.level z).quietAt.isNone && s.silentAround z

/-- Discard the gate of one zone that R144 breaks, and start one where R143 allows it. -/
def State.settleGate (s : State) (z : ZoneId) : State :=
  let s :=
    if (s.level z).gate.isSome && !s.silentAround z then
      s.setLevel z fun l => { l with gate := none, user := if l.user = .noise then .free else l.user }
    else s
  if s.gateMayStart z then
    s.setLevel z fun l =>
      { l with count := 0, overflow := false, user := .noise, gate := some { startAt := s.now, endAt := s.now + s.cfg.gateLength } }
  else s

/-- R143 and R144 at the end of an event, for every zone. DEDUCED (log entry 15). -/
def State.settleGates (s : State) : State := allZones.foldl State.settleGate s

/-- The counter is lent to the line test (R142): a noise gate is discarded, the count set to 0 and the user becomes LINE. -/
def State.lendCounter (s : State) (z : ZoneId) : State :=
  s.setLevel z fun l => { l with count := 0, overflow := false, user := .line, gate := none }

/-- The counter is returned (R142). -/
def State.returnCounter (s : State) (z : ZoneId) : State :=
  s.setLevel z fun l => { l with user := if l.user = .line then .free else l.user }

/-- A zone falls silent: its last audible end and its quiet deadline are set (R139, R143). -/
def State.fallSilent (s : State) (z : ZoneId) : State :=
  (s.setZone z fun x => { x with lastAudible := some s.now }).setLevel z fun l => { l with quietAt := some (s.now + 500) }

/-- A rising pulse edge at a counter (R142). -/
def Level.pulse (l : Level) : Level := if l.count < 4095 then { l with count := l.count + 1 } else { l with overflow := true }

/-! ### A complete gate (R145 to R147) -/

/-- The class of a complete gate (R145). -/
inductive GateClass where
  | high | silent | good
deriving DecidableEq, Repr

/-- The measured level (R145). -/
def measured (n w : Nat) : Nat := 120 + 80 * n / w

/-- The class of a gate's count (R145). -/
def gateClass (overflow : Bool) (n w : Nat) : GateClass :=
  if overflow then .high else if n = 0 then .silent else if 520 < measured n w then .high else .good

/-- The ambient average after a GOOD gate (R147). -/
def newAmbient (a m : Nat) : Nat := if a < m then a + (m - a + 1) / 2 else if m < a then a - max 1 ((a - m) / 8) else a

/-- The runs after a complete gate (R146). -/
def Level.moveRuns (l : Level) : GateClass → Level
  | .high => { l with highRun := min (l.highRun + 1) 3, silentRun := 0, goodRun := 0 }
  | .silent => { l with highRun := 0, silentRun := min (l.silentRun + 1) 3, goodRun := 0 }
  | .good => { l with highRun := 0, silentRun := 0, goodRun := min (l.goodRun + 1) 3 }

/-- The sensor fault that the runs give (R146). -/
def Level.nextFault (l : Level) : SensorFault :=
  if l.highRun = 3 then .high else if l.silentRun = 3 then .silent else if l.goodRun = 3 then .none else l.sensorFault

/-- The condition of a sensor fault, raised or cleared for a zone (R146). DESIGN CHOICE (log entry 47). -/
def State.sensorCondition (s : State) (z : ZoneId) (old new : SensorFault) : State :=
  if old = new then s
  else
    let s :=
      match new with
      | .high => s.raise .sensorHigh (some z.val)
      | .silent => s.raise .sensorSilent (some z.val)
      | .none => s
    match old with
    | .high => s.clear .sensorHigh (some z.val)
    | .silent => s.clear .sensorSilent (some z.val)
    | .none => s

/-- A complete gate is judged, averaged if GOOD, and its counter freed (R145 to R147). -/
def State.judgeGate (s : State) (z : ZoneId) (g : Gate) : State :=
  let l := s.level z
  let c := gateClass l.overflow l.count s.cfg.gateLength
  let l1 := l.moveRuns c
  let l2 :=
    if c = .good then { l1 with ambient := newAmbient l.ambient (measured l.count s.cfg.gateLength), lastUpdate := g.endAt } else l1
  (s.setLevel z fun _ => { l2 with gate := none, user := .free, sensorFault := l1.nextFault }).sensorCondition z l.sensorFault l1.nextFault

/-! ### Targets and gains (R149 to R151) -/

/-- Whether a zone's ambient average is stale (R149). -/
def State.stale (s : State) (z : ZoneId) : Bool := decide (s.cfg.staleLimit * 1000 < s.now - (s.level z).lastUpdate)

/-- Whether a zone takes its default ambient at LEAD_IN entry (R149). -/
def State.takesDefault (s : State) (z : ZoneId) : Bool :=
  !(s.cfg.zones[z]).sensor || decide ((s.level z).sensorFault ≠ .none) || s.stale z

/-- The battery state: active while any MAINS_BATTERY contact is ACTIVE (R162). -/
def State.battery (s : State) : Bool :=
  allContacts.any fun c => decide ((s.cfg.contacts[c]).role = .mainsBattery) && decide ((s.sup.contacts[c]).level = .active)

/-- The upper bound of a target (R149). -/
def State.effMax (s : State) (z : ZoneId) : Nat :=
  let c := s.cfg.zones[z]
  if s.battery then max c.zoneMin (c.zoneMax - s.cfg.batteryCut) else c.zoneMax

/-- The margin of a class 1..4 (R149). -/
def NodeConfig.marginOf (c : NodeConfig) (cls : Nat) : Nat := c.margin.toList.getD (cls - 1) 0

/-- The target of a zone for a class (R149, R150). -/
def State.target (s : State) (z : ZoneId) (cls : Nat) : Nat :=
  let c := s.cfg.zones[z]
  if cls = 0 then c.zoneMax
  else
    let a := if s.takesDefault z then c.defaultAmbient else (s.level z).ambient
    clampTo c.zoneMin (s.effMax z) (a + s.cfg.marginOf cls)

/-- The gain code of a target (R151). -/
def gainCode (full t : Nat) : Nat := min (full - t) 255

/-- The gain code of a zone for a class. In LIMITED every code is 0 (R160). -/
def State.gainFor (s : State) (z : ZoneId) (cls : Nat) : Nat :=
  if s.startup.phase = .limited then 0 else gainCode (s.cfg.zones[z]).zoneFull (s.target z cls)

/-- The DEFAULT_LEVEL flag of an instance of a class on some zones (R149, R150, R160). -/
def State.defaultFlag (s : State) (zs : ZoneSet) (cls : Nat) : Bool :=
  decide (cls ≠ 0) && decide (s.startup.phase ≠ .limited) && zs.any s.takesDefault

/-- The LEVEL_LIMITED flag of an instance of a class on some zones (R151, R160). -/
def State.limitedFlag (s : State) (zs : ZoneSet) (cls : Nat) : Bool :=
  decide (s.startup.phase ≠ .limited) && zs.any fun z => decide ((s.cfg.zones[z]).zoneFull < s.target z cls)

end Sys2Proof.Machine
end

