-- ==== Sys2Proof/Machine/Channels.lean ====
section
/-! DEFINITION. Own claims as the channels drive them (R107 to R113), phrase fetch (R133, R134), lead-in (R127, R128), play and gaps
(R129, R135), the end of an instance (R130 to R132) and the playings of the evacuation instance (R156, R157). -/

namespace Sys2Proof.Machine

/-! ### Own claim records (R107 to R109, R112, R113) -/

/-- A channel's own claim record (R107). -/
def State.claimOf (s : State) (c : ChanId) : Option OwnClaim := s.claims.own[c]

/-- Make, change or remove a channel's own claim record. -/
def State.setClaim (s : State) (c : ChanId) (r : Option OwnClaim) : State := { s with claims := { s.claims with own := s.claims.own.set c r } }

/-- The access class of the CLAIMs and the RELEASE of a class (R108, R112, R113). -/
def claimAccess (cls : Nat) : Nat := if cls = 0 then 0 else if cls ≤ 2 then 1 else 2

/-- The CLAIM frame of a record (R108, R109). -/
def OwnClaim.frame (r : OwnClaim) : TxFrame :=
  { plainFrame 0 .claim (claimPayload r.tag r.cls r.established r.zones) (claimAccess r.cls) with
    tag := some r.tag, firstMark := !r.transmitted }

/-- Offer a CLAIM for a channel's record; the refresh deadline is set 8 s on (R109). -/
def State.offerClaim (s : State) (c : ChanId) : State :=
  match s.claimOf c with
  | none => s
  | some r => (s.setClaim c (some { r with refreshAt := s.now + 8000 })).offer r.frame

/-- Make the record of the instance on a channel and offer its first CLAIM (R108, R113). An instance with no zone has none (R107). -/
def State.makeClaim (s : State) (c : ChanId) (tag cls : Nat) (sendDeadline : Option Nat) : State :=
  let zs := s.heldBy c
  if zs.isEmpty then s
  else
    (s.setClaim c
      (some
        { tag := tag, cls := cls, zones := zs.map s.cfg.globalZone, established := false, transmitted := false,
          refreshAt := s.now + 8000, sendDeadline := sendDeadline })).offerClaim c

/-- The channel has entered SPEAKING or LIVE: the established flag is set and a CLAIM offered (R109). -/
def State.establish (s : State) (c : ChanId) : State :=
  match s.claimOf c with
  | none => s
  | some r => (s.setClaim c (some { r with established := true })).offerClaim c

/-- The reason of a RELEASE (R112, R185). -/
def releaseReason : Ending → Nat
  | .done => 0
  | .withdrawn => 1
  | .preempted => 2
  | .obsolete | .stopped | .underrun | .aborted => 3

/-- The RELEASE frame of a record (R112). -/
def OwnClaim.releaseFrame (r : OwnClaim) (o : Ending) : TxFrame :=
  { plainFrame 0 .release (releasePayload r.tag (releaseReason o)) (claimAccess r.cls) with tag := some r.tag }

/-- Remove a channel's record and offer its RELEASE (R112). -/
def State.dropClaim (s : State) (c : ChanId) (o : Ending) : State :=
  match s.claimOf c with
  | none => s
  | some r => (s.setClaim c none).offer (r.releaseFrame o)

/-! ### Entry to TAIL (R130 to R132) -/

/-- The transaction in progress for a channel, if any, is to be discarded (R134). -/
def State.disown (s : State) (c : ChanId) : State :=
  { s with
    port := { s.port with transaction := s.port.transaction.map fun t => if t.ch = c then { t with wanted := false } else t } }

/-- An instance as it enters TAIL (R130, R132). An outcome already fixed is kept. -/
def ChanInst.ended (i : ChanInst) (o : Ending) (now : Nat) : ChanInst :=
  { i with
    state := .tail, outcome := some (i.outcome.getD o), stopPending := false, wakeEnd := none, listenEnd := none, priming := none,
    keepAt := none, tailEnd := some (now + 300), silentTail := decide (i.state = .claiming),
    liveTail := decide (i.state = .live),
    buffer := if i.inPlay = .block then i.buffer.take 1 else [],
    evac := i.evac.map fun e => { e with pauseEnd := none } }

/-- The instance on a channel enters TAIL with an outcome, unless it is there already (R130). -/
def State.enterTail (s : State) (c : ChanId) (o : Ending) : State :=
  match s.chan c with
  | none => s
  | some i =>
    if i.state = .tail then s
    else ((s.setChan c (some (i.ended o s.now))).disown c).dropClaim c (i.outcome.getD o)

/-! ### Phrase fetch (R133, R134) -/

/-- The phrase code at a position, the chime at 0 (R125). -/
def ChanInst.code (i : ChanInst) (p : Nat) : Option Nat := if p = 0 then i.chime else i.phrases[p - 1]?

/-- The directory entry read for a position (R133). -/
def ChanInst.dir (i : ChanInst) (p : Nat) : Option DirRead := i.dirs.find? fun d => d.phrase = p

/-- A phrase whose directory entry shows no block (R133). -/
def ChanInst.missing (i : ChanInst) (p : Nat) : Bool := (i.dir p).any fun d => decide (d.count = 0)

/-- What a channel requests (R133). DEDUCED (log entry 16). -/
def State.wants (s : State) (i : ChanInst) : Option Request :=
  if i.state = .tail ∨ s.store.valid = false then none
  else
    match i.code i.fetch.phrase, i.dir i.fetch.phrase with
    | none, _ => none
    | some _, none => some (.directory i.fetch.phrase)
    | some _, some _ => if i.buffer.length < 2 then some (.block i.fetch) else none

/-- The address in the phrase memory that a request reads from: the directory entry of code c at 16 + 4c, block n at 1024n (R188). -/
def ChanInst.address (i : ChanInst) : Request → Nat
  | .directory p => 16 + 4 * (i.code p).getD 0
  | .block b => (((i.dir b.phrase).map DirRead.firstBlock).getD 0 + b.block) * 1024

/-- A request of a channel before the arbiter. -/
structure Waiting where
  ch : ChanId
  request : Request
  address : Nat
  cls : Nat
  filled : Nat
deriving DecidableEq, Repr

/-- The requests waiting, in channel order. -/
def State.waiting (s : State) : List Waiting :=
  allChans.filterMap fun c =>
    (s.chan c).bind fun i => (s.wants i).map fun r => 
      { ch := c, request := r, address := i.address r, cls := i.cls, filled := i.buffer.length }

/-- The order of R134 between two waiting requests, but for the channel number. -/
def Waiting.before (a b : Waiting) : Bool := decide (a.cls < b.cls) || (decide (a.cls = b.cls) && decide (a.filled < b.filled))

/-- The request that stands first; of equals the lower channel (R134). -/
def firstWaiting : List Waiting → Option Waiting
  | [] => none
  | w :: rest =>
    match firstWaiting rest with
    | none => some w
    | some v => if v.before w then some v else some w

/-- The arbiter grants when the port is idle and a request waits (R134). -/
def State.arbitrate (s : State) : State :=
  if s.port.handedOver = true ∧ s.port.transaction = none then
    match firstWaiting s.waiting with
    | none => s
    | some w =>
      { s with port := { s.port with
          transaction := some { ch := w.ch, request := w.request, address := w.address, wanted := true } } }
  else s

/-- The transaction in progress is over. -/
def State.endTransaction (s : State) : State := { s with port := { s.port with transaction := none } }

/-! ### Play -/

/-- The first position from `p` on that is in the phrase list and not known to be missing (R129). -/
def ChanInst.playableFrom (i : ChanInst) (p : Nat) : Option Nat :=
  ((List.range i.phrases.length).map (· + 1)).find? fun q => decide (p ≤ q) && !i.missing q

/-- Whether a block is buffered. -/
def ChanInst.buffered (i : ChanInst) (p : Place) : Bool := i.buffer.any fun b => b.place = p

/-- A channel begins to play a block, 512 samples at 16 kHz. -/
def ChanInst.startBlock (i : ChanInst) (p : Place) (now : Nat) : ChanInst :=
  { i with play := p, inPlay := .block, blockEnd := some (now + 32) }

/-- A channel begins a gap of one block of silence (R135). -/
def ChanInst.startGap (i : ChanInst) (boundary : Bool) (now : Nat) : ChanInst :=
  { i with inPlay := .gap boundary, blockEnd := some (now + 32) }

/-- Nothing is in play. -/
def ChanInst.stopPlay (i : ChanInst) : ChanInst := { i with inPlay := .nothing, blockEnd := none }

/-- The chime of an instance is passed over: its blocks and its fetch are dropped (R127, R156). -/
def ChanInst.passChime (i : ChanInst) : ChanInst :=
  { i with
    chime := none, buffer := i.buffer.filter fun b => decide (b.place.phrase ≠ 0),
    fetch := if i.fetch.phrase = 0 then { phrase := 1, block := 0 } else i.fetch }

/-- A transaction for the chime of a channel is to be discarded. DESIGN CHOICE (log entry 20). -/
def State.disownChime (s : State) (c : ChanId) : State :=
  match s.port.transaction with
  | some { ch := d, request := .directory 0, address := _, wanted := _ } => if d = c then s.disown c else s
  | some { ch := d, request := .block { phrase := 0, block := _ }, address := _, wanted := _ } => if d = c then s.disown c else s
  | _ => s

/-! ### The playings of the evacuation instance (R156, R157) -/

/-- The instance with a message playing chosen: the list is placed and the fetch starts again at phrase 1. -/
def ChanInst.chooseMessage (i : ChanInst) (l : List Nat) : ChanInst :=
  { i with
    phrases := l, play := { phrase := 0, block := 0 }, fetch := if i.fetch.phrase = 0 then i.fetch else { phrase := 1, block := 0 },
    dirs := i.dirs.filter fun d => decide (d.phrase = 0), evac := i.evac.map fun e => { e with chosen := .message } }

/-- The instance with a tone playing chosen: nothing is fetched for it. -/
def ChanInst.chooseTone (i : ChanInst) : ChanInst :=
  { i with
    phrases := [], play := { phrase := 0, block := 0 }, fetch := if i.fetch.phrase = 0 then i.fetch else { phrase := 1, block := 0 },
    dirs := i.dirs.filter fun d => decide (d.phrase = 0), buffer := i.buffer.filter fun b => decide (b.place.phrase = 0),
    evac := i.evac.map fun e => { e with chosen := .tone } }

/-- The inputs of the evacuation assembly: no call and no parameter (R88). -/
def evacInputs : Inputs := { call := none, params := [none, none, none, none] }

/-- A playing is chosen (R156). -/
def State.choosePlaying (s : State) (c : ChanId) : State :=
  if s.store.valid then
    match s.assemble s.cfg.evacTemplate evacInputs with
    | (s, some l) => s.updChan c fun i => i.chooseMessage l
    | (s, none) => s.updChan c ChanInst.chooseTone
  else s.updChan c ChanInst.chooseTone

/-- A tone playing begins: ten tones of 1 s (R157). What replaced a message drops its fetch. DEDUCED (log entry 21). -/
def State.startTone (s : State) (c : ChanId) : State :=
  (s.disown c).updChan c fun i =>
    { i.chooseTone.stopPlay with evac := i.evac.map fun _ => { chosen := .tone, toneEnd := some (s.now + 10000), pauseEnd := none } }

/-- A playing has ended: the pause of 2 s begins and the next playing is chosen (R156). -/
def State.startPause (s : State) (c : ChanId) : State :=
  (s.updChan c fun i =>
      { i.stopPlay with evac := i.evac.map fun e => { e with toneEnd := none, pauseEnd := some (s.now + 2000) } }).choosePlaying c

/-! ### Gaps and boundaries (R129, R135) -/

/-- The third gap (R135, R156): an instance ends UNDERRUN; the evacuation instance passes its chime over, or replaces its playing.
DESIGN CHOICE (log entry 20). -/
def State.thirdGap (s : State) (c : ChanId) (i : ChanInst) (code : Nat) : State :=
  match i.evac with
  | none => (s.enterTail c .underrun).raise .phraseUnderrun (some code)
  | some _ =>
    if i.state = .leadIn then
      ((s.disownChime c).updChan c fun i => { i.passChime.stopPlay with stage := .hold, holdFrom := s.now }).raise .phraseUnderrun (some code)
    else (s.startTone c).raise .phraseUnderrun (some code)

/-- The next block of play begins, or a gap follows (R135). -/
def State.nextBlock (s : State) (c : ChanId) (p : Place) (boundary : Bool) : State :=
  match s.chan c with
  | none => s
  | some i =>
    if i.buffered p then s.setChan c (some (i.startBlock p s.now))
    else
      let s := s.count .underruns
      let i := { i with gapCount := i.gapCount + 1 }
      if i.gapCount < 3 then s.setChan c (some (i.startGap boundary s.now))
      else (s.setChan c (some i)).thirdGap c i ((i.code p.phrase).getD 0)

/-- A phrase boundary after the phrase at the play position is judged (R129, R156). -/
def State.boundary (s : State) (c : ChanId) : State :=
  match s.chan c with
  | none => s
  | some i =>
    if i.stopPending then s.enterTail c .done
    else
      match i.playableFrom (i.play.phrase + 1) with
      | some q => s.nextBlock c { phrase := q, block := 0 } true
      | none =>
        if i.evac.isSome then (if i.play.phrase = 0 then s.startTone c else s.startPause c) else s.enterTail c .done

/-- A playing of the evacuation instance begins, its gap count at 0 (R156). -/
def State.startPlaying (s : State) (c : ChanId) : State :=
  match (s.chan c).bind ChanInst.evac with
  | none => s
  | some e =>
    let s := s.updChan c fun i => { i with gapCount := 0, evac := i.evac.map fun e => { e with pauseEnd := none } }
    match e.chosen with
    | .message => s.boundary c
    | .tone => s.startTone c

/-! ### Lead-in (R127, R128) -/

/-- Write the gain codes of a channel's zones into the zone table (R127). -/
def State.setGains (s : State) (g : List (ZoneId × Nat)) : State := g.foldl (fun s p => s.setZone p.1 fun z => { z with gain := some p.2 }) s

/-- Entry to LEAD_IN, but for the Claim Controller's part (R127). -/
def State.enterLeadIn (s : State) (c : ChanId) : State :=
  match s.chan c with
  | none => s
  | some i =>
    let zs := s.heldBy c
    let g := zs.map fun z => (z, s.gainFor z i.cls)
    (s.setChan c
      (some
        { i with
          state := .leadIn, stage := .wake, gains := g, defaultLevel := s.defaultFlag zs i.cls, levelLimited := s.limitedFlag zs i.cls,
          wakeEnd := some (s.now + s.cfg.ampWake), listenEnd := some (s.now + 300) })).setGains g

/-- The speech that ends HOLD (R128): nothing is awaited, a block is awaited, or every phrase is missing. -/
inductive Speech where
  | ready
  | awaited (phrase : Nat)
  | exhausted
deriving DecidableEq, Repr

/-- The third condition of R128, with the differences of R136 and R156. -/
def ChanInst.speech (i : ChanInst) : Speech :=
  match i.key, i.evac with
  | some (.live _), _ => .ready
  | _, some { chosen := .tone, .. } => .ready
  | _, _ =>
    match i.playableFrom 1 with
    | none => .exhausted
    | some p => if i.buffered { phrase := p, block := 0 } then .ready else .awaited p

/-- A phrase instance enters SPEAKING, a LIVE instance LIVE; the claim is established (R128, R129, R136). -/
def State.beginSpeech (s : State) (c : ChanId) : State :=
  match s.chan c with
  | none => s
  | some i =>
    let i := { i with priming := none, play := { phrase := 0, block := 0 } }
    match i.key, i.evac with
    | some (.live _), _ => (s.setChan c (some { i with state := .live, keepAt := some (s.now + 5000) })).establish c
    | _, some _ => ((s.setChan c (some { i with state := .speaking })).establish c).startPlaying c
    | _, none => ((s.setChan c (some { i with state := .speaking })).establish c).boundary c

/-- HOLD is judged (R128): with the chime and the listen window over, the instance leaves LEAD_IN or waits for speech. -/
def State.judgeHold (s : State) (c : ChanId) : State :=
  match s.chan c with
  | none => s
  | some i =>
    if i.state = .leadIn ∧ i.stage = .hold ∧ i.listenEnd = none then
      match i.speech, i.evac with
      | .ready, _ => s.beginSpeech c
      | .awaited _, _ =>
        match i.priming with
        | none => s.setChan c (some { i with priming := some (i.holdFrom + 1000) })
        | some _ => s
      | .exhausted, none => s.enterTail c .done
      | .exhausted, some _ => (s.updChan c ChanInst.chooseTone).beginSpeech c
    else s

/-- The chime is over at the present running count, and HOLD begins (R127, R128). DEDUCED (log entry 18). -/
def State.enterHold (s : State) (c : ChanId) : State :=
  (s.updChan c fun i => { i.stopPlay with stage := .hold, priming := none, holdFrom := s.now }).judgeHold c

/-- Lead-in is judged after a fetch result or a deadline (R127, R128). -/
def State.leadIn (s : State) (c : ChanId) : State :=
  match s.chan c with
  | none => s
  | some i =>
    if i.state = .leadIn then
      match i.stage with
      | .wake =>
        if i.wakeEnd = none then
          match i.chime with
          | none => s.enterHold c
          | some _ =>
            if i.buffered { phrase := 0, block := 0 } then
              s.setChan c (some { i.startBlock { phrase := 0, block := 0 } s.now with stage := .chime, priming := none })
            else s
        else s
      | .chime => s
      | .hold => s.judgeHold c
    else s

/-- The wake end comes; a chime that is not buffered is awaited for 1 s (R128). DEDUCED (log entry 18). -/
def State.passWake (s : State) (c : ChanId) (w : Nat) : State :=
  (s.updChan c fun i =>
      { i with
        wakeEnd := none,
        priming := if i.chime.isSome && !i.buffered { phrase := 0, block := 0 } then some (w + 1000) else none }).leadIn c

/-- The chime's last block has been played (R127, R131). -/
def State.chimeEnd (s : State) (c : ChanId) (i : ChanInst) : State := if i.stopPending then s.enterTail c .done else s.enterHold c

/-- Play goes on after a block, or after a gap, at the play position (R129, R135). -/
def State.playOn (s : State) (c : ChanId) : State :=
  match s.chan c with
  | none => s
  | some i =>
    let more := decide (i.play.block + 1 < ((i.dir i.play.phrase).map DirRead.count).getD 0)
    let next : Place := { i.play with block := i.play.block + 1 }
    match i.state with
    | .leadIn => if more then (s.nextBlock c next false).judgeHold c else s.chimeEnd c i
    | .speaking => if more then s.nextBlock c next false else s.boundary c
    | .claiming | .live | .tail => s

/-! ### Stops (R131) -/

/-- A phrase-boundary stop reaches an instance that is not in TAIL (R131). -/
def State.stopInstance (s : State) (c : ChanId) (o : Ending) : State :=
  match s.chan c with
  | none => s
  | some i =>
    if i.outcome.isSome then s
    else
      match i.state, i.stage with
      | .claiming, _ => s.enterTail c o
      | .leadIn, .chime => s.setChan c (some { i with outcome := some o, stopPending := true })
      | .leadIn, _ => s.enterTail c o
      | .speaking, _ => s.setChan c (some { i with outcome := some o, stopPending := true })
      | .live, _ => s
      | .tail, _ => s

end Sys2Proof.Machine
end

