-- ==== Sys2Proof/Machine/LineTest.lean ====
section
/-! DEFINITION. Line-test rounds: groups, results, line status, aborts and skips (R164 to R169). -/

namespace Sys2Proof.Machine

/-! ### Skips (R169) -/

/-- A zone counts as skipped; at a skip count of 10 LINE_UNTESTED is raised (R169). -/
def State.skipZone (s : State) (z : ZoneId) : State :=
  let k := min ((s.sup.lines[z]).skips + 1) 255
  let s' := s.setLine z fun l => { l with skips := k }
  if k = 10 then s'.raise .lineUntested (some z.val) else s'

/-- Every present zone of a list counts as skipped. DESIGN CHOICE (log entry 51). -/
def State.skipZones (s : State) (zs : List ZoneId) : State :=
  (zs.filter fun z => (s.zone z).present).foldl State.skipZone s

/-! ### Groups (R164, R165) -/

/-- The number of groups. -/
def NodeConfig.groupCount (c : NodeConfig) : Nat := 8 / c.groupSize

/-- The zones of a group, in order. -/
def NodeConfig.groupZones (c : NodeConfig) (g : Nat) : List ZoneId := allZones.filter fun z => decide (z.val / c.groupSize = g)

/-- A zone that enters TEST when its group begins (R165). -/
def State.testable (s : State) (z : ZoneId) : Bool :=
  (s.zone z).present && !(s.zone z).ampFault && (decide ((s.zone z).state = .idle) || decide ((s.zone z).state = .off))

/-- One zone of a group that begins: it enters TEST or is skipped (R165). -/
def State.startTest (s : State) (z : ZoneId) : State :=
  if s.testable z then s.setZone z fun x => { x with state := .test }
  else if (s.zone z).present then s.skipZone z
  else s

/-- A zone is in TEST. -/
def State.inTest (s : State) (z : ZoneId) : Bool := decide ((s.zone z).state = .test)

/-- The round ends (R164, R167). -/
def State.endRound (s : State) : State :=
  s.setScan fun x => { x with inRound := false, group := none, stage := none, stageAt := none }

/-- The groups of a list are begun in order until one tests a zone; the round ends when none does (R164). -/
def beginGroups : List Nat → State → State
  | [], s => s.endRound
  | g :: rest, s =>
    let zs := s.cfg.groupZones g
    let tested := zs.any s.testable
    let s := zs.foldl State.startTest s
    if tested then s.setScan fun x => { x with group := some g, stage := some .settle, stageAt := some (s.now + 50) }
    else beginGroups rest s

/-- The groups after a group. -/
def NodeConfig.groupsAfter (c : NodeConfig) (g : Nat) : List Nat := (List.range c.groupCount).filter fun i => decide (g < i)

/-- A group that tested a zone ends when no zone of it is in TEST any more (R164, R165). -/
def State.groupEnded (s : State) : State :=
  match s.sup.scan.group, s.sup.scan.stage with
  | some g, some .settle | some g, some .gate =>
    if (s.cfg.groupZones g).any s.inTest then s
    else if (s.cfg.groupsAfter g).isEmpty then s.endRound
    else s.setScan fun x => { x with stage := some .spacing, stageAt := some (s.now + 2000) }
  | _, _ => s

/-! ### Results (R165, R166) -/

/-- The result of a completed test (R165). -/
inductive LineResult where
  | failShort | pass | failOpen
deriving DecidableEq, Repr

/-- A count judged against the zone's window (R165). -/
def lineResult (lo hi n : Nat) (overflow : Bool) : LineResult :=
  if overflow ∨ hi < n then .failOpen else if n < lo then .failShort else .pass

/-- A fail run after a fail of a kind (R166). -/
def nextFailRun (r : Option FailRun) (k : FailKind) : FailRun :=
  match r with
  | some f => if f.kind = k then { kind := k, count := min (f.count + 1) 2 } else { kind := k, count := 1 }
  | none => { kind := k, count := 1 }

/-- The runs after a completed test (R166). -/
def Line.moveRuns (l : Line) : LineResult → Line
  | .pass => { l with failRun := none, passRun := min (l.passRun + 1) 3 }
  | .failShort => { l with failRun := some (nextFailRun l.failRun .short), passRun := 0 }
  | .failOpen => { l with failRun := some (nextFailRun l.failRun .openLine), passRun := 0 }

/-- The suspect status of a kind. -/
def FailKind.suspect : FailKind → LineStatus
  | .short => .suspectShort
  | .openLine => .suspectOpen

/-- The confirmed status of a kind. -/
def FailKind.confirmed : FailKind → LineStatus
  | .short => .short
  | .openLine => .openLine

/-- The status follows the runs (R166). -/
def nextStatus (st : LineStatus) (l : Line) : LineStatus :=
  match st, l.failRun with
  | .short, none | .openLine, none => if l.passRun = 3 then .good else st
  | _, none => .good
  | .short, some f | .openLine, some f => if f.count = 2 then f.kind.confirmed else st
  | _, some f => if f.count = 2 then f.kind.confirmed else f.kind.suspect

/-- The condition of a confirmed status. -/
def LineStatus.condition : LineStatus → Option FaultKind
  | .short => some .lineShort
  | .openLine => some .lineOpen
  | .untested | .good | .suspectShort | .suspectOpen => none

/-- The effects of a change of line status (R166). -/
def State.lineCondition (s : State) (z : ZoneId) (old new : LineStatus) : State :=
  if old = new then s
  else
    let s := match new.condition with | some k => s.raise k (some z.val) | none => s
    match old.condition with | some k => s.clear k (some z.val) | none => s

/-- A zone's test completes: judged, its status updated, its skips set to 0, and the zone leaves TEST (R165, R166, R169).
DESIGN CHOICE (log entry 47). -/
def State.completeTest (s : State) (z : ZoneId) : State :=
  let c := s.cfg.zones[z]
  let l := s.level z
  let runs := (s.sup.lines[z]).moveRuns (lineResult c.lo c.hi l.count l.overflow)
  let old := (s.zone z).lineStatus
  let new := nextStatus old runs
  let s := (s.returnCounter z).setLine z fun _ => { runs with skips := 0 }
  let s := ((s.setZone z fun x => { x with lineStatus := new }).lineCondition z old new).clear .lineUntested (some z.val)
  (s.setZone z fun x => { x with state := if new = .short then .off else .idle }).fallSilent z

/-! ### Aborts (R167) -/

/-- A zone's test is aborted (R167); the caller gives the zone its holder. -/
def State.abortTest (s : State) (z : ZoneId) : State :=
  if s.inTest z then ((s.fallSilent z).returnCounter z).skipZone z else s

/-- Evacuation aborts every test and ends the round (R154, R167). A zone that evacuation then finds neither HELD nor OFF is IDLE here.
DESIGN CHOICE (log entry 51). -/
def State.abortRound (s : State) : State :=
  let tests := allZones.filter s.inTest
  let s := (tests.foldl State.abortTest s)
  let s := tests.foldl (fun s z => s.setZone z fun x => { x with state := .idle }) s
  if s.sup.scan.inRound then
    let rest := match s.sup.scan.group with
      | some g => (s.cfg.groupsAfter g).flatMap s.cfg.groupZones
      | none => []
    (s.skipZones rest).endRound
  else s

end Sys2Proof.Machine
end

