-- ==== Sys2Proof/Machine/Queue.lean ====
section
/-! DEFINITION. The announcement queue and the Dispatcher: results, the nine tests, dispatch, offers, stops and the end of an instance
(R89 to R106). -/

namespace Sys2Proof.Machine

/-! ### Results (R106) -/

/-- The counter of a result (R106). -/
def Result.counter : Result → Counter
  | .done => .annDone
  | .queueFull => .qRefused
  | .expired | .evicted | .obsolete | .stopped | .preempted | .contended | .noZone | .suppressed | .assemblyFault | .underrun | .purged
  | .busy | .aborted => .annAborted

/-- The ANNOUNCE_RESULT frame of a key, if its origin is DESK or LIVE (R106). -/
def resultFrame (k : Key) (r : Result) : Option TxFrame :=
  match k with
  | .cue _ _ => none
  | .desk d t => some (plainFrame d .announceResult (resultPayload (some t) r) 3)
  | .live d => some (plainFrame d .announceResult (resultPayload none r) 3)

/-- An announcement ends with a result (R106). -/
def State.give (s : State) (k : Key) (r : Result) : State :=
  match resultFrame k r with
  | none => s.count r.counter
  | some f => (s.count r.counter).offer f

/-! ### The queue itself (R89, R90) -/

/-- Change the waiting entries. -/
def State.setEntries (s : State) (l : List Entry) : State := { s with queue := { s.queue with entries := l } }

/-- The order of R90. -/
def Entry.before (a b : Entry) : Bool :=
  decide (a.cls < b.cls)
    || (decide (a.cls = b.cls)
      && (decide (a.notBefore < b.notBefore) || (decide (a.notBefore = b.notBefore) && decide (a.seq < b.seq))))

/-- Insert in the order of R90. -/
def insertEntry (e : Entry) : List Entry → List Entry
  | [] => [e]
  | f :: rest => if e.before f then e :: f :: rest else f :: insertEntry e rest

/-- The waiting entry of a key. -/
def State.entryOf (s : State) (k : Key) : Option Entry := s.queue.entries.find? fun e => e.key = k

/-- The waiting entry of a key leaves the queue. -/
def State.dropEntry (s : State) (k : Key) : State := s.setEntries (s.queue.entries.filter fun e => decide (e.key ≠ k))

/-- A waiting entry leaves the queue with a result. -/
def State.removeEntry (s : State) (k : Key) (r : Result) : State := (s.dropEntry k).give k r

/-- The tags held by waiting entries and by instances (R90). -/
def State.heldTags (s : State) : List Nat :=
  s.queue.entries.map Entry.tag ++ allChans.filterMap fun c => (s.chan c).map ChanInst.tag

/-- The tag that is given: the first from the counter on that is not held (R90). -/
def State.nextTag (s : State) : Nat :=
  (((List.range 256).map fun k => (s.queue.tagCounter + k) % 256).find? fun t => !s.heldTags.contains t).getD s.queue.tagCounter

/-- A tag is given and the counter advances past it (R90). -/
def State.tookTag (s : State) : State := { s with queue := { s.queue with tagCounter := (s.nextTag + 1) % 256 } }

/-- A new entry with its tag and its sequence number (R90). -/
def State.insertNew (s : State) (e : Entry) : State :=
  let e := { e with tag := s.nextTag, seq := s.queue.seqCounter }
  { s.tookTag with
    queue := { s.tookTag.queue with entries := insertEntry e s.queue.entries, seqCounter := (s.queue.seqCounter + 1) % 2 ^ 32 } }

/-! ### The nine tests (R97 to R99) -/

/-- A class is preempting (R99, R118). -/
def preempting (cls : Nat) : Bool := decide (cls ≤ 2)

/-- A class lets past, or preempts, something of a class (R99, R101, R118). -/
def outranks (cls other : Nat) : Bool := preempting cls && decide (cls < other)

/-- The effective zones of an entry (R97). -/
def State.effective (s : State) (e : Entry) : ZoneSet := e.mask.filter s.inService

/-- A channel is FREE. -/
def State.isFree (s : State) (c : ChanId) : Bool := (s.chan c).isNone

/-- The channel that a class is given (R98). -/
def State.channelFor (s : State) (cls : Nat) : Option ChanId :=
  (if cls ≤ 2 then [0, 1, 2, 3] else [1, 2, 3]).find? s.isFree

/-- Test 8 for one zone (R99). -/
def State.ownZoneOk (s : State) (cls : Nat) (z : ZoneId) : Bool :=
  match (s.zone z).state with
  | .idle => true
  | .test => preempting cls
  | .held c => (s.chan c).any fun i => outranks cls i.cls
  | .off => false

/-- Test 9 for one effective zone (R99). -/
def State.neighboursOk (s : State) (cls : Nat) (effective : ZoneSet) (z : ZoneId) : Bool :=
  ((s.cfg.localNeighbours z).all fun n =>
      effective.contains n
        || match s.holder n with
          | some i => outranks cls i.cls
          | none => true)
    && (s.cfg.remoteNeighbours z).all fun g =>
      match s.occupant g with
      | some o => outranks cls o.cls
      | none => true

/-- A LIVE key. -/
def Key.isLive : Key → Bool
  | .live _ => true
  | .cue _ _ | .desk _ _ => false

/-- A CUE key. -/
def Key.isCue : Key → Bool
  | .cue _ _ => true
  | .live _ | .desk _ _ => false

/-- The outcome of the tests: the entry is passed over, removed, or passes with its channel and zones. -/
inductive Verdict where
  | pass
  | drop (r : Result)
  | go (c : ChanId) (zones : ZoneSet)
deriving DecidableEq, Repr

/-- The phase test (R97, test 3). -/
def State.phaseOk (s : State) (cls : Nat) : Bool :=
  decide (s.startup.phase = .run) || (decide (s.startup.phase = .joining) && decide (cls ≤ 2))

/-- The tests of R97 to R99, in order. -/
def State.verdict (s : State) (e : Entry) : Verdict :=
  if s.now < e.notBefore then .pass
  else if s.evac.active then .pass
  else if !s.phaseOk e.cls then .pass
  else if s.battery && decide (e.cls = 4) then .drop .suppressed
  else
    let zs := s.effective e
    if zs.isEmpty then .drop .noZone
    else
      match s.channelFor e.cls with
      | none => .pass
      | some c =>
        if e.key.isLive && s.liveInUse then .pass
        else if zs.all (s.ownZoneOk e.cls) && zs.all (s.neighboursOk e.cls zs) then .go c zs
        else .pass

/-! ### Dispatch (R100, R101) -/

/-- The chime of a class as an instance takes it: none while the phrase store is invalid (R85, R127). -/
def State.chimeFor (s : State) (cls : Nat) : Option Nat := if s.store.valid then s.cfg.chimeOf cls else none

/-- The phrase list of an entry (R100, step 1). -/
def State.words (s : State) (e : Entry) : State × Option (List Nat) :=
  if e.key.isLive then (s, some [])
  else s.assemble (e.template.getD 255) { call := e.boundCall.bind s.call, params := e.params }

/-- An instance with nothing begun (R125, R126, R155). -/
def ChanInst.new (cls : Nat) (key : Option Key) (tag : Nat) (chime : Option Nat) (phrases : List Nat) : ChanInst :=
  { cls := cls, key := key, tag := tag, state := .claiming, stage := .wake, chime := chime, phrases := phrases,
    play := { phrase := 0, block := 0 }, fetch := { phrase := if chime.isSome then 0 else 1, block := 0 }, dirs := [], gains := [],
    defaultLevel := false, levelLimited := false, gapCount := 0, outcome := none, stopPending := false, wakeEnd := none,
    listenEnd := none, holdFrom := 0, priming := none, keepAt := none, tailEnd := none, silentTail := false, liveTail := false, inPlay := .nothing,
    blockEnd := none, buffer := [], evac := none }

/-- The local zones that concern a preemption: the effective zones and their local neighbours (R101). -/
def State.reach (s : State) (zs : ZoneSet) : ZoneSet := zoneUnion zs (zs.flatMap s.cfg.localNeighbours)

/-- The channels whose instances a dispatch preempts (R101). -/
def State.preempted (s : State) (cls : Nat) (zs : ZoneSet) : List ChanId :=
  allChans.filter fun c => (s.chan c).any fun i => outranks cls i.cls && (s.heldBy c).any fun z => (s.reach zs).contains z

/-- A channel holds some zones (R100, step 3). -/
def State.hold (s : State) (c : ChanId) (zs : ZoneSet) : State := zs.foldl (fun s z => s.setZone z fun x => { x with state := .held c }) s

/-- Put or remove a continuation record (R100). -/
def State.setCont (s : State) (c : ChanId) (k : Option Continuation) : State :=
  { s with queue := { s.queue with continuations := s.queue.continuations.set c k } }

/-- A channel's continuation record. -/
def State.cont (s : State) (c : ChanId) : Option Continuation := s.queue.continuations[c]

/-- Steps 2 to 5 of R100. DESIGN CHOICE (log entry 50). -/
def State.launch (s : State) (e : Entry) (c : ChanId) (zs : ZoneSet) (words : List Nat) : State :=
  let s := (s.preempted e.cls zs).foldl (fun s d => s.enterTail d .preempted) s
  let s := ((zs.filter s.inTest).foldl State.abortTest s).hold c zs
  let s := s.groupEnded.setChan c (some (ChanInst.new e.cls (some e.key) e.tag (s.chimeFor e.cls) words))
  let s := (s.setCont c (some { entry := e, dispatchedAt := s.now, renewal := none, stopMark := none })).dropEntry e.key
  s.makeClaim c e.tag e.cls (some (s.now + 3000))

/-- The dispatch of an entry that passed the tests (R100). -/
def State.dispatch (s : State) (e : Entry) (c : ChanId) (zs : ZoneSet) : State :=
  match s.words e with
  | (s, none) => s.removeEntry e.key .assemblyFault
  | (s, some l) => s.launch e c zs l

/-! ### The walk (R96) -/

/-- One pass over the entries from the front, up to the first dispatch; the flag says whether one was made. -/
def State.pass : List Entry → State → State × Bool
  | [], s => (s, false)
  | e :: rest, s =>
    match s.verdict e with
    | .pass => State.pass rest s
    | .drop r => State.pass rest (s.removeEntry e.key r)
    | .go c zs => (s.dispatch e c zs, true)

/-- Passes until one dispatches nothing. Every dispatch takes an entry from the queue, so the queue's length bounds them. -/
def State.walkN : Nat → State → State
  | 0, s => s
  | n + 1, s =>
    match State.pass s.queue.entries s with
    | (s, true) => State.walkN n s
    | (s, false) => s

/-- An eligibility walk (R96). What it dispatched begins its fetch and discards gates in the same event. DESIGN CHOICE (log entry 42). -/
def State.walk (s : State) : State :=
  let t := State.walkN (s.queue.entries.length + 1) s
  (({ t with queue := { t.queue with walkedAt := t.now } } : State).arbitrate).settleGates

/-! ### Offers (R91, R92) -/

/-- Room is made for a new entry, or it is refused (R92). DEDUCED (log entry 14). -/
def State.offerNew (s : State) (e : Entry) : State :=
  if s.queue.entries.length < 24 then (s.insertNew e).walk
  else
    match s.queue.entries.getLast? with
    | some f => if e.cls < f.cls then ((s.removeEntry f.key .evicted).insertNew e).walk else s.give e.key .queueFull
    | none => s.give e.key .queueFull

/-- An entry is offered to the queue (R91). Its tag and sequence number are set here. -/
def State.offerEntry (s : State) (e : Entry) : State :=
  match s.entryOf e.key with
  | some f =>
    ((s.dropEntry e.key).setEntries
        (insertEntry { e with tag := f.tag, seq := f.seq, attempts := 0 } (s.dropEntry e.key).queue.entries)).walk
  | none =>
    match s.chanOfKey e.key with
    | none => s.offerNew e
    | some c =>
      match e.key with
      | .desk _ _ => (s.setCont c ((s.cont c).map fun k => { k with renewal := some e })).walk
      | .live _ => s
      | .cue _ _ => s

/-! ### Stops (R65, R95, R131) -/

/-- The stop mark of a stop. -/
def StopMark.ending : StopMark → Ending
  | .obsolete => .obsolete
  | .stopped => .stopped

/-- The result of a stop. -/
def StopMark.result : StopMark → Result
  | .obsolete => .obsolete
  | .stopped => .stopped

/-- A stop by key (R65, R95): a waiting entry is removed, an instance is told to stop, and in TAIL its record takes a stop mark (R131). -/
def State.stopKey (s : State) (k : Key) (m : StopMark) : State :=
  if (s.entryOf k).isSome then s.removeEntry k m.result
  else
    match s.chanOfKey k with
    | none => s
    | some c =>
      if (s.chan c).any fun i => decide (i.state = .tail) then
        s.setCont c ((s.cont c).map fun x => { x with stopMark := some m })
      else s.stopInstance c m.ending

/-! ### The end of an instance (R103 to R105) -/

/-- The withdrawal backoff (R104). -/
def NodeConfig.backoff (c : NodeConfig) : Nat := 1000 + 250 * (c.nodeId % 4)

/-- The not-before of a renewal (R105). -/
def renewalStart (r : Repeat) (now : Nat) : Nat :=
  match r with
  | .once => now
  | .every _ _ => now
  | .continuous g => now + g * 1000

/-- A renewal, if there is one, is offered as a new entry (R105). DEDUCED (log entry 39). -/
def State.offerRenewal (s : State) (k : Continuation) : State :=
  match k.renewal with
  | none => s
  | some e => s.offerEntry { e with attempts := 0, notBefore := renewalStart e.repetition s.now }

/-- The next entry of a repeat (R105). -/
def nextRepeat (k : Continuation) (now : Nat) : Option Entry :=
  match k.entry.repetition with
  | .once => none
  | .every _ (some 1) => none
  | .every p n =>
    some
      { k.entry with
        repetition := .every p (n.map fun r => r - 1), notBefore := max (k.dispatchedAt + p * 60000) now, attempts := 0 }
  | .continuous g => some { k.entry with notBefore := now + g * 1000, attempts := 0 }

/-- A renewal or a repeat after DONE (R105). -/
def State.offerNext (s : State) (k : Continuation) : State :=
  match k.renewal with
  | some _ => s.offerRenewal k
  | none =>
    match nextRepeat k s.now with
    | none => s
    | some e => if e.expiry.all fun x => decide (e.notBefore < x) then s.offerEntry e else s

/-- The result that ends an announcement in place of a requeue, if any (R103, R104): PREEMPTED first. DEDUCED (log entry 39). Where several
rows of the table of R104 hold, EXPIRED comes before OBSOLETE and OBSOLETE before CONTENDED. DESIGN CHOICE (log entry 60). -/
def State.requeueBar (s : State) (k : Continuation) (o : Ending) : Option Result :=
  if k.entry.key.isLive && decide (o = .preempted) then some .preempted
  else if k.entry.expiry.any fun x => decide (x ≤ s.now) then some .expired
  else if k.entry.key.isCue && (k.entry.boundCall.bind s.call).isNone then some .obsolete
  else if decide (3 ≤ k.entry.cls) && decide (8 ≤ k.entry.attempts + 1) then some .contended
  else none

/-- A withdrawn or preempted announcement returns as a new entry or ends (R104). -/
def State.requeue (s : State) (k : Continuation) (o : Ending) : State :=
  match s.requeueBar k o with
  | some r => s.give k.entry.key r
  | none =>
    s.offerEntry
      { k.renewal.getD k.entry with
        attempts := min (k.entry.attempts + 1) 15,
        notBefore := if o = .withdrawn then s.now + s.cfg.backoff else s.now,
        expiry := k.entry.expiry }

/-- The Dispatcher acts on the outcome of an instance (R103). -/
def State.settleEnd (s : State) (k : Continuation) (o : Ending) : State :=
  let key := k.entry.key
  match o, k.stopMark with
  | .done, none => (s.give key .done).offerNext k
  | .withdrawn, none => s.requeue k o
  | .preempted, none => s.requeue k o
  | .stopped, none => (s.give key .stopped).offerRenewal k
  | .underrun, none => (s.give key .underrun).offerRenewal k
  | .obsolete, none => s.give key .obsolete
  | .aborted, none => s.give key .aborted
  | .withdrawn, some m => (s.give key m.result).offerRenewal k
  | .preempted, some m => (s.give key m.result).offerRenewal k
  | .done, some _ => (s.give key .done).offerRenewal k
  | .stopped, some _ => (s.give key .stopped).offerRenewal k
  | .underrun, some _ => (s.give key .underrun).offerRenewal k
  | .obsolete, some _ => (s.give key .obsolete).offerRenewal k
  | .aborted, some _ => (s.give key .aborted).offerRenewal k

/-- A channel that became FREE reports its instance, if of queue origin (R103, R132). -/
def State.reportEnd (s : State) (c : ChanId) (i : ChanInst) : State :=
  match i.key, s.cont c with
  | some _, some k => (s.setCont c none).settleEnd k (i.outcome.getD .done)
  | _, _ => s

end Sys2Proof.Machine
end

