-- ==== Sys2Proof/Machine/Cues.lean ====
section
/-! DEFINITION. The Cue Engine: zones, windows, instants, firing, withdrawal, the special cues and the notices (R57 to R74). -/

namespace Sys2Proof.Machine

/-! ### Zones and windows (R56, R57, R68, R71, R72) -/

/-- The platform zones of a platform (R57). -/
def NodeConfig.platformZones (c : NodeConfig) (p : Nat) : ZoneSet :=
  allZones.filter fun z =>
    (c.zones[z]).present && decide (p ≠ 0) && (c.zones[z]).slot.any fun k => decide (c.platforms.toList.getD k 0 = p)

/-- The target mask of a firing for some platforms (R57). -/
def NodeConfig.cueMask (c : NodeConfig) (q : Cue) (platforms : List Nat) : ZoneSet :=
  zoneUnion (if q.platformZones then platforms.flatMap c.platformZones else []) (q.concourse.filter fun z => (c.zones[z]).present)

/-- A cue's state window (R56, R68, R71, R72). -/
def Cue.windowOf (q : Cue) : CueName → List CallState
  | .delay => [.planned, .approaching, .atPlatform]
  | .cancel => [.cancelled]
  | .alteration => [.moving, .moved, .moveFailed, .planned, .approaching, .atPlatform, .closing]
  | .c1 | .c2 | .c3 | .c4 => q.window

/-- Whether a record is inside a cue's window. -/
def State.inside (s : State) (r : CallRecord) (n : CueName) : Bool := ((s.cue r n).windowOf n).contains r.state

/-- Change a cue slot of the record of a call. -/
def State.setSlot (s : State) (id : Nat) (n : CueName) (f : CueSlot → CueSlot) : State :=
  match s.call id with
  | none => s
  | some r => s.putCall (r.setSlot n (f (r.slot n)))

/-! ### Firing and withdrawal (R62, R64, R65) -/

/-- An instant one period after a minute, or none past the day (R64). -/
def periodAfter (q : Cue) (m : Option Nat) : Option Nat :=
  q.repeatEvery.bind fun p => m.bind fun m => if m + p ≤ 1439 then some (m + p) else none

/-- The entry that a firing offers (R62). -/
def cueEntry (id : Nat) (n : CueName) (q : Cue) (mask : ZoneSet) (now : Nat) : Entry :=
  { tag := 0, seq := 0, key := .cue id n, cls := q.cls, mask := mask, template := some q.template, params := [], notBefore := now,
    expiry := some (now + q.validity * 60000), repetition := .once, attempts := 0, boundCall := some id }

/-- A cue fires (R62). The slot records the firing whether or not the queue keeps the entry. -/
def State.fire (s : State) (id : Nat) (n : CueName) (platforms : List Nat) : State :=
  match s.call id with
  | none => s
  | some r =>
    let q := s.cue r n
    let s := s.putCall (r.setSlot n { state := .fired, next := periodAfter q s.minuteNow, firedBase := some r.base })
    if (s.chanOfKey (.cue id n)).isSome then s
    else s.offerEntry (cueEntry id n q (s.cfg.cueMask q platforms) s.now)

/-- A cue fires on the zones of its record's platform. -/
def State.fireHere (s : State) (id : Nat) (n : CueName) : State :=
  match s.call id with
  | none => s
  | some r => s.fire id n [r.platform]

/-- A cue's announcement is withdrawn (R65). -/
def State.withdraw (s : State) (id : Nat) (n : CueName) : State := s.stopKey (.cue id n) .obsolete

/-! ### Windows compared (R59) -/

/-- One cue of a record is compared with its window (R59). Special cues are compared for the right-hand column only. The slot of an unused
plan cue is not left ARMED (R56). DESIGN CHOICE (log entries 45 and 49). -/
def State.compare (s : State) (id : Nat) (n : CueName) : State :=
  match s.call id with
  | none => s
  | some r =>
    let q := s.cue r n
    if n.isPlan && !q.used then
      if (r.slot n).state = .armed then s.setSlot id n fun c => { c with state := .idle } else s
    else
      match (r.slot n).state, s.inside r n with
      | .idle, true => if n.isPlan then s.setSlot id n fun c => { c with state := .armed } else s
      | .armed, false => s.setSlot id n fun c => { c with state := .idle }
      | .fired, false | .missed, false => (s.setSlot id n fun c => { c with next := none }).withdraw id n
      | _, _ => s

/-- Every cue of a record is compared, in order (R59, R73). -/
def State.compareAll (s : State) (id : Nat) : State := allCues.foldl (fun s n => s.compare id n) s

/-- In MOVING, MOVED and MOVE_FAILED no entry or instance of the call lives on but those of its ALTERATION and CANCEL cues, whatever its
slots hold (R47, R66). -/
def State.withdrawMoved (s : State) (id : Nat) : State :=
  match (s.call id).map CallRecord.state with
  | some .moving | some .moved | some .moveFailed =>
    (allCues.filter fun n => decide (n ≠ .alteration) && decide (n ≠ .cancel)).foldl (fun s n => s.withdraw id n) s
  | _ => s

/-! ### Instants and second events (R44, R60, R61, R64) -/

/-- The minute of an untimed stamp (R44). -/
def resolveMinute (now minute stamp : Nat) : Nat := minute - (now - stamp) / 60000

/-- An event minute as a block reads it; untimed while there is no time (R44). -/
def EventMinute.read (e : EventMinute) (now : Nat) (minute : Option Nat) : EventMinute :=
  match e, minute with
  | .untimed stamp, some m => .minute (resolveMinute now m stamp)
  | e, _ => e

/-- A record with one event minute read and stored (R44). -/
def CallRecord.readEvent (r : CallRecord) (e : TrainEvent) (now : Nat) (minute : Option Nat) : CallRecord :=
  { r with events := r.events.set e.idx ((r.events[e.idx]).read now minute) }

/-- A block reads an event minute of a record: an untimed one is stored as it is then read (R44). -/
def State.readEvent (s : State) (id : Nat) (e : TrainEvent) : State :=
  match s.call id with
  | none => s
  | some r => s.putCall (r.readEvent e s.now s.minuteNow)

/-- The instant of an ARMED slot (R60). Special cues have none. -/
def CallRecord.instant (r : CallRecord) (n : CueName) (q : Cue) : Option Nat :=
  if n.isPlan then
    match q.trigger with
    | .beforeTime o => some (r.base - o)
    | .onEvent _ => none
    | .afterEvent e o =>
      match r.events[e.idx] with
      | .minute m => some (min (m + o) 1439)
      | .absent => none
      | .untimed _ => none
  else none

/-- The Cue Engine reads the event minute that an AFTER_EVENT cue needs (R44, R60). -/
def State.readFor (s : State) (id : Nat) (n : CueName) (q : Cue) : State :=
  match n.isPlan, q.trigger with
  | true, .afterEvent e _ => s.readEvent id e
  | _, _ => s

/-- An ARMED slot at a second event (R61). -/
def State.examineArmed (s : State) (id : Nat) (n : CueName) (q : Cue) (m : Nat) : State :=
  let s := s.readFor id n q
  match (s.call id).bind fun r => r.instant n q with
  | none => s
  | some t =>
    if m < t then s
    else if m - t ≤ s.cfg.lateLimit then s.fireHere id n
    else (s.setSlot id n fun c => { c with state := .missed }).count .cuesMissed

/-- A FIRED slot of a repeating cue, inside its window, at a second event (R64). -/
def State.examineFired (s : State) (id : Nat) (n : CueName) (q : Cue) (m : Nat) (next : Option Nat) : State :=
  match next with
  | none => s.setSlot id n fun c => { c with next := periodAfter q (some m) }
  | some t =>
    if m < t then s
    else if m - t ≤ s.cfg.lateLimit then s.fireHere id n
    else (s.setSlot id n fun c => { c with next := periodAfter q (some m) }).count .cuesMissed

/-- One slot at a second event (R61, R64). -/
def State.examine (s : State) (m : Nat) (id : Nat) (n : CueName) : State :=
  match s.call id with
  | none => s
  | some r =>
    let q := s.cue r n
    if q.used then
      match (r.slot n).state with
      | .armed => s.examineArmed id n q m
      | .fired => if q.repeatEvery.isSome && s.inside r n then s.examineFired id n q m (r.slot n).next else s
      | .idle => s
      | .missed => s
    else s

/-- A second event (R24, R61, R64): every slot in order of call id, then of cue. -/
def State.secondEvent (s : State) : State :=
  match s.minuteNow with
  | none => s
  | some m => (s.calls.map CallRecord.id).foldl (fun s id => allCues.foldl (fun s n => s.examine m id n) s) s

/-! ### The special cues and re-arming (R68 to R72) -/

/-- The difference of two numbers. -/
def distance (a b : Nat) : Nat := (a - b) + (b - a)

/-- Whether a delay is to be announced, given the last one announced (R68). -/
def delayDue (threshold rearm : Nat) (last : Option Nat) (d : Nat) : Bool :=
  decide (threshold ≤ d)
    && match last with
      | none => true
      | some l => decide (l < threshold) || decide (rearm ≤ distance d l)

/-- R68. DEDUCED (log entry 23). -/
def State.delayTest (s : State) (id : Nat) : State :=
  match s.call id with
  | none => s
  | some r =>
    match r.delay with
    | none => s
    | some d =>
      let st := (r.slot .delay).state
      if (s.cue r .delay).used && s.inside r .delay && delayDue s.cfg.delayThreshold s.cfg.rearmThreshold r.lastDelay d
          && (decide (st = .idle) || decide (st = .fired)) then
        (s.putCall { r with lastDelay := some d }).fireHere id .delay
      else s

/-- R69. -/
def State.delayEnd (s : State) (id : Nat) : State :=
  match s.call id with
  | none => s
  | some r =>
    let st := (r.slot .delay).state
    if r.delay.all (fun d => decide (d < s.cfg.delayThreshold)) && (decide (st = .fired) || decide (st = .armed)) then
      (s.putCall { r.setSlot .delay { r.slot .delay with state := .idle, next := none } with lastDelay := none }).withdraw id .delay
    else s

/-- R68 and R69, which are tested on the same notices. -/
def State.delayRules (s : State) (id : Nat) : State := (s.delayTest id).delayEnd id

/-- Whether a FIRED slot is armed again (R70). DESIGN CHOICE (log entry 45). -/
def rearms (rearm now base : Nat) (q : Cue) (c : CueSlot) : Bool :=
  match q.trigger, c.firedBase with
  | .beforeTime o, some f => decide (c.state = .fired) && decide (now < base - o) && decide (f + rearm ≤ base)
  | _, _ => false

/-- R70 for one cue. -/
def State.rearm (s : State) (id : Nat) (n : CueName) : State :=
  match s.call id, s.minuteNow with
  | some r, some m =>
    if n.isPlan && (s.cue r n).used && s.inside r n && rearms s.cfg.rearmThreshold m r.base (s.cue r n) (r.slot n) then
      s.setSlot id n fun c => { c with state := .armed, next := none }
    else s
  | _, _ => s

/-- R70. -/
def State.rearmAll (s : State) (id : Nat) : State := allCues.foldl (fun s n => s.rearm id n) s

/-- The occasion of the CANCEL cue (R71). -/
def State.cancelOccasion (s : State) (id : Nat) : State :=
  match s.call id with
  | none => s
  | some r => if (s.cue r .cancel).used then s.fireHere id .cancel else s

/-- An occasion of the ALTERATION cue, with the platforms whose zones it takes (R72). DEDUCED (log entry 36). -/
def State.alterationOccasion (s : State) (id : Nat) (platforms : List Nat) : State :=
  match s.call id with
  | none => s
  | some r => if (s.cue r .alteration).used then s.fire id .alteration platforms else s

/-! ### Notices (R36, R67, R73) -/

/-- An ON_EVENT cue fires for the event that its notice carries (R67). -/
def State.onEvent (s : State) (id : Nat) (e : TrainEvent) (n : CueName) : State :=
  match s.call id with
  | none => s
  | some r =>
    let q := s.cue r n
    if n.isPlan && q.used && decide (q.trigger = .onEvent e) && decide ((r.slot n).state = .armed) then s.fireHere id n else s

/-- INSERTED (R73). -/
def State.noticeInserted (s : State) (id : Nat) : State := (s.compareAll id).delayRules id

/-- STATE from a state, with the train event that caused it (R59, R67, R71, R72). -/
def State.noticeState (s : State) (id : Nat) (old : CallState) (event : Option TrainEvent) : State :=
  let s := (s.compareAll id).withdrawMoved id
  let s := match event with
    | none => s
    | some e => allCues.foldl (fun s n => s.onEvent id e n) s
  match s.call id with
  | none => s
  | some r =>
    match r.state with
    | .cancelled => s.cancelOccasion id
    | .moving => s.alterationOccasion id [r.platform]
    | .moved => if old = .moving then s else s.alterationOccasion id [r.platform]
    | .planned | .approaching | .atPlatform | .closing | .departed | .terminated | .moveFailed => s

/-- AMENDED (R68 to R70). -/
def State.noticeAmended (s : State) (id : Nat) : State := (s.delayRules id).rearmAll id

/-- What a REPLACED notice says (R36, R68, R70). -/
structure Replaced where
  kindChanged : Bool
  timesChanged : Bool
  baseChanged : Bool
deriving DecidableEq, Repr

/-- REPLACED (R73). DEDUCED (log entry 24). -/
def State.noticeReplaced (s : State) (id : Nat) (x : Replaced) : State :=
  let s :=
    if x.kindChanged then ((allCues.filter fun n => decide (n ≠ .alteration)).foldl (fun s n => s.withdraw id n) s).compareAll id else s
  let s := if x.timesChanged then s.delayRules id else s
  if x.baseChanged then s.rearmAll id else s

/-- REINSTATED (R73). -/
def State.noticeReinstated (s : State) (id : Nat) : State :=
  match s.call id with
  | none => s
  | some r =>
    let out := allCues.filter fun n => !((s.cue r n).windowOf n).contains CallState.planned
    ((out.foldl (fun s n => s.withdraw id n) s).compareAll id).delayRules id

/-- LOCAL_MOVE (R72, R73). DEDUCED (log entry 25). -/
def State.noticeLocalMove (s : State) (id : Nat) (old new : Nat) : State := s.alterationOccasion id [new, old]

/-- ADOPTED: the record was created, or updated with the platform it had before (R72, R73). -/
def State.noticeAdopted (s : State) (id : Nat) (created : Bool) (before : Nat) : State :=
  let s := (s.compareAll id).delayRules id
  match s.call id with
  | none => s
  | some r => if created || decide (before ≠ r.platform) then s.alterationOccasion id [r.platform] else s

end Sys2Proof.Machine
end

