-- ==== Sys2Proof/Machine/Calls.lean ====
section
/-! DEFINITION. The Call Table: room and cells, freeing, posts, amendments, cancellations, train events, moves and hand-overs, and the
rollover purge (R29, R30, R35 to R55). -/

namespace Sys2Proof.Machine

/-! ### Points, room and freeing (R35, R40, R45) -/

/-- A record given a list of points and a posted count (R35); `calls` is the table, whose cells of this call count as free. -/
def CallRecord.givePoints (r : CallRecord) (calls : List CallRecord) (points : List Nat) (posted : Nat) : CallRecord :=
  let stored := points.take (poolFree (calls.filter fun q => decide (q.id ≠ r.id)))
  { r with points := stored, posted := posted, truncated := decide (stored.length < posted) }

/-- A record leaves the table, and the waiting entries bound to it leave the queue as OBSOLETE (R45). -/
def State.freeCall (s : State) (id : Nat) : State :=
  let s := { s with calls := s.calls.filter fun r => decide (r.id ≠ id) }
  (s.queue.entries.filter fun e => decide (e.boundCall = some id)).foldl (fun s e => s.removeEntry e.key .obsolete) s

/-- The ended record with the earliest linger deadline; of equals the lower call id, which stands first (R40). -/
def evictee (calls : List CallRecord) : Option CallRecord :=
  calls.foldl
    (fun best r =>
      match r.linger, best with
      | none, _ => best
      | some _, none => some r
      | some d, some b => if d < b.linger.getD 0 then some r else some b)
    none

/-- Room for a record (R40): the state after any eviction, and whether there is room. -/
def State.makeRoom (s : State) : State × Bool :=
  if s.calls.length < 48 then (s, true)
  else
    match evictee (s.calls.filter fun r => !r.state.isLive) with
    | some r => (s.freeCall r.id, true)
    | none => (s, false)

/-- The node refuses a call for want of room (R40, R52). -/
def State.refuseCall (s : State) (id platform : Nat) : State :=
  (s.offer (plainFrame 0 .callRefuse (refusePayload id platform) 2)).count .callRefused

/-- A record enters an ended state, its linger deadline set and any move forgotten (R34, R45). -/
def CallRecord.enterEnded (r : CallRecord) (st : CallState) (deadline : Nat) : CallRecord :=
  { r with state := st, linger := some deadline, moving := none }

/-- The linger deadline of a record that ends now (R45). -/
def State.lingerEnd (s : State) : Nat := s.now + s.cfg.linger * 60000

/-- A record ends, and STATE is given (R45, R36). -/
def State.endCall (s : State) (r : CallRecord) (st : CallState) (event : Option TrainEvent) : State :=
  (s.putCall (r.enterEnded st s.lingerEnd)).noticeState r.id r.state event

/-- All slots cleared (R33). -/
def clearSlots : Vector CueSlot 7 := Vector.replicate 7 CueSlot.clear

/-! ### Building a hand-over (R47, R51) -/

/-- A record with all its event minutes read (R44, R47). -/
def CallRecord.readEvents (r : CallRecord) (now : Nat) (minute : Option Nat) : CallRecord :=
  { r with events := r.events.map fun e => e.read now minute }

/-- An event minute as it is carried (R47). -/
def EventMinute.carried : EventMinute → Option Nat
  | .minute m => some m
  | .absent => none
  | .untimed _ => none

/-- The hand-over of a record (R47). -/
def CallRecord.handover (r : CallRecord) (target : Nat) (state : CallState) : Handover :=
  { id := r.id, oldPlatform := r.platform, target := target, kind := r.kind, state := state, carriages := r.carriages, posted := r.posted,
    scheduled := r.scheduled, expected := r.expected, destination := r.destination, origin := r.origin,
    events := r.events.map EventMinute.carried, lastDelay := r.lastDelay, slots := r.slots, points := r.points }

/-- A CALL_HANDOVER of a record is queued; its event minutes are read for it (R44, R47). -/
def State.sendHandover (s : State) (r : CallRecord) (target : Nat) (state : CallState) : State :=
  let r := r.readEvents s.now s.minuteNow
  (s.putCall r).offer (plainFrame 0 .callHandover (handoverPayload (r.handover target state)) 2)

/-- A fresh CALL_HANDOVER for a record in MOVING (R51). -/
def State.resendHandover (s : State) (id : Nat) : State :=
  match s.call id with
  | none => s
  | some r =>
    match r.moving with
    | none => s
    | some m => s.sendHandover r m.target m.prior

/-! ### CALL_POST (R37 to R39) -/

/-- A record as a post makes it (R37, R39). -/
def PostFields.record (p : PostFields) : CallRecord :=
  { id := p.id, platform := p.platform, kind := p.kind, scheduled := p.scheduled, expected := p.expected, destination := p.destination,
    origin := p.origin, carriages := p.carriages, points := [], posted := 0, truncated := false, state := .planned,
    events := Vector.replicate 4 .absent, lastDelay := none, moving := none, linger := none, slots := clearSlots }

/-- A post for a call that the table does not hold (R37). -/
def State.insertPost (s : State) (p : PostFields) : State :=
  match s.makeRoom with
  | (s, true) => (s.putCall (p.record.givePoints s.calls p.points p.points.length)).noticeInserted p.id
  | (s, false) => s.refuseCall p.id p.platform

/-- A post reinstates a CANCELLED call (R39). -/
def State.reinstate (s : State) (p : PostFields) : State :=
  ((s.putCall (p.record.givePoints s.calls p.points p.points.length)).noticeState p.id .cancelled none).noticeReinstated p.id

/-- Whether a post replaces the kind of a record (R38). -/
def CallState.takesKind : CallState → Bool
  | .planned | .approaching => true
  | .atPlatform | .closing | .moving | .departed | .terminated | .cancelled | .moved | .moveFailed => false

/-- The record after a replacing post (R38). -/
def CallRecord.replaced (r : CallRecord) (p : PostFields) (calls : List CallRecord) : CallRecord :=
  let kind := if r.state.takesKind then p.kind else r.kind
  { r with
    platform := if r.state = CallState.moving then r.platform else p.platform, kind := kind, scheduled := p.scheduled, expected := p.expected,
    destination := p.destination, origin := p.origin, carriages := p.carriages,
    slots := if kind = r.kind then r.slots else clearSlots }.givePoints calls p.points p.points.length

/-- The REPLACED notice from a record to its replacement (R36). -/
def replacedNotice (old new : CallRecord) : Replaced :=
  { kindChanged := decide (old.kind ≠ new.kind),
    timesChanged := decide (old.expected ≠ new.expected) || decide (old.scheduled ≠ new.scheduled),
    baseChanged := decide (old.base ≠ new.base) }

/-- A post replaces the fields of a record (R38); in MOVING a change is handed on (R51). -/
def State.replacePost (s : State) (r : CallRecord) (p : PostFields) : State :=
  let new := r.replaced p s.calls
  let s := (s.putCall new).noticeReplaced r.id (replacedNotice r new)
  if r.state = .moving ∧ new ≠ r then s.resendHandover r.id else s

/-- CALL_POST (R37 to R39). -/
def State.callPost (s : State) (p : PostFields) : State :=
  if s.cfg.ownPlatform p.platform then
    match s.call p.id with
    | none => s.insertPost p
    | some r => if r.state = .cancelled then s.reinstate p else s.replacePost r p
  else s

/-! ### CALL_AMEND and CALL_CANCEL (R41, R42) -/

/-- CALL_AMEND (R41). -/
def State.callAmend (s : State) (a : AmendFields) : State :=
  match s.call a.id with
  | none => s
  | some r =>
    if r.state.isLive = true ∧ r.expected ≠ a.expected then
      let s := (s.putCall { r with expected := a.expected }).noticeAmended a.id
      if r.state = .moving then s.resendHandover a.id else s
    else s

/-- A live record is cancelled (R42); a hand-over under way is ended by one that carries CANCELLED (R51). -/
def State.cancelCall (s : State) (r : CallRecord) : State :=
  let s :=
    match r.moving with
    | none => s
    | some m => s.sendHandover r m.target .cancelled
  match s.call r.id with
  | none => s
  | some r => s.endCall r .cancelled none

/-- CALL_CANCEL (R42). -/
def State.callCancel (s : State) (id : Nat) : State :=
  match s.call id with
  | none => s
  | some r => if r.state.isLive then s.cancelCall r else s

/-! ### Train events (R43) -/

/-- The target state of an event (R43). -/
def eventTarget : CallKind → TrainEvent → Option CallState
  | .departure, .approaching => some .approaching
  | .departure, .arrived => some .atPlatform
  | .departure, .doorsClosing => some .closing
  | .departure, .departed => some .departed
  | .arrival, .approaching => some .approaching
  | .arrival, .arrived => some .terminated
  | .arrival, .doorsClosing => none
  | .arrival, .departed => none

/-- A state's place in the forward order (R34); none outside it. -/
def CallState.forward : CallState → Option Nat
  | .planned => some 0
  | .approaching => some 1
  | .atPlatform => some 2
  | .terminated => some 2
  | .closing => some 3
  | .departed => some 4
  | .moving | .cancelled | .moved | .moveFailed => none

/-- Whether one state lies earlier than another in the forward order. -/
def CallState.earlier (a b : CallState) : Bool :=
  match a.forward, b.forward with
  | some m, some n => decide (m < n)
  | _, _ => false

/-- The states in which a train event is judged: live and not MOVING (R43). -/
def CallState.running (st : CallState) : Bool := st.isLive && decide (st ≠ .moving)

/-- The minute recorded for an event taken now (R31, R44): that of the second the clock shows, also at the instant at which the next second is
about to begin. DESIGN CHOICE (log entry 59). -/
def State.eventMinute (s : State) : EventMinute :=
  match s.minuteNow with
  | some m => .minute m
  | none => .untimed s.now

/-- TRAIN_EVENT (R43). -/
def State.trainEvent (s : State) (x : EventFields) : State :=
  match s.call x.id with
  | none => s
  | some r =>
    if r.state.running then
      match eventTarget r.kind x.event with
      | none => s.count .staleEvent
      | some st =>
        if r.state.earlier st then
          let r := { r with events := r.events.set x.event.idx s.eventMinute }
          if st.isLive then (s.putCall { r with state := st }).noticeState x.id r.state (some x.event)
          else s.endCall r st (some x.event)
        else s.count .staleEvent
    else s

/-! ### CALL_MOVE (R46 to R48) -/

/-- The adopt timeout (R47). -/
def adoptTimeout : Nat := 10000

/-- A hand-over begins (R47). -/
def State.beginHandover (s : State) (r : CallRecord) (target : Nat) : State :=
  let r' := { r with state := .moving, moving := some { prior := r.state, target := target, deadline := s.now + adoptTimeout } }
  ((s.putCall r').sendHandover r' target r.state).noticeState r.id r.state none

/-- A local move (R46). -/
def State.localMove (s : State) (r : CallRecord) (platform : Nat) : State :=
  (s.putCall { r with platform := platform }).noticeLocalMove r.id r.platform platform

/-- A CALL_MOVE at a record in MOVING (R48). -/
def State.moveAgain (s : State) (r : CallRecord) (m : Moving) (platform : Nat) : State :=
  if s.cfg.ownPlatform platform then
    ((s.putCall { r with state := m.prior, moving := none, platform := platform }).noticeState r.id .moving none).noticeLocalMove r.id
      r.platform platform
  else
    let r' := { r with moving := some { m with target := platform, deadline := s.now + adoptTimeout } }
    (s.putCall r').sendHandover r' platform m.prior

/-- CALL_MOVE (R46 to R48). -/
def State.callMove (s : State) (x : CallPlatform) : State :=
  match s.call x.id with
  | none => s
  | some r =>
    match r.state, r.moving with
    | .moving, some m => s.moveAgain r m x.platform
    | st, _ =>
      if st.running then
        if x.platform = r.platform then s
        else if s.cfg.ownPlatform x.platform then s.localMove r x.platform
        else s.beginHandover r x.platform
      else s

/-! ### Answers (R49, R50) -/

/-- CALL_ADOPT (R49). -/
def State.callAdopt (s : State) (x : CallPlatform) : State :=
  match s.call x.id with
  | none => s
  | some r =>
    match r.moving with
    | none => s
    | some m => if r.state = .moving ∧ m.target = x.platform then s.endCall r .moved none else s

/-- A hand-over fails (R50). -/
def State.failMove (s : State) (r : CallRecord) : State :=
  ((s.putCall (r.enterEnded .moveFailed s.lingerEnd)).raise .callMoveFailed (some r.id)).noticeState r.id r.state none

/-- CALL_REFUSE (R50). -/
def State.callRefuse (s : State) (x : CallPlatform) : State :=
  match s.call x.id with
  | none => s
  | some r =>
    match r.moving with
    | none => s
    | some m => if r.state = .moving ∧ m.target = x.platform then s.failMove r else s

/-! ### CALL_HANDOVER (R52 to R55) -/

/-- A carried event minute. -/
def carriedMinute : Option Nat → EventMinute
  | some m => .minute m
  | none => .absent

/-- A slot state that a hand-over keeps (R52, R53). -/
def SlotState.spent : SlotState → Bool
  | .fired | .missed => true
  | .idle | .armed => false

/-- A carried slot as a new or revived record takes it (R52). -/
def CueSlot.adopted (c : CueSlot) : CueSlot := if c.state.spent then { c with next := none } else CueSlot.clear

/-- A slot of an updated record, from this node's copy and the carried one (R53). DESIGN CHOICE (log entry 43). -/
def CueSlot.merged (own carried : CueSlot) : CueSlot :=
  if own.state.spent then { own with firedBase := own.firedBase.or carried.firedBase }
  else if carried.state.spent then { carried with next := none, firedBase := own.firedBase.or carried.firedBase }
  else own

/-- The slots of an updated record, in order. -/
def mergeSlots (own carried : Vector CueSlot 7) : Vector CueSlot 7 := Vector.zipWith CueSlot.merged own carried

/-- A record with the carried fields and points, on the target platform (R52, R53). DESIGN CHOICE (log entry 43). -/
def CallRecord.carry (r : CallRecord) (h : Handover) (calls : List CallRecord) : CallRecord :=
  { r with
    platform := h.target, kind := h.kind, scheduled := h.scheduled, expected := h.expected, destination := h.destination,
    origin := h.origin, carriages := h.carriages, events := h.events.map carriedMinute,
    lastDelay := h.lastDelay }.givePoints calls h.points h.posted

/-- The new owner's answer (R52, R53). -/
def State.sendAdopt (s : State) (h : Handover) : State := s.offer (plainFrame 0 .callAdopt (adoptPayload h.id h.target) 2)

/-- A blank record of a hand-over, in its carried state with its carried slots (R52). -/
def Handover.blank (h : Handover) : CallRecord :=
  { id := h.id, platform := h.target, kind := h.kind, scheduled := h.scheduled, expected := h.expected, destination := h.destination,
    origin := h.origin, carriages := h.carriages, points := [], posted := 0, truncated := false, state := h.state,
    events := h.events.map carriedMinute, lastDelay := h.lastDelay, moving := none, linger := none, slots := h.slots.map CueSlot.adopted }

/-- A hand-over of a call the node does not hold (R52). -/
def State.adoptNew (s : State) (h : Handover) : State :=
  match s.makeRoom with
  | (s, true) => ((s.putCall (h.blank.givePoints s.calls h.points h.posted)).sendAdopt h).noticeAdopted h.id true h.oldPlatform
  | (s, false) => s.refuseCall h.id h.target

/-- A hand-over of a call the node holds in a live state other than MOVING (R53); ADOPTED is given also where it leaves the record as it was
(R36). DESIGN CHOICE (log entries 55 and 61). -/
def State.adoptLive (s : State) (r : CallRecord) (h : Handover) : State :=
  let r' :=
    { r.carry h s.calls with
      state := if r.state.earlier h.state then h.state else r.state, slots := mergeSlots r.slots h.slots }
  ((s.putCall r').sendAdopt h).noticeAdopted r.id false r.platform

/-- A hand-over of a call the node holds in MOVING (R53): the record starts again from its prior state. DEDUCED (log entry 26).
DESIGN CHOICE (log entry 55). -/
def State.adoptMoving (s : State) (r : CallRecord) (m : Moving) (h : Handover) : State :=
  let r' :=
    { r.carry h s.calls with
      state := if m.prior.earlier h.state then h.state else m.prior, slots := mergeSlots r.slots h.slots, moving := none }
  (((s.putCall r').sendAdopt h).noticeState r.id .moving none).noticeAdopted r.id false r.platform

/-- A hand-over revives an ended record (R53). -/
def State.adoptEnded (s : State) (r : CallRecord) (h : Handover) : State :=
  let r' := { r.carry h s.calls with state := h.state, linger := none, slots := h.slots.map CueSlot.adopted }
  (((s.putCall r').sendAdopt h).noticeState r.id r.state none).noticeAdopted r.id false r.platform

/-- A live hand-over to a platform of this node (R52, R53). -/
def State.adopt (s : State) (h : Handover) : State :=
  match s.call h.id with
  | none => s.adoptNew h
  | some r =>
    match r.state, r.moving with
    | .cancelled, _ => s
    | .moving, some m => s.adoptMoving r m h
    | st, _ => if st.isLive then s.adoptLive r h else s.adoptEnded r h

/-- CALL_HANDOVER (R52 to R55). -/
def State.callHandover (s : State) (h : Handover) : State :=
  if s.cfg.ownPlatform h.target then
    if h.state = .cancelled then s.callCancel h.id else s.adopt h
  else
    match s.call h.id with
    | none => s
    | some r => if r.state.running then s.endCall r .moved none else s

/-! ### The rollover purge (R29, R30) -/

/-- R29 and R30: every record is freed, every CUE entry is removed as PURGED, and a walk follows. -/
def State.purge (s : State) : State :=
  let s := { s with calls := [] }
  ((s.queue.entries.filter fun e => e.key.isCue).foldl (fun s e => s.removeEntry e.key .purged) s).walk

end Sys2Proof.Machine
end

