-- ==== Sys2Proof/Machine/Reception.lean ====
section
/-! DEFINITION. The reception of a completed frame (R16 to R18), the error budget (R19), and the meanings of BAD_FRAME, UNKNOWN_KIND and
the kinds without an owner. -/

namespace Sys2Proof.Machine

/-- The link error budget is decremented; at 0 LINK_ERRORS is raised and the budget reloaded (R19). -/
def State.spend (s : State) : State :=
  match s.link.budget with
  | none => s
  | some b =>
    if b ≤ 1 then ({ s with link := { s.link with budget := some s.cfg.errorBudget } } : State).raise .linkErrors none
    else { s with link := { s.link with budget := some (b - 1) } }

/-- The receiver hands a completed frame to the checks: not in UNKNOWN (R2), not its own transmission and not a discard span (R6).
DEDUCED (log entry 4). -/
def State.hears (s : State) : Bool := decide (s.link.monitor ≠ .unknown) && s.sendingFrame.isNone && !s.link.discarding

/-- The end of a frame: its characters took the monitor out of QUIET, the idle run has reached 3 character times, the receiver is empty
and a discard span is over (R3, R6). -/
def State.endOfFrame (s : State) : State :=
  { s with
    link :=
      { s.link with
        monitor := if s.link.monitor = .quiet then .active else s.link.monitor, idleRun := 3, nonIdleRun := 0, rxFrame := [],
        rxFaulty := false, discarding := false } }

/-- A frame that the receiver does not hand to the checks (R2, R6): its characters are lost and its end is an end of frame. No frame of
another station is heard while the node sends (log entry 3). DEDUCED (log entry 4). -/
def State.missed (s : State) : State := if s.sendingFrame.isSome then s else s.endOfFrame

/-- A good frame sets the framing-error count to 0 (R4, R16). -/
def State.goodFrame (s : State) : State := { s.endOfFrame with link := { s.endOfFrame.link with framingErrors := 0 } }

/-- The masks whose members may send a kind (R18); none for a kind without a mask. -/
def NodeConfig.masks (c : NodeConfig) : FrameKind → Option (List (BitVec 32))
  | .callPost | .callAmend | .callCancel | .callMove => some [c.timetable]
  | .trainEvent => some [c.describer]
  | .announce | .announceStop | .liveOpen | .liveKeep | .liveClose | .faultAck | .statusQuery | .testStep => some [c.desk]
  | .evacStart => some [c.evac, c.peer]
  | .evacStop => some [c.evac]
  | .time => some [c.timesrc]
  | .claim | .release | .callHandover | .callAdopt | .callRefuse => some [c.peer]
  | .faultReport | .nodeStatus | .announceResult => none

/-- Check 5 (R17, R18). Bit 0 of every mask is disregarded. -/
def NodeConfig.admits (c : NodeConfig) (k : FrameKind) (src : Nat) : Bool :=
  match c.masks k with
  | none => true
  | some l => decide (src ≠ 0) && l.any fun m => m.getLsbD src

/-- Checks 2 and 3 of R16 in JOINING and RUN: the state of a frame that goes on to R17, or that of one that does not. -/
inductive Addressed where
  | goesOn
  | stops (s : State)

/-- Checks 2 and 3 (R16). -/
def State.addressed (s : State) (dst src : Byte) : Addressed :=
  if !s.onLink then .stops s
  else if dst.toNat ≠ 0 ∧ dst.toNat ≠ s.cfg.nodeId then .stops s
  else if src.toNat = s.cfg.nodeId then .stops (s.raise .nodeIdClash (some s.cfg.nodeId))
  else .goesOn

/-- A good frame of a kind: checks 2 to 6, then its owner's action on what was read (R16, R17). -/
def State.receive {α : Type} (s : State) (k : FrameKind) (dst src : Byte) (read : Option α) (act : State → α → State) : State :=
  if s.hears then
    match s.goodFrame.addressed dst src with
    | .stops t => t
    | .goesOn =>
      let t := s.goodFrame
      if t.cfg.admits k src.toNat then
        match read with
        | none => t.count .rxBad
        | some x => act (t.count .rxGood) x
      else t.count .rxUnauthorised
  else s.missed

/-- A completed frame fails check 1 (R16, R19). -/
def State.failCheck (s : State) : State := if s.onLink then (s.endOfFrame.count .rxBad).spend else s.endOfFrame

/-- BAD_FRAME: bytes that fail check 1 (R16). Bytes that pass it are no bad frame (log entry 4). -/
def State.badFrame (s : State) (raw : List Byte) : State :=
  if check1 raw then s else if s.hears then s.failCheck else s.missed

/-- A good frame whose kind code the table does not name (R17, check 4). -/
def State.unknownKind (s : State) (dst src kind : Byte) : State :=
  if (kindOfCode kind.toNat).isSome then s
  else if s.hears then
    match s.goodFrame.addressed dst src with
    | .stops t => t
    | .goesOn => s.goodFrame.count .rxUnknown
  else s.missed

/-- The payload of a kind that is not tested (R185). -/
def untested (_ : List Byte) : Option Unit := some ()

/-- BAD_FRAME. -/
def execBadFrame (raw : List Byte) (s : State) : Host.Outcome State Fault Refusal := s.run fun s => s.badFrame raw

/-- UNKNOWN_KIND. -/
def execUnknownKind (dst src kind : Byte) (_payload : List Byte) (s : State) : Host.Outcome State Fault Refusal :=
  s.run fun s => s.unknownKind dst src kind

/-- FAULT_REPORT from another station (R17): counted and discarded. -/
def execFaultReport (dst src : Byte) (payload : List Byte) (s : State) : Host.Outcome State Fault Refusal :=
  s.run fun s => s.receive .faultReport dst src (untested payload) fun s _ => s

/-- NODE_STATUS from another station (R17): counted and discarded. -/
def execNodeStatus (dst src : Byte) (payload : List Byte) (s : State) : Host.Outcome State Fault Refusal :=
  s.run fun s => s.receive .nodeStatus dst src (untested payload) fun s _ => s

/-- ANNOUNCE_RESULT from another station (R17): counted and discarded. -/
def execAnnounceResult (dst src : Byte) (payload : List Byte) (s : State) : Host.Outcome State Fault Refusal :=
  s.run fun s => s.receive .announceResult dst src (untested payload) fun s _ => s

end Sys2Proof.Machine
end

