-- ==== Sys2Proof/Machine/Status.lean ====
section
/-! DEFINITION. NODE_STATUS (R152, R179, R187) and the meanings of FAULT_ACK, TEST_STEP and STATUS_QUERY (R175 to R179). -/

namespace Sys2Proof.Machine

/-- The number of a time state (R187). -/
def TimeState.code : TimeState → Nat
  | .unset => 0
  | .set => 1
  | .doubtful => 2

/-- The number of a line status (R187). -/
def LineStatus.code : LineStatus → Nat
  | .untested => 0 | .good => 1 | .suspectShort => 2 | .suspectOpen => 3 | .short => 4 | .openLine => 5

/-- The number of a sensor fault (R187). -/
def SensorFault.code : SensorFault → Nat
  | .none => 0
  | .high => 1
  | .silent => 2

/-- The number of a zone's state, with its holder's level flags (R187). -/
def State.zoneCode (s : State) (z : ZoneId) : Nat :=
  match (s.zone z).state with
  | .idle => 0
  | .test => 1
  | .off => 2
  | .held c =>
    match s.chan c with
    | none => 3
    | some i => 3 + (if i.defaultLevel then 1 else 0) + (if i.levelLimited then 2 else 0)

/-- The three bytes of a zone in NODE_STATUS (R187). -/
def State.zoneBytes (s : State) (z : ZoneId) : List Byte :=
  let x := s.zone z
  if x.present then
    [byte (s.zoneCode z * 32 + x.lineStatus.code * 4 + bit x.ampFault 1 + bit x.gain.isNone 0), byte (x.gain.getD 0),
     byte (bit (s.stale z) 7 + ((s.level z).ambient - 120) / 4)]
  else [byte (2 * 32 + 7 * 4), 0#8, 0#8]

/-- The sensor faults of four zones in one byte, the first in its highest bits (R187). A zone that is not present shows 0. -/
def State.sensorByte (s : State) (a b c d : ZoneId) : Byte :=
  let f (z : ZoneId) : Nat := if (s.zone z).present then (s.level z).sensorFault.code else 0
  byte (f a * 64 + f b * 16 + f c * 4 + f d)

/-- The NODE_STATUS payload (R179, R187). -/
def State.statusPayload (s : State) (joining : Bool) : List Byte :=
  [byte (bit (decide (s.startup.phase = .run)) 7 + bit joining 6 + s.clock.timeState.code * 16 + bit s.evac.active 3 + bit s.evac.input 2
      + bit s.evac.link 1 + bit s.battery 0),
   byte (s.faults.testStep * 32 + s.faults.occupied)]
    ++ allZones.flatMap s.zoneBytes ++ [s.sensorByte 0 1 2 3, s.sensorByte 4 5 6 7]
    ++ s.counters.toList.flatMap word16

/-- NODE_STATUS is built and offered (R179); in START and LIMITED it is not. -/
def State.sendStatus (s : State) (dest : Nat) (joining : Bool) : State :=
  if s.onLink then s.offer (plainFrame dest .nodeStatus (s.statusPayload joining) 3) else s

/-- An acknowledgement reaches the table (R175, R176). -/
def State.acknowledge (s : State) (a : AckFields) : State := ({ s with faults := s.faults.ack a.slot a.generation } : State).pump

/-- The next test step (R177). -/
def nextTestStep (n : Nat) : Nat := if n < 7 then n + 1 else 0

/-- The simulated record is freed and the step advanced (R177, step 1). -/
def State.advanceStep (s : State) : State :=
  { s with faults := { s.faults.freeSimulated with testStep := nextTestStep s.faults.testStep } }

/-- TEST_STEP (R177). DESIGN CHOICE (log entry 52). -/
def State.stepTest (s : State) : State :=
  match stepFault s.advanceStep.faults.testStep with
  | some k => s.advanceStep.raiseAs k none true
  | none => s.advanceStep.pump

/-- The counters are zeroed (R178). -/
def State.zeroCounters (s : State) : State := { s with counters := Vector.replicate 16 0 }

/-- Every occupied slot is marked for a report (R176). -/
def State.dump (s : State) : State := ({ s with faults := s.faults.markAll } : State).pump

/-- STATUS_QUERY (R176, R178, R179). -/
def State.query (s : State) (src flags : Nat) : State :=
  let s := s.sendStatus src false
  let s := if flags.testBit 1 then s.zeroCounters else s
  if flags.testBit 0 then s.dump else s

/-- FAULT_ACK. -/
def execFaultAck (dst src : Byte) (payload : List Byte) (s : State) : Host.Outcome State Fault Refusal :=
  s.run fun s => s.receive .faultAck dst src (readAck payload) State.acknowledge

/-- TEST_STEP. -/
def execTestStep (dst src : Byte) (payload : List Byte) (s : State) : Host.Outcome State Fault Refusal :=
  s.run fun s => s.receive .testStep dst src (readEmpty payload) fun s _ => s.stepTest

/-- STATUS_QUERY. -/
def execStatusQuery (dst src : Byte) (payload : List Byte) (s : State) : Host.Outcome State Fault Refusal :=
  s.run fun s => s.receive .statusQuery dst src (readQuery payload) fun s flags => s.query src.toNat flags

end Sys2Proof.Machine
end

