-- ==== Sys2Proof/Machine/Evacuation.lean ====
section
/-! DEFINITION. The Evacuation Controller (R153 to R160) and the meanings of its commands. -/

namespace Sys2Proof.Machine

/-! ### EVAC_START frames of the node (R158) -/

/-- A contact is an asserted EVAC_TRIGGER (R161, R162). -/
def State.asserted (s : State) (c : ContactId) : Bool :=
  decide ((s.cfg.contacts[c]).role = .evacTrigger) && decide ((s.sup.contacts[c]).level = .active)

/-- An EVAC_TRIGGER contact of the node is asserted. -/
def State.triggered (s : State) : Bool := allContacts.any s.asserted

/-- An EVAC_START is offered and the repeat deadline set 5 s on (R158). In LIMITED neither happens. -/
def State.sendEvacStart (s : State) : State :=
  if s.onLink then
    ({ s with evac := { s.evac with repeatAt := some (s.now + 5000) } } : State).offer (plainFrame 0 .evacStart [] 0)
  else s

/-! ### Entering evacuation (R154, R155) -/

/-- The instance of channel 0 is displaced: TAIL, cut to nothing, and reported at once (R155). -/
def State.displace (s : State) : State :=
  match s.chan 0 with
  | none => s
  | some _ =>
    let s := s.enterTail 0 .preempted
    match s.chan 0 with
    | none => s
    | some i => (s.setChan 0 none).reportEnd 0 i

/-- Every channel is taken from its instance (R154, step 1). DEDUCED (log entry 31). -/
def State.takeChannels (s : State) : State :=
  (((s.displace).enterTail 1 .preempted).enterTail 2 .preempted).enterTail 3 .preempted

/-- The zones that evacuation takes: every present zone that is not OFF (R154); in LIMITED all eight (R160). -/
def State.evacZones (s : State) : ZoneSet :=
  if s.startup.phase = .limited then allZones
  else allZones.filter fun z => (s.zone z).present && decide ((s.zone z).state ≠ .off)

/-- The evacuation instance on channel 0 enters LEAD_IN (R155, R113). DEDUCED (log entry 31). -/
def State.startInstance (s : State) : State :=
  let tag := s.nextTag
  let s := s.tookTag
  let i := { ChanInst.new 0 none tag (s.chimeFor 0) [] with evac := some { chosen := .tone, toneEnd := none, pauseEnd := none } }
  let s := (s.hold 0 s.evacZones).setChan 0 (some i)
  (((s.enterLeadIn 0).choosePlaying 0).makeClaim 0 tag 0 none).arbitrate

/-- The controller enters ACTIVE (R154); its source has been set. -/
def State.evacuate (s : State) (input link : Bool) : State :=
  let s := { s with evac := { s.evac with active := true, input := input, link := link } }
  let s := (s.takeChannels.abortRound.startInstance.sendStatus 0 false)
  (if s.triggered then s.sendEvacStart else s).settleGates

/-- The masks that admitted an EVAC_START, as the Link Controller passes them on (R18). -/
structure EvacSource where
  inEvac : Bool
  inPeer : Bool
deriving DecidableEq, Repr

/-- Whether a source is in EVAC, in PEER, or in both (R18). -/
def NodeConfig.evacSource (c : NodeConfig) (src : Nat) : EvacSource :=
  { inEvac := decide (src ≠ 0) && c.evac.getLsbD src, inPeer := decide (src ≠ 0) && c.peer.getLsbD src }

/-- An EVAC_START is taken, from a source in EVAC, in PEER, or in both (R154). -/
def State.evacFromLink (s : State) (m : EvacSource) : State :=
  if m.inEvac || m.inPeer then
    if s.evac.active then { s with evac := { s.evac with link := true } } else s.evacuate false true
  else s

/-- An EVAC_TRIGGER contact is asserted (R154, R158); `others` says whether another was asserted already. -/
def State.evacFromInput (s : State) (others : Bool) : State :=
  if s.evac.active then
    let s := { s with evac := { s.evac with input := true } }
    if others then s else s.sendEvacStart
  else s.evacuate true false

/-- An EVAC_TRIGGER contact is de-asserted: with the last one the repeat deadline goes (R158). -/
def State.evacRelease (s : State) : State :=
  if s.triggered then s else { s with evac := { s.evac with repeatAt := none } }

/-! ### Ending evacuation (R159) -/

/-- The evacuation ends (R159). -/
def State.endEvac (s : State) : State :=
  let s := s.enterTail 0 .done
  let s := { s with evac := { s.evac with active := false, input := false, link := false } }
  (s.sendStatus 0 false).walk

/-- EVAC_STOP (R159). -/
def State.evacStop (s : State) : State :=
  if s.evac.active then
    if s.triggered then s.sendEvacStart else s.endEvac
  else s

/-- The repeat deadline expires (R158). -/
def State.repeatEvac (s : State) (d : Nat) : State :=
  let s := s.advanceTo d
  if s.triggered then s.sendEvacStart else { s with evac := { s.evac with repeatAt := none } }

/-! ### The message cycle (R156, R157) -/

/-- The evacuation instance while it speaks, with its cycle. -/
def State.speakingEvac (s : State) : Option EvacCycle :=
  (s.chan 0).bind fun i => if i.state = .speaking then i.evac else none

/-- A tone playing ends (R157). -/
def State.toneOver (s : State) : State :=
  match s.speakingEvac.bind EvacCycle.toneEnd with
  | none => s
  | some d => ((s.advanceTo d).startPause 0).arbitrate

/-- The pause ends and the next playing begins (R156). -/
def State.pauseOver (s : State) : State :=
  match s.speakingEvac.bind EvacCycle.pauseEnd with
  | none => s
  | some d => ((s.advanceTo d).startPlaying 0).arbitrate

/-- EVAC_START. -/
def execEvacStart (dst src : Byte) (payload : List Byte) (s : State) : Host.Outcome State Fault Refusal :=
  s.run fun s => s.receive .evacStart dst src (readEmpty payload) fun s _ => s.evacFromLink (s.cfg.evacSource src.toNat)

/-- EVAC_STOP. -/
def execEvacStop (dst src : Byte) (payload : List Byte) (s : State) : Host.Outcome State Fault Refusal :=
  s.run fun s => s.receive .evacStop dst src (readEmpty payload) fun s _ => s.evacStop

/-- EVAC_REPEAT_EXPIRY. -/
def execEvacRepeatExpiry (s : State) : Host.Outcome State Fault Refusal :=
  s.run fun s =>
    match s.evac.repeatAt with
    | none => s
    | some d => s.repeatEvac d

/-- TONE_PLAYING_END. -/
def execTonePlayingEnd (s : State) : Host.Outcome State Fault Refusal := s.run State.toneOver

/-- EVAC_PAUSE_END. -/
def execEvacPauseEnd (s : State) : Host.Outcome State Fault Refusal := s.run State.pauseOver

end Sys2Proof.Machine
end

