-- ==== Sys2Proof/Machine/Contacts.lean ====
section
/-! DEFINITION. The contact inputs: debouncing, roles, amplifier faults (R161 to R163) and the meanings of CONTACT_SAMPLE and
ACCEPTED_LEVEL_CHANGE. -/

namespace Sys2Proof.Machine

/-- The accepted level of a sample. -/
def acceptedOf (active : Bool) : Accepted := if active then .active else .inactive

/-- What a sample makes of a debouncer (R161): the debouncer, and whether the accepted level is to change to the sample. -/
def Debouncer.sample (d : Debouncer) (active : Bool) : Debouncer × Bool :=
  let d' := { d with previous := some active }
  if d.level = .unknown then (d', decide (d.previous = some active))
  else if d.level = acceptedOf active then ({ d' with candidate := 0 }, false)
  else if d.candidate = 0 then ({ d' with candidate := 1 }, false)
  else ({ d' with candidate := 0 }, true)

/-- Change a contact's debouncer. -/
def State.setContact (s : State) (c : ContactId) (d : Debouncer) : State :=
  { s with sup := { s.sup with contacts := s.sup.contacts.set c d } }

/-- A condition is brought into line (R162). -/
def State.bringIntoLine (s : State) (k : FaultKind) (subject : Nat) (present : Bool) : State :=
  if present then (if s.faults.hasActive k (some subject) then s else s.raise k (some subject)) else s.clear k (some subject)

/-- An amplifier is at fault (R163). -/
def State.ampAtFault (s : State) (a : Fin 4) : Bool :=
  allContacts.any fun c =>
    decide ((s.cfg.contacts[c]).role = .ampFault a) && decide ((s.sup.contacts[c]).level = .active)

/-- A zone lies in the mask of an amplifier at fault (R163). -/
def State.zoneAtFault (s : State) (z : ZoneId) : Bool :=
  [(0 : Fin 4), 1, 2, 3].any fun a => s.ampAtFault a && (s.cfg.amplifiers[a]).contains z

/-- Every zone's AMP_FAULT flag is set anew (R163). -/
def State.setAmpFlags (s : State) : State :=
  { s with zones := eight fun z => { s.zones[z] with ampFault := s.zoneAtFault z } }

/-- An amplifier is evaluated again (R163); a walk follows if a flag changed. -/
def State.evaluateAmp (s : State) (a : Fin 4) : State :=
  let t := (s.bringIntoLine .ampFault a.val (s.ampAtFault a)).setAmpFlags
  if allZones.any fun z => (t.zone z).ampFault != (s.zone z).ampFault then t.walk else t

/-- The Supervision Unit acts on a change of a contact's accepted level by its role (R162). `old` is the level before. -/
def State.actOnContact (s : State) (c : ContactId) (old : Accepted) (active : Bool) (batteryBefore others : Bool) : State :=
  match (s.cfg.contacts[c]).role with
  | .unused => s
  | .evacTrigger => if active then s.evacFromInput others else if old = .active then s.evacRelease else s
  | .mainsBattery =>
    let t := s.bringIntoLine .mainsBattery c.val active
    if s.battery = batteryBefore then t else t.walk
  | .spareAlarm => s.bringIntoLine .spareAlarm c.val active
  | .ampFault a => s.evaluateAmp a

/-- A contact's accepted level changes (R161, R162). DEDUCED (log entry 28). -/
def State.acceptLevel (s : State) (c : ContactId) (active : Bool) : State :=
  let d := s.sup.contacts[c]
  (s.setContact c { d with level := acceptedOf active, candidate := 0 }).actOnContact c d.level active s.battery s.triggered

/-- A contact is sampled (R161). -/
def State.sampleContact (s : State) (pins : BitVec 8) (c : ContactId) : State :=
  let active := pins.getLsbD c.val == (s.cfg.contacts[c]).activeHigh
  let x := (s.sup.contacts[c]).sample active
  let s := s.setContact c x.1
  if x.2 then s.acceptLevel c active else s

/-- The contacts are sampled, every p ms from the end of START (R161). DEDUCED (log entry 28). -/
def State.sampleContacts (s : State) (pins : BitVec 8) : State :=
  if s.startup.phase = .start then s
  else
    allContacts.foldl (fun s c => s.sampleContact pins c)
      { s with sup := { s.sup with pins := some pins, sampleAt := some (s.now + s.cfg.samplePeriod) } }

/-- CONTACT_SAMPLE. -/
def execContactSample (pins : BitVec 8) (s : State) : Host.Outcome State Fault Refusal := s.run fun s => s.sampleContacts pins

/-- ACCEPTED_LEVEL_CHANGE. -/
def execAcceptedLevelChange (contact : ContactId) (active : Bool) (s : State) : Host.Outcome State Fault Refusal :=
  s.run fun s =>
    if s.startup.phase = .start ∨ (s.sup.contacts[contact]).level = acceptedOf active then s else s.acceptLevel contact active

end Sys2Proof.Machine
end

