-- ==== Sys2Proof/Machine/Startup.lean ====
section
/-! DEFINITION. The Start-up Controller: resets, START, JOINING and RUN (R124, R180 to R183), and the meanings of its commands. -/

namespace Sys2Proof.Machine

/-! ### Resets (R180, R183) -/

/-- The state after a warm reset: as after a cold start, but real fault records and the counters are kept (R183). -/
def State.warm (s : State) : State :=
  { State.reset with pending := s.pending, faults := s.faults.warm, counters := s.counters }

/-- The reset line asserted: the warm-reset state, with the line held (R180, R183). DEDUCED (log entry 5). -/
def State.assertReset (s : State) : State := { s.warm with startup := { s.warm.startup with resetHeld := true } }

/-! ### START (R180 to R182) -/

/-- A block of START acts only in its step (R180). -/
def State.inStep (s : State) (x : StartStep) : Bool := decide (s.startup.phase = .start) && decide (s.startup.step = x)

/-- The debouncers begin to sample (R161), the first time a sample period on. DESIGN CHOICE (log entry 62). -/
def State.beginSampling (s : State) : State :=
  { s with sup := { s.sup with sampleAt := some (s.now + s.cfg.samplePeriod) } }

/-- A structural failure: LIMITED (R180, R181). -/
def State.enterLimited (s : State) : State :=
  ({ s with startup := { s.startup with phase := .limited, step := .ended } } : State).beginSampling

/-- Each zone's ambient average takes its default, updated now (R141). DEDUCED (log entry 11). -/
def State.loadAmbients (s : State) : State :=
  { s with
    levels := eight fun z => { s.levels[z] with ambient := (s.cfg.zones[z]).defaultAmbient, lastUpdate := s.now } }

/-- The configuration is applied (R114, R138, R141, R181). -/
def State.applyConfig (s : State) (c : NodeConfig) : State :=
  ({ s with
      startup := { s.startup with config := some c, step := .readHeader },
      claims := { s.claims with occupancy := c.remoteZones.map fun g => { zone := g, occupant := none } },
      zones := eight fun z =>
        { s.zones[z] with present := (c.zones[z]).present, state := if (c.zones[z]).present then .idle else .off } } : State).loadAmbients

/-- The configuration image has been read (R181). -/
def State.configRead (s : State) (image : List Byte) : State :=
  if s.inStep .readConfig then
    match readImage image with
    | none => s.enterLimited
    | some (c, clamped) => if clamped then (s.applyConfig c).raise .configClamped none else s.applyConfig c
  else s

/-- The memory port passes to the arbiter, and START waits for the line (R180, steps 4 and 5). -/
def State.handOver (s : State) : State :=
  { s with startup := { s.startup with step := .waitLine }, port := { s.port with handedOver := true } }

/-- The phrase image header has been read (R182). DESIGN CHOICE (log entry 12). -/
def State.headerRead (s : State) (header store : List Byte) : State :=
  if s.inStep .readHeader then
    if headerValid header store then
      ({ s with startup := { s.startup with step := .readTemplates } } : State).clear .phraseStoreInvalid none
    else (s.raise .phraseStoreInvalid none).handOver
  else s

/-- The template store has been read (R75, R182). -/
def State.templatesRead (s : State) (store : List Byte) : State :=
  if s.inStep .readTemplates then ({ s with store := { valid := true, templates := readTemplates store } } : State).handOver else s

/-! ### JOINING and RUN (R124, R180) -/

/-- Stale sensor and line conditions of a zone are cleared (R141, R166). DESIGN CHOICE (log entry 51). -/
def State.clearStale (s : State) (z : ZoneId) : State :=
  ((((s.clear .sensorHigh (some z.val)).clear .sensorSilent (some z.val)).clear .lineShort (some z.val)).clear .lineOpen
    (some z.val)).clear .lineUntested (some z.val)

/-- Entry to JOINING: the budget is loaded, the join timer started and sampling begun (R19, R124, R161). -/
def State.startJoining (s : State) : State :=
  ({ s with
      startup := { s.startup with phase := .joining, step := .ended },
      link := { s.link with budget := some s.cfg.errorBudget },
      claims := { s.claims with joinTimer := some (s.now + 10000) } } : State).loadAmbients.beginSampling

/-- START ends once the line monitor has left UNKNOWN (R180). -/
def State.enterJoining (s : State) : State :=
  if s.inStep .waitLine = true ∧ s.link.monitor ≠ .unknown then (allZones.foldl State.clearStale s.startJoining).pump.walk else s

/-- Entry to RUN: the round deadline expires at once (R124, R164). -/
def State.startRun (s : State) : State :=
  ({ s with startup := { s.startup with phase := .run }, claims := { s.claims with joinTimer := none } } : State).setScan fun x =>
    { x with roundAt := some s.now }

/-- The join timer expires (R124, R179). DEDUCED (log entry 13). -/
def State.joined (s : State) : State :=
  match s.claims.joinTimer with
  | none => s
  | some d => if s.startup.phase = .joining then (((s.advanceTo d).startRun).sendStatus 0 true).walk else s

/-- COLD_START: every block takes its cold-start state (R180, R183). -/
def execColdStart (s : State) : Host.Outcome State Fault Refusal := .next { State.reset with pending := s.pending }

/-- RESET_ASSERT (R180, R183). -/
def execResetAssert (s : State) : Host.Outcome State Fault Refusal := .next s.assertReset

/-- RESET_RELEASE (R180, R183). -/
def execResetRelease (s : State) : Host.Outcome State Fault Refusal := .next s.warm

/-- CONFIG_IMAGE_READ. -/
def execConfigImageRead (image : List Byte) (s : State) : Host.Outcome State Fault Refusal := s.run fun s => s.configRead image

/-- PHRASE_HEADER_READ. -/
def execPhraseHeaderRead (header store : List Byte) (s : State) : Host.Outcome State Fault Refusal :=
  s.run fun s => s.headerRead header store

/-- TEMPLATE_STORE_READ. -/
def execTemplateStoreRead (store : List Byte) (s : State) : Host.Outcome State Fault Refusal := s.run fun s => s.templatesRead store

/-- ENTER_JOINING. -/
def execEnterJoining (s : State) : Host.Outcome State Fault Refusal := s.run State.enterJoining

/-- JOIN_TIMER_EXPIRY. -/
def execJoinTimerExpiry (s : State) : Host.Outcome State Fault Refusal := s.run State.joined

end Sys2Proof.Machine
end

