-- ==== Sys2Proof/Machine/TimeBase.lean ====
section
/-! DEFINITION. The Time Base (R21 to R28) and the meanings of TIME, SECOND_ADVANCE and DOUBT_TIMER_EXPIRY. -/

namespace Sys2Proof.Machine

/-- A TIME frame starts a new service day: the time was known and the day numbers disagree (R27). -/
def State.newDay (s : State) (t : TimeFields) : Bool :=
  decide (s.clock.timeState ≠ .unset) && decide (t.day ≠ s.clock.serviceDay)

/-- The clock as a TIME frame sets it (R25 to R27). -/
def State.setClock (s : State) (t : TimeFields) : State :=
  { s with
    clock :=
      { s.clock with
        timeState := .set, clockSecond := t.second, serviceDay := t.day, secondStart := s.now, doubtTimer := some (s.now + 1800000) } }

/-- TIME (R25 to R27). -/
def State.time (s : State) (t : TimeFields) : State :=
  let u := (s.setClock t).clear .timeDoubtful none
  (if s.newDay t then u.purge else u).secondEvent

/-- The clock advanced by a second (R24, steps 1 and 2); the day number is moved at service second 0. -/
def State.tickClock (s : State) : State :=
  let c := (s.clock.clockSecond + 1) % 86400
  { s with
    clock :=
      { s.clock with
        clockSecond := c, secondStart := s.clock.secondStart + 1000,
        serviceDay := if serviceSecond s.cfg.h0 c = 0 then (s.clock.serviceDay + 1) % 65536 else s.clock.serviceDay } }

/-- The clock advances by a second (R24). -/
def State.secondAdvance (s : State) : State :=
  if s.clock.timeState = .unset then s
  else
    let t := (s.advanceTo (s.clock.secondStart + 1000)).tickClock
    (if serviceSecond t.cfg.h0 t.clock.clockSecond = 0 then t.purge else t).secondEvent

/-- The doubt timer expires (R28). -/
def State.doubt (s : State) : State :=
  match s.clock.doubtTimer with
  | none => s
  | some d =>
    if s.clock.timeState = .set then
      let t := s.advanceTo d
      ({ t with clock := { t.clock with timeState := .doubtful, doubtTimer := none } } : State).raise .timeDoubtful none
    else s

/-- TIME. -/
def execTime (dst src : Byte) (payload : List Byte) (s : State) : Host.Outcome State Fault Refusal :=
  s.run fun s => s.receive .time dst src (readTime payload) State.time

/-- SECOND_ADVANCE. -/
def execSecondAdvance (s : State) : Host.Outcome State Fault Refusal := s.run State.secondAdvance

/-- DOUBT_TIMER_EXPIRY. -/
def execDoubtTimerExpiry (s : State) : Host.Outcome State Fault Refusal := s.run State.doubt

end Sys2Proof.Machine
end

