-- ==== Sys2Proof/Machine/CallCommands.lean ====
section
/-! DEFINITION. The meanings of the call frames and of the call timers (R37 to R55). -/

namespace Sys2Proof.Machine

/-- A linger deadline expires (R45). -/
def State.lingerOver (s : State) (id : Nat) : State :=
  match (s.call id).bind CallRecord.linger with
  | none => s
  | some d => (s.advanceTo d).freeCall id

/-- A move timer expires (R50). -/
def State.moveOver (s : State) (id : Nat) : State :=
  match s.call id with
  | none => s
  | some r =>
    match r.moving with
    | none => s
    | some m => if r.state = .moving then (s.advanceTo m.deadline).failMove r else s

/-- CALL_POST. -/
def execCallPost (dst src : Byte) (payload : List Byte) (s : State) : Host.Outcome State Fault Refusal :=
  s.run fun s => s.receive .callPost dst src (readPost payload) State.callPost

/-- CALL_AMEND. -/
def execCallAmend (dst src : Byte) (payload : List Byte) (s : State) : Host.Outcome State Fault Refusal :=
  s.run fun s => s.receive .callAmend dst src (readAmend payload) State.callAmend

/-- CALL_CANCEL. -/
def execCallCancel (dst src : Byte) (payload : List Byte) (s : State) : Host.Outcome State Fault Refusal :=
  s.run fun s => s.receive .callCancel dst src (readCancel payload) State.callCancel

/-- CALL_MOVE. -/
def execCallMove (dst src : Byte) (payload : List Byte) (s : State) : Host.Outcome State Fault Refusal :=
  s.run fun s => s.receive .callMove dst src (readCallPlatform payload) State.callMove

/-- TRAIN_EVENT. -/
def execTrainEvent (dst src : Byte) (payload : List Byte) (s : State) : Host.Outcome State Fault Refusal :=
  s.run fun s => s.receive .trainEvent dst src (readEvent payload) State.trainEvent

/-- CALL_HANDOVER. -/
def execCallHandover (dst src : Byte) (payload : List Byte) (s : State) : Host.Outcome State Fault Refusal :=
  s.run fun s => s.receive .callHandover dst src (readHandover payload) State.callHandover

/-- CALL_ADOPT. -/
def execCallAdopt (dst src : Byte) (payload : List Byte) (s : State) : Host.Outcome State Fault Refusal :=
  s.run fun s => s.receive .callAdopt dst src (readCallPlatform payload) State.callAdopt

/-- CALL_REFUSE. -/
def execCallRefuse (dst src : Byte) (payload : List Byte) (s : State) : Host.Outcome State Fault Refusal :=
  s.run fun s => s.receive .callRefuse dst src (readRefuse payload) State.callRefuse

/-- LINGER_EXPIRY. -/
def execLingerExpiry (call : BitVec 16) (s : State) : Host.Outcome State Fault Refusal := s.run fun s => s.lingerOver call.toNat

/-- MOVE_TIMER_EXPIRY. -/
def execMoveTimerExpiry (call : BitVec 16) (s : State) : Host.Outcome State Fault Refusal := s.run fun s => s.moveOver call.toNat

end Sys2Proof.Machine
end

