-- ==== Sys2Proof/Machine/QueueCommands.lean ====
section
/-! DEFINITION. The meanings of the desk frames and of the queue's instants (R93 to R96, R102, R136, R137). -/

namespace Sys2Proof.Machine

/-- The target zone mask of a list of global zones: the local zones named that are present (R93). -/
def NodeConfig.deskMask (c : NodeConfig) (zones : List Nat) : ZoneSet :=
  allZones.filter fun z => (c.zones[z]).present && zones.any fun g => decide (c.localZone g = some z)

/-- The entry that an ANNOUNCE offers (R93). -/
def AnnounceFields.entry (a : AnnounceFields) (desk : Nat) (mask : ZoneSet) (now : Nat) : Entry :=
  { tag := 0, seq := 0, key := .desk desk a.tag, cls := a.cls, mask := mask, template := some a.template, params := a.params,
    notBefore := now, expiry := if a.validity = 0 then none else some (now + a.validity * 60000), repetition := a.repetition,
    attempts := 0, boundCall := none }

/-- ANNOUNCE (R93). -/
def State.announce (s : State) (desk : Nat) (a : AnnounceFields) : State :=
  let mask := s.cfg.deskMask a.zones
  if mask.isEmpty then s else s.offerEntry (a.entry desk mask s.now)

/-- ANNOUNCE_STOP (R95): the renewal is discarded and the key is stopped. -/
def State.announceStop (s : State) (desk tag : Nat) : State :=
  let k := Key.desk desk tag
  let t : State :=
    match s.chanOfKey k with
    | none => s
    | some c => s.setCont c ((s.cont c).map fun x => { x with renewal := none })
  t.stopKey k .stopped

/-- The entry that a LIVE_OPEN offers (R94). -/
def liveEntry (desk : Nat) (mask : ZoneSet) (now : Nat) : Entry :=
  { tag := 0, seq := 0, key := .live desk, cls := 2, mask := mask, template := none, params := [], notBefore := now,
    expiry := some (now + 10000), repetition := .once, attempts := 0, boundCall := none }

/-- LIVE_OPEN (R94). -/
def State.liveOpen (s : State) (desk : Nat) (zones : List Nat) : State :=
  let mask := s.cfg.deskMask zones
  if mask.isEmpty then s else s.offerEntry (liveEntry desk mask s.now)

/-- LIVE_KEEP (R136). -/
def State.liveKeep (s : State) (desk : Nat) : State :=
  match s.chanOfKey (.live desk) with
  | none => s
  | some c => s.updChan c fun i => if i.state = .live then { i with keepAt := some (s.now + 5000) } else i

/-- LIVE_CLOSE (R94, R137). -/
def State.liveClose (s : State) (desk : Nat) : State :=
  match s.chanOfKey (.live desk) with
  | some c => s.enterTail c .done
  | none => if (s.entryOf (.live desk)).isSome then s.removeEntry (.live desk) .stopped else s

/-- The waiting entry with a tag. -/
def State.entryTagged (s : State) (tag : Nat) : Option Entry := s.queue.entries.find? fun e => e.tag = tag

/-- An entry's not-before is reached (R96). -/
def State.notBeforeReached (s : State) (tag : Nat) : State :=
  match s.entryTagged tag with
  | none => s
  | some e => (s.advanceTo e.notBefore).walk

/-- The result of an entry that expires (R102). -/
def State.expiryResult (s : State) (k : Key) : Result := if k.isLive && s.liveInUse then .busy else .expired

/-- An entry's expiry is reached (R102). -/
def State.entryExpired (s : State) (tag : Nat) : State :=
  match s.entryTagged tag with
  | none => s
  | some e =>
    match e.expiry with
    | none => s
    | some d => (s.advanceTo d).removeEntry e.key (s.expiryResult e.key)

/-- ANNOUNCE. -/
def execAnnounce (dst src : Byte) (payload : List Byte) (s : State) : Host.Outcome State Fault Refusal :=
  s.run fun s => s.receive .announce dst src (readAnnounce payload) fun s a => s.announce src.toNat a

/-- ANNOUNCE_STOP. -/
def execAnnounceStop (dst src : Byte) (payload : List Byte) (s : State) : Host.Outcome State Fault Refusal :=
  s.run fun s => s.receive .announceStop dst src (readStop payload) fun s tag => s.announceStop src.toNat tag

/-- LIVE_OPEN. -/
def execLiveOpen (dst src : Byte) (payload : List Byte) (s : State) : Host.Outcome State Fault Refusal :=
  s.run fun s => s.receive .liveOpen dst src (readLiveOpen payload) fun s zones => s.liveOpen src.toNat zones

/-- LIVE_KEEP. -/
def execLiveKeep (dst src : Byte) (payload : List Byte) (s : State) : Host.Outcome State Fault Refusal :=
  s.run fun s => s.receive .liveKeep dst src (readEmpty payload) fun s _ => s.liveKeep src.toNat

/-- LIVE_CLOSE. -/
def execLiveClose (dst src : Byte) (payload : List Byte) (s : State) : Host.Outcome State Fault Refusal :=
  s.run fun s => s.receive .liveClose dst src (readEmpty payload) fun s _ => s.liveClose src.toNat

/-- NOT_BEFORE_REACHED. -/
def execNotBeforeReached (tag : Byte) (s : State) : Host.Outcome State Fault Refusal := s.run fun s => s.notBeforeReached tag.toNat

/-- ENTRY_EXPIRY. -/
def execEntryExpiry (tag : Byte) (s : State) : Host.Outcome State Fault Refusal := s.run fun s => s.entryExpired tag.toNat

end Sys2Proof.Machine
end

