-- ==== Sys2Proof/Machine/ClaimCommands.lean ====
section
/-! DEFINITION. The occupancy table and crossing claims (R114 to R123), the deadlines of own claims (R109, R111), and the meanings of
their commands. -/

namespace Sys2Proof.Machine

/-! ### The occupancy table (R114 to R117) -/

/-- The occupant that a CLAIM from a source writes (R114, R115). -/
def ClaimFields.occupant (x : ClaimFields) (src now : Nat) : Occupant :=
  { owner := src, cls := x.cls, tag := x.tag, established := x.established, lastHeard := now, expiry := now + 20000 }

/-- One claim ranks above another (R115). -/
def Occupant.above (a b : Occupant) : Bool :=
  decide (a.cls < b.cls)
    || (decide (a.cls = b.cls)
      && ((a.established && !b.established) || (a.established == b.established && decide (a.owner < b.owner))))

/-- Whether a slot takes a claim (R115). -/
def OccSlot.takes (o : OccSlot) (n : Occupant) : Bool :=
  match o.occupant with
  | none => true
  | some b => decide (b.owner = n.owner) || n.above b

/-- A slot after a CLAIM (R115). Zones of the CLAIM that are not of its source are set aside. -/
def OccSlot.hear (o : OccSlot) (x : ClaimFields) (src now : Nat) : OccSlot :=
  if x.zones.contains o.zone && decide (o.zone / 8 = src) && o.takes (x.occupant src now) then
    { o with occupant := some (x.occupant src now) }
  else o

/-- Change every slot of the occupancy table. -/
def State.mapOccupancy (s : State) (f : OccSlot → OccSlot) : State :=
  { s with claims := { s.claims with occupancy := s.claims.occupancy.map f } }

/-- An occupied slot that a RELEASE matches (R116). -/
def OccSlot.matches (o : OccSlot) (src tag : Nat) : Bool := o.occupant.any fun b => decide (b.owner = src) && decide (b.tag = tag)

/-- RELEASE (R116, R117). -/
def State.hearRelease (s : State) (src tag : Nat) : State :=
  if s.claims.occupancy.any fun o => o.matches src tag then
    (s.mapOccupancy fun o => if o.matches src tag then { o with occupant := none } else o).walk
  else s

/-- A slot's expiry comes (R116, R117). -/
def State.occupancyExpired (s : State) (zone : Nat) : State :=
  match s.occupant zone with
  | none => s
  | some b => ((s.advanceTo b.expiry).mapOccupancy fun o => if o.zone = zone then { o with occupant := none } else o).walk

/-! ### Crossing claims (R118 to R123) -/

/-- What a conflict decides for an own instance (R119, R120). -/
inductive Decision where
  | withdraw | preempted | assert | contested
deriving DecidableEq, Repr

/-- An instance in CLAIMING or LEAD_IN is judged against a claim (R119). -/
def judgeEarly (x : ClaimFields) (src cls nodeId : Nat) : Decision :=
  if x.established then (if outranks cls x.cls then .assert else .withdraw)
  else if x.cls < cls ∨ (x.cls = cls ∧ src < nodeId) then .withdraw
  else .assert

/-- An instance in SPEAKING or LIVE is judged against a claim (R120). -/
def judgeLate (x : ClaimFields) (cls : Nat) : Decision :=
  if outranks x.cls cls then .preempted
  else if outranks cls x.cls then .assert
  else if x.established then .contested
  else .assert

/-- A CLAIM conflicts with the instance of a channel (R118). -/
def State.conflicts (s : State) (x : ClaimFields) (c : ChanId) (r : OwnClaim) : Bool :=
  !(decide (r.cls = 0) && decide (x.cls = 0))
    && (s.heldBy c).any fun z => (s.cfg.zones[z]).neighbours.any fun g => x.zones.contains g

/-- A decision is carried out (R122, R123). A contested instance goes on (R120). -/
def State.carryOut (s : State) (c : ChanId) : Decision → State
  | .withdraw => s.enterTail c .withdrawn
  | .preempted => s.enterTail c .preempted
  | .assert => s.offerClaim c
  | .contested => s

/-- The decision on the instance of one channel against a CLAIM, if the two conflict (R118 to R120). -/
def State.decision (s : State) (x : ClaimFields) (src : Nat) (c : ChanId) : Option Decision :=
  match s.claimOf c, s.chan c with
  | some r, some i =>
    if s.conflicts x c r then
      match i.state with
      | .claiming => some (judgeEarly x src i.cls s.cfg.nodeId)
      | .leadIn => some (judgeEarly x src i.cls s.cfg.nodeId)
      | .speaking => some (judgeLate x i.cls)
      | .live => some (judgeLate x i.cls)
      | .tail => none
    else none
  | _, _ => none

/-- The instance of one channel is judged against a CLAIM (R118). -/
def State.judge (s : State) (x : ClaimFields) (src : Nat) (c : ChanId) : State :=
  match s.decision x src c with
  | some d => s.carryOut c d
  | none => s

/-- Every instance is judged, lowest channel first; a CLAIM that is contested counts once, by however many instances (R118, R120). -/
def State.judgeAll (s : State) (x : ClaimFields) (src : Nat) : State :=
  let t := allChans.foldl (fun s c => s.judge x src c) s
  if allChans.any fun c => decide (s.decision x src c = some .contested) then t.count .contested else t

/-- CLAIM (R115, R118). -/
def State.hearClaim (s : State) (src : Nat) (x : ClaimFields) : State :=
  ((s.mapOccupancy fun o => o.hear x src s.now).judgeAll x src).settleGates

/-! ### Own deadlines (R109, R111) -/

/-- A refresh deadline expires (R109). -/
def State.refreshOver (s : State) (c : ChanId) : State :=
  match s.claimOf c with
  | none => s
  | some r => (s.advanceTo r.refreshAt).offerClaim c

/-- A send deadline expires (R111). -/
def State.sendOver (s : State) (c : ChanId) : State :=
  match s.claimOf c with
  | none => s
  | some r =>
    match r.sendDeadline with
    | none => s
    | some d =>
      let s := s.advanceTo d
      if r.cls ≤ 2 then
        let s := (s.setClaim c (some { r with sendDeadline := none })).enterLeadIn c
        if s.link.queue.any fun g => g.isClaimOf (some r.tag) then s else s.offerClaim c
      else s.enterTail c .withdrawn

/-- CLAIM. -/
def execClaim (dst src : Byte) (payload : List Byte) (s : State) : Host.Outcome State Fault Refusal :=
  s.run fun s => s.receive .claim dst src (readClaim payload) fun s x => s.hearClaim src.toNat x

/-- RELEASE. -/
def execRelease (dst src : Byte) (payload : List Byte) (s : State) : Host.Outcome State Fault Refusal :=
  s.run fun s => s.receive .release dst src (readRelease payload) fun s tag => s.hearRelease src.toNat tag

/-- OCCUPANCY_EXPIRY. -/
def execOccupancyExpiry (zone : Byte) (s : State) : Host.Outcome State Fault Refusal := s.run fun s => s.occupancyExpired zone.toNat

/-- REFRESH_DEADLINE_EXPIRY. -/
def execRefreshDeadlineExpiry (ch : ChanId) (s : State) : Host.Outcome State Fault Refusal := s.run fun s => s.refreshOver ch

/-- CLAIM_SEND_TIMEOUT. -/
def execClaimSendTimeout (ch : ChanId) (s : State) : Host.Outcome State Fault Refusal := s.run fun s => s.sendOver ch

end Sys2Proof.Machine
end

