-- ==== Sys2Proof/Machine/ChannelCommands.lean ====
section
/-! DEFINITION. The meanings of the channels' deadlines, of the ends of blocks and gaps, and of the reads of the memory port
(R127 to R136, R156). -/

namespace Sys2Proof.Machine

/-! ### Lead-in (R127, R128) -/

/-- An instance in LEAD_IN. -/
def State.leadingIn (s : State) (c : ChanId) : Option ChanInst := (s.chan c).bind fun i => if i.state = .leadIn then some i else none

/-- The wake end passes (R127, R128). -/
def State.wakeOver (s : State) (c : ChanId) : State :=
  match (s.leadingIn c).bind ChanInst.wakeEnd with
  | none => s
  | some d => ((s.advanceTo d).passWake c d).arbitrate

/-- The listen window has passed: HOLD counts from it if the chime is over (R128). -/
def ChanInst.listened (i : ChanInst) (now : Nat) : ChanInst :=
  { i with listenEnd := none, holdFrom := if i.stage = .hold then max i.holdFrom now else i.holdFrom }

/-- The listen window ends (R128). -/
def State.listenOver (s : State) (c : ChanId) : State :=
  match s.leadingIn c with
  | none => s
  | some i =>
    match i.listenEnd with
    | none => s
    | some d =>
      let t := s.advanceTo d
      ((t.setChan c (some (i.listened t.now))).judgeHold c).arbitrate

/-- The phrase that lead-in awaits: the chime at position 0, or the first speech phrase (R128). -/
def ChanInst.awaited (i : ChanInst) : Nat := if i.stage = .wake then 0 else (i.playableFrom 1).getD 0

/-- A wait of the evacuation instance that reached its priming deadline: the chime is passed over, or the playing becomes a tone (R156).
DESIGN CHOICE (log entry 20). -/
def State.primeEvac (s : State) (c : ChanId) (i : ChanInst) : State :=
  if i.stage = .wake then ((s.disownChime c).updChan c ChanInst.passChime).enterHold c
  else ((s.disown c).updChan c ChanInst.chooseTone).beginSpeech c

/-- The priming deadline is reached (R128, R156). -/
def State.primingOver (s : State) (c : ChanId) : State :=
  match s.leadingIn c with
  | none => s
  | some i =>
    match i.priming with
    | none => s
    | some d =>
      let t := s.advanceTo d
      let code := (i.code i.awaited).getD 0
      ((if i.evac.isSome then t.primeEvac c i else t.enterTail c .underrun).raise .phraseUnderrun (some code)).arbitrate

/-! ### Play (R129, R132, R135) -/

/-- An instance as the block or gap in play ends: a block leaves the buffer (R133). -/
def ChanInst.playedOut (i : ChanInst) : ChanInst :=
  { i.stopPlay with buffer := if i.inPlay = .block then i.buffer.drop 1 else i.buffer }

/-- A block finishes playing (R129, R133, R135). -/
def State.blockOver (s : State) (c : ChanId) : State :=
  match s.chan c with
  | none => s
  | some i =>
    match i.inPlay, i.blockEnd with
    | .block, some d => (((s.advanceTo d).setChan c (some i.playedOut)).playOn c).arbitrate
    | _, _ => s

/-- A block of silence ends (R129, R135). DEDUCED (log entry 19). -/
def State.gapOver (s : State) (c : ChanId) : State :=
  match s.chan c with
  | none => s
  | some i =>
    match i.inPlay, i.blockEnd with
    | .gap boundary, some d =>
      let t := (s.advanceTo d).setChan c (some i.playedOut)
      (if boundary && decide (i.state = .speaking) then t.boundary c else t.playOn c).arbitrate
    | _, _ => s

/-! ### The live keep timer and the tail (R132, R136) -/

/-- The keep deadline is reached (R136). -/
def State.keepOver (s : State) (c : ChanId) : State :=
  match s.chan c with
  | none => s
  | some i =>
    match i.state, i.keepAt with
    | .live, some d => (s.advanceTo d).enterTail c .aborted
    | _, _ => s

/-- A zone leaves HELD at a tail end: to OFF for a short line, else to IDLE (R132, R139, R168). -/
def State.leaveHeld (s : State) (z : ZoneId) : State :=
  (s.setZone z fun x => { x with state := if x.lineStatus = .short then .off else .idle }).fallSilent z

/-- The tail ends (R132). -/
def State.tailOver (s : State) (c : ChanId) : State :=
  match s.chan c with
  | none => s
  | some i =>
    match i.state, i.tailEnd with
    | .tail, some d =>
      let t := s.advanceTo d
      ((((t.heldBy c).foldl State.leaveHeld t).setChan c none).reportEnd c i).walk
    | _, _ => s

/-! ### The memory port (R133, R134) -/

/-- A directory entry's first block and block count (R188). -/
def dirRead (phrase : Nat) (entry : BitVec 32) : DirRead :=
  { phrase := phrase, firstBlock := entry.toNat / 4096, count := entry.toNat % 4096 }

/-- An instance with a directory entry read: a missing phrase is passed over, and a missing chime leaves none (R133). -/
def ChanInst.gotDirectory (i : ChanInst) (d : DirRead) : ChanInst :=
  if d.count = 0 then
    { i with
      dirs := i.dirs ++ [d], fetch := { phrase := d.phrase + 1, block := 0 }, chime := if d.phrase = 0 then none else i.chime }
  else { i with dirs := i.dirs ++ [d] }

/-- The result of a directory read is taken by its channel (R128, R133). DESIGN CHOICE (log entry 17). -/
def State.takeDirectory (s : State) (c : ChanId) (phrase : Nat) (entry : BitVec 32) : State :=
  match s.chan c with
  | none => s
  | some i =>
    let d := dirRead phrase entry
    let t := s.setChan c (some (i.gotDirectory d))
    (if d.count = 0 then t.raise .phraseMissing (some ((i.code phrase).getD 0)) else t).leadIn c

/-- A directory read completes (R133, R134). -/
def State.directoryDone (s : State) (entry : BitVec 32) : State :=
  match s.port.transaction with
  | some { ch := c, request := .directory p, address := _, wanted := w } =>
    (if w then s.endTransaction.takeDirectory c p entry else s.endTransaction).arbitrate
  | _ => s

/-- The place after a block of a phrase (R133). -/
def ChanInst.placeAfter (i : ChanInst) (p : Place) : Place :=
  if p.block + 1 < ((i.dir p.phrase).map DirRead.count).getD 0 then { p with block := p.block + 1 }
  else { phrase := p.phrase + 1, block := 0 }

/-- An instance with a block read (R133). -/
def ChanInst.gotBlock (i : ChanInst) (p : Place) (samples : List (BitVec 16)) : ChanInst :=
  { i with buffer := i.buffer ++ [{ place := p, samples := samples }], fetch := i.placeAfter p }

/-- A block read completes (R133, R134). -/
def State.blockDone (s : State) (samples : List (BitVec 16)) : State :=
  match s.port.transaction with
  | some { ch := c, request := .block p, address := _, wanted := w } =>
    (if w then (s.endTransaction.updChan c fun i => i.gotBlock p samples).leadIn c else s.endTransaction).arbitrate
  | _ => s

/-- WAKE_END. -/
def execWakeEnd (ch : ChanId) (s : State) : Host.Outcome State Fault Refusal := s.run fun s => s.wakeOver ch

/-- LISTEN_WINDOW_END. -/
def execListenWindowEnd (ch : ChanId) (s : State) : Host.Outcome State Fault Refusal := s.run fun s => s.listenOver ch

/-- PRIMING_DEADLINE. -/
def execPrimingDeadline (ch : ChanId) (s : State) : Host.Outcome State Fault Refusal := s.run fun s => s.primingOver ch

/-- DIRECTORY_READ_COMPLETE. -/
def execDirectoryReadComplete (entry : BitVec 32) (s : State) : Host.Outcome State Fault Refusal := s.run fun s => s.directoryDone entry

/-- BLOCK_READ_COMPLETE. -/
def execBlockReadComplete (samples : List (BitVec 16)) (s : State) : Host.Outcome State Fault Refusal :=
  s.run fun s => s.blockDone samples

/-- BLOCK_PLAYED. -/
def execBlockPlayed (ch : ChanId) (s : State) : Host.Outcome State Fault Refusal := s.run fun s => s.blockOver ch

/-- GAP_END. -/
def execGapEnd (ch : ChanId) (s : State) : Host.Outcome State Fault Refusal := s.run fun s => s.gapOver ch

/-- KEEP_TIMER_EXPIRY. -/
def execKeepTimerExpiry (ch : ChanId) (s : State) : Host.Outcome State Fault Refusal := s.run fun s => s.keepOver ch

/-- TAIL_END. -/
def execTailEnd (ch : ChanId) (s : State) : Host.Outcome State Fault Refusal := s.run fun s => s.tailOver ch

end Sys2Proof.Machine
end

