-- ==== Sys2Proof/Machine/ZoneCommands.lean ====
section
/-! DEFINITION. The meanings of the commands of noise gates and line tests (R142 to R147, R164, R165). -/

namespace Sys2Proof.Machine

/-- A noise gate ends (R145 to R147); the next may start (R143). -/
def State.gateOver (s : State) (z : ZoneId) : State :=
  match (s.level z).gate with
  | none => s
  | some g => ((s.advanceTo g.endAt).judgeGate z g).settleGates

/-- A quiet deadline expires (R143). -/
def State.quietOver (s : State) (z : ZoneId) : State :=
  match (s.level z).quietAt with
  | none => s
  | some d => ((s.advanceTo d).setLevel z fun l => { l with quietAt := none }).settleGates

/-- The pulse input that a counter's user counts (R142). -/
def CounterUser.counts (u : CounterUser) (i : PulseInput) : Bool :=
  match u, i with
  | .noise, .noiseSensor => true
  | .line, .lineSense => true
  | _, _ => false

/-- A rising pulse edge (R142). -/
def State.edge (s : State) (z : ZoneId) (i : PulseInput) : State :=
  if (s.level z).user.counts i then s.setLevel z Level.pulse else s

/-- The round deadline expires (R164). -/
def State.roundOver (s : State) : State :=
  match s.sup.scan.roundAt with
  | none => s
  | some d =>
    let t := s.advanceTo d
    let t := t.setScan fun x => { x with roundAt := some (t.now + t.cfg.roundPeriod * 60000) }
    if t.evac.active then t.skipZones allZones
    else (beginGroups (List.range t.cfg.groupCount) (t.setScan fun x => { x with inRound := true })).settleGates

/-- The settle ends: the counters of the zones in TEST are lent for 100 ms (R165). -/
def State.settleOver (s : State) : State :=
  match s.sup.scan.stage, s.sup.scan.group, s.sup.scan.stageAt with
  | some .settle, some g, some d =>
    let t := s.advanceTo d
    (((t.cfg.groupZones g).filter t.inTest).foldl State.lendCounter t).setScan fun x =>
      { x with stage := some .gate, stageAt := some (t.now + 100) }
  | _, _, _ => s

/-- The line-test gate ends for every zone of the group still in TEST (R165, R166). With no zone back in IDLE no walk is made, but a
neighbour's noise gate may start (R143). DESIGN CHOICE (log entry 29). -/
def State.lineGateOver (s : State) : State :=
  match s.sup.scan.stage, s.sup.scan.group, s.sup.scan.stageAt with
  | some .gate, some g, some d =>
    let t := s.advanceTo d
    let tested := (t.cfg.groupZones g).filter t.inTest
    let u := (tested.foldl State.completeTest t).groupEnded
    if tested.any fun z => decide ((u.zone z).state = .idle) then u.walk else u.settleGates
  | _, _, _ => s

/-- The spacing ends: the next group begins (R164). -/
def State.spacingOver (s : State) : State :=
  match s.sup.scan.stage, s.sup.scan.group, s.sup.scan.stageAt with
  | some .spacing, some g, some d =>
    let t := s.advanceTo d
    (beginGroups (t.cfg.groupsAfter g) t).settleGates
  | _, _, _ => s

/-- GATE_END. -/
def execGateEnd (zone : ZoneId) (s : State) : Host.Outcome State Fault Refusal := s.run fun s => s.gateOver zone

/-- QUIET_DEADLINE_EXPIRY. -/
def execQuietDeadlineExpiry (zone : ZoneId) (s : State) : Host.Outcome State Fault Refusal := s.run fun s => s.quietOver zone

/-- RISING_PULSE_EDGE. -/
def execRisingPulseEdge (zone : ZoneId) (input : PulseInput) (s : State) : Host.Outcome State Fault Refusal :=
  s.run fun s => s.edge zone input

/-- ROUND_DEADLINE_EXPIRY. -/
def execRoundDeadlineExpiry (s : State) : Host.Outcome State Fault Refusal := s.run State.roundOver

/-- SETTLE_END. -/
def execSettleEnd (s : State) : Host.Outcome State Fault Refusal := s.run State.settleOver

/-- LINE_GATE_END. -/
def execLineGateEnd (s : State) : Host.Outcome State Fault Refusal := s.run State.lineGateOver

/-- SPACING_END. -/
def execSpacingEnd (s : State) : Host.Outcome State Fault Refusal := s.run State.spacingOver

end Sys2Proof.Machine
end

