-- ==== Sys2Proof/Machine/Delivery.lean ====
section
/-! DEFINITION. The frame in the receiver: the command that its bytes give, and its way to the checks and its owner (R3, R4, R16, R184). -/

namespace Sys2Proof.Machine

/-- A good frame of a kind as a command. -/
def FrameKind.command (k : FrameKind) (dst src : Byte) (payload : List Byte) : Instr :=
  match k with
  | .time => .time dst src payload
  | .callPost => .callPost dst src payload
  | .callAmend => .callAmend dst src payload
  | .callCancel => .callCancel dst src payload
  | .callMove => .callMove dst src payload
  | .trainEvent => .trainEvent dst src payload
  | .callHandover => .callHandover dst src payload
  | .callAdopt => .callAdopt dst src payload
  | .callRefuse => .callRefuse dst src payload
  | .announce => .announce dst src payload
  | .announceStop => .announceStop dst src payload
  | .liveOpen => .liveOpen dst src payload
  | .liveKeep => .liveKeep dst src payload
  | .liveClose => .liveClose dst src payload
  | .announceResult => .announceResult dst src payload
  | .evacStart => .evacStart dst src payload
  | .evacStop => .evacStop dst src payload
  | .claim => .claim dst src payload
  | .release => .release dst src payload
  | .faultReport => .faultReport dst src payload
  | .faultAck => .faultAck dst src payload
  | .testStep => .testStep dst src payload
  | .statusQuery => .statusQuery dst src payload
  | .nodeStatus => .nodeStatus dst src payload

/-- The command that the bytes of a completed frame give: checks 1 and 4 (R16, R17, R184). DEDUCED (log entry 4). -/
def frameCommand (raw : List Byte) : Instr :=
  if check1 raw then
    let payload := (raw.drop 4).take (u8 raw 3)
    match kindOfCode (u8 raw 2) with
    | some k => k.command (byte (u8 raw 0)) (byte (u8 raw 1)) payload
    | none => .unknownKind (byte (u8 raw 0)) (byte (u8 raw 1)) (byte (u8 raw 2)) payload
  else .badFrame raw

/-- The meaning of a frame of a kind. -/
def FrameKind.meaning (k : FrameKind) (dst src : Byte) (payload : List Byte) (s : State) : Host.Outcome State Fault Refusal :=
  match k with
  | .time => execTime dst src payload s
  | .callPost => execCallPost dst src payload s
  | .callAmend => execCallAmend dst src payload s
  | .callCancel => execCallCancel dst src payload s
  | .callMove => execCallMove dst src payload s
  | .trainEvent => execTrainEvent dst src payload s
  | .callHandover => execCallHandover dst src payload s
  | .callAdopt => execCallAdopt dst src payload s
  | .callRefuse => execCallRefuse dst src payload s
  | .announce => execAnnounce dst src payload s
  | .announceStop => execAnnounceStop dst src payload s
  | .liveOpen => execLiveOpen dst src payload s
  | .liveKeep => execLiveKeep dst src payload s
  | .liveClose => execLiveClose dst src payload s
  | .announceResult => execAnnounceResult dst src payload s
  | .evacStart => execEvacStart dst src payload s
  | .evacStop => execEvacStop dst src payload s
  | .claim => execClaim dst src payload s
  | .release => execRelease dst src payload s
  | .faultReport => execFaultReport dst src payload s
  | .faultAck => execFaultAck dst src payload s
  | .testStep => execTestStep dst src payload s
  | .statusQuery => execStatusQuery dst src payload s
  | .nodeStatus => execNodeStatus dst src payload s

/-- The outcome of a completed frame's bytes (R16, R17). -/
def frameOutcome (raw : List Byte) (s : State) : Host.Outcome State Fault Refusal :=
  if check1 raw then
    let payload := (raw.drop 4).take (u8 raw 3)
    match kindOfCode (u8 raw 2) with
    | some k => k.meaning (byte (u8 raw 0)) (byte (u8 raw 1)) payload s
    | none => execUnknownKind (byte (u8 raw 0)) (byte (u8 raw 1)) (byte (u8 raw 2)) payload s
  else execBadFrame raw s

/-- The frame in the receiver is complete and goes to the checks (R3). A framing error in one of its characters makes it fail check 1
(R4). In UNKNOWN and in a discard span there is nothing to hand over (R2, R6). -/
def State.completeFrame (s : State) : State :=
  if s.hears && !s.link.rxFrame.isEmpty then
    if s.link.rxFaulty then s.failCheck
    else
      match frameOutcome s.link.rxFrame s with
      | .next t => t
      | _ => s
  else s

end Sys2Proof.Machine
end

