-- ==== Sys2Proof/Machine/Line.lean ====
section
/-! DEFINITION. The line monitor, access to the line and transmission (R1 to R10), the reports of CLAIMs (R110), and the meanings of the
line's commands. -/

namespace Sys2Proof.Machine

/-! ### The monitor (R2 to R6) -/

/-- Entry to DISTURBED (R4). DESIGN CHOICE (log entry 40). -/
def State.enterDisturbed (s : State) : State :=
  ({ s with
      link :=
        { s.link with
          monitor := .disturbed, framingErrors := 0, idleRun := 0, disturbTimer := some (s.now + 2000), rxFrame := [],
          rxFaulty := false } } : State).spend.collide

/-- The non-idle run reaches 20 character times (R4). -/
def State.nonIdleLimit (s : State) : State :=
  let t : State := { s with link := { s.link with nonIdleRun := max s.link.nonIdleRun 20, idleRun := 0 } }
  if s.link.monitor = .disturbed then t else t.enterDisturbed

/-- The monitor becomes QUIET: slots are counted from 0 and the next start bit begins a frame (R2, R3, R5, R7). -/
def State.becomeQuiet (s : State) (idle : Nat) : State :=
  { s with
    link :=
      { s.link with
        monitor := .quiet, idleRun := max s.link.idleRun idle, nonIdleRun := 0, slotCount := 0, rxFrame := [], rxFaulty := false,
        disturbTimer := none, discarding := false } }

/-- 40 character times of idle line in UNKNOWN (R2, R5). -/
def State.unknownIdle (s : State) : State :=
  if s.link.monitor = .unknown then (s.becomeQuiet 40).clear .linkDisturbed none else s

/-- 4 character times of idle line in ACTIVE (R3). -/
def State.lineQuiet (s : State) : State :=
  if s.link.monitor = .active ∧ s.sendingFrame = none then s.completeFrame.becomeQuiet 4 else s

/-- 100 character times of idle line in DISTURBED (R5). -/
def State.disturbanceEnd (s : State) : State :=
  if s.link.monitor = .disturbed then (s.completeFrame.becomeQuiet 100).clear .linkDisturbed none else s

/-- DISTURBED has lasted 2 s (R5). -/
def State.disturbedLong (s : State) : State :=
  match s.link.disturbTimer with
  | none => s
  | some d =>
    if s.link.monitor = .disturbed then
      ({ s.advanceTo d with link := { s.link with disturbTimer := none } } : State).raise .linkDisturbed none
    else s

/-- The discard span ends at an idle run of 3 character times (R6). -/
def State.discardEnd (s : State) : State :=
  if s.link.discarding then
    { s with
      link := { s.link with
        discarding := false, rxFrame := [], rxFaulty := false, idleRun := max s.link.idleRun 3, nonIdleRun := 0 } }
  else s

/-! ### Transmission (R7 to R10) -/

/-- The frame at the head of the queue when it may start: QUIET, in JOINING or RUN, with nothing on the line (R7). -/
def State.readyHead (s : State) : Option TxFrame :=
  if s.link.monitor = .quiet ∧ s.onLink = true ∧ s.sendingFrame = none then s.link.queue.head? else none

/-- The queue with its head frame on the line (R7, R11). -/
def sendHead : List TxFrame → List TxFrame
  | [] => []
  | f :: rest => { f with sending := true } :: rest

/-- The slot count reaches the slot of the head frame (R3, R7). DESIGN CHOICE (log entry 32). -/
def State.slotReached (s : State) : State :=
  match s.readyHead with
  | none => s
  | some f =>
    { s with
      link :=
        { s.link with
          monitor := .active, idleRun := 0, slotCount := max s.link.slotCount (frameSlot s.cfg.nodeId f), rxFrame := [],
          rxFaulty := false, echoed := 0, echoAge := 0, queue := sendHead s.link.queue } }

/-- The channel whose own claim record has a tag (R110). -/
def State.claimWithTag (s : State) (tag : Option Nat) : Option ChanId :=
  allChans.find? fun c => (s.claimOf c).any fun r => decide (some r.tag = tag)

/-- The channel is in CLAIMING. -/
def State.claiming (s : State) (c : ChanId) : Bool := (s.chan c).any fun i => decide (i.state = .claiming)

/-- A CLAIM of a tag is reported sent (R110). -/
def State.claimSent (s : State) (tag : Option Nat) : State :=
  match s.claimWithTag tag with
  | none => s
  | some c =>
    let s := s.setClaim c ((s.claimOf c).map fun r => { r with transmitted := true })
    if s.claiming c then (s.setClaim c ((s.claimOf c).map fun r => { r with sendDeadline := none })).enterLeadIn c else s

/-- The transmission is complete (R9). -/
def State.transmitted (s : State) : State :=
  match s.sendingFrame with
  | none => s
  | some g =>
    let s := ({ s with link := { s.link.completed g with idleRun := 0, nonIdleRun := 0, echoed := 0, echoAge := 0 } } : State).count .txSent
    (if g.kind = .claim then s.claimSent g.tag else s).pump

/-! ### Characters (R2 to R4, R6, R9) -/

/-- The non-idle run after a character: a character of zeros without a stop bit held the line at the non-idle level throughout, and any
other one brought it to the idle level (R1). DESIGN CHOICE (log entry 41). -/
def State.heldRun (s : State) (char : Byte) (framingError : Bool) : Nat :=
  if framingError && decide (char = 0#8) then max s.link.nonIdleRun 1 else 0

/-- A character from another station (R2 to R4, R6). It is the first of a frame after an end of frame or in QUIET, else the next; the
characters of a discard span form no frame and their framing errors do not count. A framing error outside one counts toward DISTURBED and
marks the frame. DEDUCED (log entry 22). DESIGN CHOICE (log entry 40). -/
def State.heardChar (s : State) (char : Byte) (framingError : Bool) : State :=
  let counts := framingError && !s.link.discarding
  let n := if counts then min (s.link.framingErrors + 1) 4 else s.link.framingErrors
  let first := decide (s.link.monitor = .quiet) || decide (3 ≤ s.link.idleRun)
  let t : State :=
    { s with
      link :=
        { s.link with
          monitor := if s.link.monitor = .quiet then .active else s.link.monitor, idleRun := 0,
          nonIdleRun := s.heldRun char framingError, framingErrors := n,
          rxFrame := if s.link.discarding then [] else if first then [char] else s.link.rxFrame ++ [char],
          rxFaulty := counts || (!s.link.discarding && !first && s.link.rxFaulty) } }
  if counts = true ∧ n = 4 ∧ s.link.monitor ≠ .disturbed then t.enterDisturbed else t

/-- The bytes that a frame of this node puts on the line (R184). -/
def TxFrame.bytes (f : TxFrame) (nodeId : Nat) : List Byte := frameBytes (byte f.dest) (byte nodeId) (byte f.kind.code) f.payload

/-- The echo of a character that the node sends (R6, R9): a different character and a framing error are a collision; the match of the
second check byte completes the transmission. DESIGN CHOICE (log entry 32). -/
def State.echo (s : State) (g : TxFrame) (char : Byte) (framingError : Bool) : State :=
  let t : State := { s with link := { s.link with idleRun := 0, nonIdleRun := s.heldRun char framingError } }
  let bytes := g.bytes s.cfg.nodeId
  if framingError = true ∨ bytes[s.link.echoed]? ≠ some char then t.collide
  else if s.link.echoed + 1 = bytes.length then t.transmitted
  else { t with link := { t.link with echoed := t.link.echoed + 1, echoAge := t.link.echoAge - 1 } }

/-- A character is received: an echo while the node sends, else one of another station. A frame whose end of frame has passed goes to the
checks before it (R3). -/
def State.characterIn (s : State) (char : Byte) (framingError : Bool) : State :=
  match s.sendingFrame with
  | some g => s.echo g char framingError
  | none => (if 3 ≤ s.link.idleRun then s.completeFrame else s).heardChar char framingError

/-- CHARACTER_RECEIVED. -/
def execCharacterReceived (char : Byte) (framingError : Bool) (s : State) : Host.Outcome State Fault Refusal :=
  s.run fun s => s.characterIn char framingError

/-- NON_IDLE_RUN_LIMIT. -/
def execNonIdleRunLimit (s : State) : Host.Outcome State Fault Refusal := s.run State.nonIdleLimit

/-- UNKNOWN_IDLE_LIMIT. -/
def execUnknownIdleLimit (s : State) : Host.Outcome State Fault Refusal := s.run State.unknownIdle

/-- LINE_QUIET. -/
def execLineQuiet (s : State) : Host.Outcome State Fault Refusal := s.run State.lineQuiet

/-- DISTURBANCE_END. -/
def execDisturbanceEnd (s : State) : Host.Outcome State Fault Refusal := s.run State.disturbanceEnd

/-- DISTURBANCE_TIMER_EXPIRY. -/
def execDisturbanceTimerExpiry (s : State) : Host.Outcome State Fault Refusal := s.run State.disturbedLong

/-- DISCARD_SPAN_END. -/
def execDiscardSpanEnd (s : State) : Host.Outcome State Fault Refusal := s.run State.discardEnd

/-- SLOT_REACHED. -/
def execSlotReached (s : State) : Host.Outcome State Fault Refusal := s.run State.slotReached

/-- ECHO_MISMATCH. -/
def execEchoMismatch (s : State) : Host.Outcome State Fault Refusal := s.run State.collide

/-- TRANSMISSION_COMPLETE. -/
def execTransmissionComplete (s : State) : Host.Outcome State Fault Refusal := s.run State.transmitted

end Sys2Proof.Machine
end

