-- ==== Sys2Proof/Machine/Outputs.lean ====
section
/-! DEFINITION. The outputs that are functions of the state: amplifier enables and zone audio (R132, R140, R157). -/

namespace Sys2Proof.Machine

/-- What a channel or a zone sounds; a block and a tone with how many of its milliseconds have passed. -/
inductive Sound where
  | silence
  | pilot
  | samples (block : List (BitVec 16)) (ms : Nat)
  | liveInput
  | tone (hertz ms : Nat)
deriving DecidableEq, Repr

/-- A zone's audio: a sound, how many milliseconds of the fade of R132 have passed if it fades, and the gain code. -/
structure ZoneAudio where
  sound : Sound
  fade : Option Nat
  gain : Nat
deriving DecidableEq, Repr

/-- A holder's amplifier enables are asserted: not in CLAIMING, nor in a TAIL entered from it (R125, R140). -/
def ChanInst.powered (i : ChanInst) : Bool :=
  match i.state with
  | .claiming => false
  | .leadIn => true
  | .speaking => true
  | .live => true
  | .tail => !i.silentTail

/-- The amplifier enable AE of a zone (R140). -/
def State.ampEnable (s : State) (z : ZoneId) : Bool :=
  match (s.zone z).state with
  | .idle => false
  | .off => false
  | .test => true
  | .held c => (s.chan c).any ChanInst.powered

/-- The tone of a tone playing that ends at `e`: 800 Hz and 600 Hz in turn, 1 s each (R157). -/
def toneAt (now e : Nat) : Sound :=
  let ms := 10000 - (e - now)
  .tone (if ms / 1000 % 2 = 0 then 800 else 600) (ms % 1000)

/-- A channel's output before its gain and its fade (R127, R135, R136, R157). In a TAIL the live input goes on, and so does a tone until
its end (log entry 21). -/
def ChanInst.sound (i : ChanInst) (now : Nat) : Sound :=
  match i.evac.bind EvacCycle.toneEnd, i.inPlay with
  | some e, _ => if now < e then toneAt now e else .silence
  | none, .block => .samples ((i.buffer.head?.map Block.samples).getD []) (32 - (i.blockEnd.getD now - now))
  | none, .gap _ => .silence
  | none, .nothing =>
    if i.state = .live ∨ i.liveTail = true then .liveInput else .silence

/-- The audio output ZA of a zone (R140). -/
def State.zoneAudio (s : State) (z : ZoneId) : ZoneAudio :=
  match (s.zone z).state with
  | .idle => { sound := .silence, fade := none, gain := 0 }
  | .off => { sound := .silence, fade := none, gain := 0 }
  | .test => { sound := .pilot, fade := none, gain := 0 }
  | .held c =>
    match s.chan c with
    | none => { sound := .silence, fade := none, gain := 0 }
    | some i =>
      if i.powered then
        { sound := i.sound s.now, fade := i.tailEnd.map fun e => 300 - (e - s.now), gain := (s.zone z).gain.getD 0 }
      else { sound := .silence, fade := none, gain := 0 }

/-! ### Samples (R132, R140) -/

/-- The magnitude of a sample. -/
def magnitude (x : BitVec 16) : Nat := x.toInt.natAbs

/-- A sample, below zero or not, whose magnitude is `q`, or the next one up where the value is no whole number and is rounded so. -/
def rounded (negative : Bool) (q : Nat) (exact up : Bool) : BitVec 16 :=
  let n := if !exact && up then q + 1 else q
  if negative then BitVec.ofInt 16 (-(n : Int)) else BitVec.ofNat 16 n

/-- A sample under the fade, `t` of the 300 ms passed: times (300 - t) / 300 (R132). The rounding is a free value (log entry 30). -/
def fadeSample (t : Nat) (x : BitVec 16) : BitVec 16 :=
  let p := magnitude x * (300 - t)
  rounded x.msb (p / 300) (decide (p % 300 = 0)) (Config.fadeRoundsUp t x)

/-- A magnitude `y` is no more than 10^(-g/80) of a magnitude `m`: both sides to the 80th power are whole (R140). -/
def attenuatedTo (g m y : Nat) : Bool := decide (y ^ 80 * 10 ^ g ≤ m ^ 80)

/-- The greatest such magnitude that differs from `y` in the low `k` bits. -/
def attenuateBits (g m : Nat) : Nat → Nat → Nat
  | 0, y => y
  | k + 1, y => if attenuatedTo g m (y + 2 ^ k) then attenuateBits g m k (y + 2 ^ k) else attenuateBits g m k y

/-- A sample attenuated by a gain code: times 10^(-g/80) (R140). The rounding is a free value (log entry 30). -/
def attenuateSample (g : Nat) (x : BitVec 16) : BitVec 16 :=
  let m := magnitude x
  let q := attenuateBits g m 16 0
  rounded x.msb q (decide (q ^ 80 * 10 ^ g = m ^ 80)) (Config.attenuateRoundsUp g x)

/-- One sample of a zone's audio, from the sample of its sound (R132, R140). Code 0 passes it at full level.
DESIGN CHOICE (log entry 30). -/
def ZoneAudio.out (a : ZoneAudio) (x : BitVec 16) : BitVec 16 :=
  let y := match a.fade with
    | none => x
    | some t => fadeSample t x
  if a.gain = 0 then y else attenuateSample a.gain y

/-! ### The alert tone (R157) -/

/-- The whole part of 32767 sin of k eightieths of a turn, for the first quarter turn. -/
def quarterSine : Vector Nat 21 :=
  #v[0, 2570, 5125, 7649, 10125, 12539, 14875, 17120, 19259, 21280, 23169, 24916, 26509, 27938, 29195, 30272, 31163, 31861, 32363, 32665,
    32767]

/-- Where in the first quarter turn the magnitude of a sine at k eightieths of a turn is found. -/
def quarterOf (k : Nat) : Nat := if k % 40 ≤ 20 then k % 40 else 40 - k % 40

/-- A full-scale sine at k eightieths of a turn: 32767 sin (2 pi k / 80), rounded where it is no whole number, which is where it is
neither 0 nor at its height. -/
def sineSample (k : Nat) : BitVec 16 :=
  let j := quarterOf k
  rounded (decide (40 < k % 80)) (quarterSine.toList.getD j 0) (decide (j = 0 ∨ j = 20)) (Config.toneRoundsUp (k % 80))

/-- Sample `n` of a tone, at 16 kHz: a sample moves the sine on by hertz / 16000 of a turn, which for both tones is a whole number of
eightieths (R157). DESIGN CHOICE (log entry 54). -/
def toneSample (hertz n : Nat) : BitVec 16 := sineSample (hertz * n / 200)

/-- Sample `k` of the sixteen of a millisecond. What the spec gives no waveform, the pilot tone, and what comes from outside, the live
input, is the sample given. -/
def Sound.sample (x : Sound) (k : Nat) (given : BitVec 16) : BitVec 16 :=
  match x with
  | .silence => 0#16
  | .pilot => given
  | .samples block ms => block.getD (16 * ms + k) 0#16
  | .liveInput => given
  | .tone hertz ms => toneSample hertz (16 * ms + k)

/-- Sample `k` of the present millisecond on the audio output of a zone (R140). -/
def State.zoneSample (s : State) (z : ZoneId) (k : Nat) (given : BitVec 16) : BitVec 16 :=
  (s.zoneAudio z).out ((s.zoneAudio z).sound.sample k given)

end Sys2Proof.Machine
end

