-- ==== Sys2Proof/Machine/Tick.lean ====
section
/-! DEFINITION. What happens when no command waits (log entries 1 and 35): the command that is due at the present instant, and the passing
of one character time. -/

namespace Sys2Proof.Machine

/-! ### What is due -/

/-- The first command of a list of possible ones. -/
def firstDue (l : List (Option Instr)) : Option Instr := l.findSome? id

/-- A deadline has been reached (R21). -/
def State.reached (s : State) (d : Option Nat) : Bool := d.any fun x => decide (x ≤ s.now)

/-- A command, when a condition holds. -/
def dueIf (b : Bool) (c : Instr) : Option Instr := if b then some c else none

/-- What the line has due (R2 to R7). -/
def State.dueLine (s : State) : Option Instr :=
  let l := s.link
  firstDue
    [dueIf (decide (l.monitor ≠ .disturbed) && decide (20 ≤ l.nonIdleRun)) .nonIdleRunLimit,
     dueIf (s.sendingFrame.isSome && decide (2 ≤ l.echoAge)) .echoMismatch,
     dueIf (decide (l.monitor = .unknown) && decide (40 ≤ l.idleRun)) .unknownIdleLimit,
     dueIf (l.discarding && decide (3 ≤ l.idleRun)) .discardSpanEnd,
     dueIf (decide (l.monitor = .active) && decide (4 ≤ l.idleRun) && s.sendingFrame.isNone) .lineQuiet,
     dueIf (decide (l.monitor = .disturbed) && decide (100 ≤ l.idleRun)) .disturbanceEnd,
     dueIf (decide (l.monitor = .disturbed) && s.reached l.disturbTimer) .disturbanceTimerExpiry,
     dueIf (s.readyHead.any fun f => decide (frameSlot s.cfg.nodeId f ≤ l.slotCount)) .slotReached]

/-- What start-up and the Time Base have due (R24, R28, R124, R180). -/
def State.dueTime (s : State) : Option Instr :=
  firstDue
    [dueIf (s.inStep .waitLine && decide (s.link.monitor ≠ .unknown)) .enterJoining,
     dueIf (decide (s.startup.phase = .joining) && s.reached s.claims.joinTimer) .joinTimerExpiry,
     dueIf (decide (s.clock.timeState ≠ .unset) && decide (s.clock.secondStart + 1000 ≤ s.now)) .secondAdvance,
     dueIf (decide (s.clock.timeState = .set) && s.reached s.clock.doubtTimer) .doubtTimerExpiry]

/-- What the calls, the queue and the occupancy table have due (R45, R50, R102, R116). -/
def State.dueTables (s : State) : Option Instr :=
  firstDue
    (s.calls.map (fun r => dueIf (s.reached r.linger) (.lingerExpiry (BitVec.ofNat 16 r.id)))
      ++ s.calls.map (fun r =>
        dueIf (decide (r.state = .moving) && s.reached (r.moving.map Moving.deadline)) (.moveTimerExpiry (BitVec.ofNat 16 r.id)))
      ++ s.queue.entries.map (fun e =>
        dueIf (decide (s.queue.walkedAt < e.notBefore) && decide (e.notBefore ≤ s.now)) (.notBeforeReached (byte e.tag)))
      ++ s.queue.entries.map (fun e => dueIf (s.reached e.expiry) (.entryExpiry (byte e.tag)))
      ++ s.claims.occupancy.map fun o => dueIf (s.reached (o.occupant.map Occupant.expiry)) (.occupancyExpiry (byte o.zone)))

/-- What one channel has due (R109, R111, R127 to R136). -/
def State.dueChannel (s : State) (c : ChanId) : Option Instr :=
  let lead := s.leadingIn c
  let play := (s.chan c).bind fun i => if s.reached i.blockEnd then some i.inPlay else none
  firstDue
    [dueIf (s.reached ((s.claimOf c).bind OwnClaim.sendDeadline)) (.claimSendTimeout c),
     dueIf (s.reached ((s.claimOf c).map OwnClaim.refreshAt)) (.refreshDeadlineExpiry c),
     dueIf (decide (play = some .block)) (.blockPlayed c),
     dueIf (decide (play = some (.gap true)) || decide (play = some (.gap false))) (.gapEnd c),
     dueIf (s.reached (lead.bind ChanInst.wakeEnd)) (.wakeEnd c),
     dueIf (s.reached (lead.bind ChanInst.listenEnd)) (.listenWindowEnd c),
     dueIf (s.reached (lead.bind ChanInst.priming)) (.primingDeadline c),
     dueIf ((s.chan c).any fun i => decide (i.state = .live) && s.reached i.keepAt) (.keepTimerExpiry c),
     dueIf ((s.chan c).any fun i => decide (i.state = .tail) && s.reached i.tailEnd) (.tailEnd c)]

/-- What evacuation and supervision have due (R156 to R158, R161, R164, R165). DESIGN CHOICE (log entry 33). -/
def State.dueScan (s : State) : Option Instr :=
  let x := s.sup.scan
  firstDue
    [dueIf (s.reached s.evac.repeatAt) .evacRepeatExpiry,
     dueIf (s.reached (s.speakingEvac.bind EvacCycle.toneEnd)) .tonePlayingEnd,
     dueIf (s.reached (s.speakingEvac.bind EvacCycle.pauseEnd)) .evacPauseEnd,
     dueIf (decide (x.stage = some .settle) && x.group.isSome && s.reached x.stageAt) .settleEnd,
     dueIf (decide (x.stage = some .gate) && x.group.isSome && s.reached x.stageAt) .lineGateEnd,
     dueIf (decide (x.stage = some .spacing) && x.group.isSome && s.reached x.stageAt) .spacingEnd,
     dueIf (s.reached x.roundAt) .roundDeadlineExpiry,
     if decide (s.startup.phase ≠ .start) && s.reached s.sup.sampleAt then s.sup.pins.map .contactSample else none]

/-- What one zone has due (R143, R145). -/
def State.dueZone (s : State) (z : ZoneId) : Option Instr :=
  firstDue
    [dueIf (s.reached ((s.level z).gate.map Gate.endAt)) (.gateEnd z),
     dueIf (s.reached (s.level z).quietAt) (.quietDeadlineExpiry z)]

/-- The command that is due at the present instant, in the order of log entry 35. -/
def State.due (s : State) : Option Instr :=
  firstDue ([s.dueLine, s.dueTime, s.dueTables] ++ allChans.map s.dueChannel ++ [s.dueScan] ++ allZones.map s.dueZone)

/-! ### Time passes -/

/-- One character time, 40 µs: 25 to the millisecond (R1, R7, R9, R21). A line that the last character left at the non-idle level stays
there; else the line is idle, unless the node sends. DESIGN CHOICE (log entries 1 and 41). -/
def State.countTime (s : State) : State :=
  let p := (s.clock.charPhase + 1) % 25
  let sending := s.sendingFrame.isSome
  let held := decide (0 < s.link.nonIdleRun)
  { s with
    clock := { s.clock with charPhase := p, now := if p = 0 then (s.clock.now + 1) % 2 ^ 40 else s.clock.now },
    link :=
      { s.link with
        idleRun := if sending || held then s.link.idleRun else s.link.idleRun + 1,
        nonIdleRun := if held then s.link.nonIdleRun + 1 else 0,
        echoAge := if sending then s.link.echoAge + 1 else s.link.echoAge,
        slotCount := if s.link.monitor = .quiet then s.link.slotCount + 1 else s.link.slotCount } }

/-- A character time passes; when the idle run reaches 3 in it, the frame in the receiver is complete (R3). -/
def State.charTime (s : State) : State :=
  let t := s.countTime
  if t.link.idleRun = 3 ∧ s.link.idleRun ≠ 3 then t.completeFrame else t

end Sys2Proof.Machine
end

