-- ==== Sys2Proof/Machine/Dispatch.lean ====
section
/-! DEFINITION. The meaning of every command: one arm for each. -/

namespace Sys2Proof.Machine

/-- The effect of a command on everything but the queue of waiting commands. -/
def exec (i : Instr) (s : State) : Host.Outcome State Fault Refusal :=
  match i with
  | .coldStart => Sys2Proof.Machine.execColdStart s
  | .resetAssert => Sys2Proof.Machine.execResetAssert s
  | .resetRelease => Sys2Proof.Machine.execResetRelease s
  | .configImageRead image => Sys2Proof.Machine.execConfigImageRead image s
  | .phraseHeaderRead header store => Sys2Proof.Machine.execPhraseHeaderRead header store s
  | .templateStoreRead store => Sys2Proof.Machine.execTemplateStoreRead store s
  | .enterJoining => Sys2Proof.Machine.execEnterJoining s
  | .joinTimerExpiry => Sys2Proof.Machine.execJoinTimerExpiry s
  | .characterReceived char framingError => Sys2Proof.Machine.execCharacterReceived char framingError s
  | .nonIdleRunLimit => Sys2Proof.Machine.execNonIdleRunLimit s
  | .unknownIdleLimit => Sys2Proof.Machine.execUnknownIdleLimit s
  | .lineQuiet => Sys2Proof.Machine.execLineQuiet s
  | .disturbanceEnd => Sys2Proof.Machine.execDisturbanceEnd s
  | .disturbanceTimerExpiry => Sys2Proof.Machine.execDisturbanceTimerExpiry s
  | .discardSpanEnd => Sys2Proof.Machine.execDiscardSpanEnd s
  | .slotReached => Sys2Proof.Machine.execSlotReached s
  | .echoMismatch => Sys2Proof.Machine.execEchoMismatch s
  | .transmissionComplete => Sys2Proof.Machine.execTransmissionComplete s
  | .badFrame raw => Sys2Proof.Machine.execBadFrame raw s
  | .unknownKind dst src kind payload => Sys2Proof.Machine.execUnknownKind dst src kind payload s
  | .time dst src payload => Sys2Proof.Machine.execTime dst src payload s
  | .secondAdvance => Sys2Proof.Machine.execSecondAdvance s
  | .doubtTimerExpiry => Sys2Proof.Machine.execDoubtTimerExpiry s
  | .callPost dst src payload => Sys2Proof.Machine.execCallPost dst src payload s
  | .callAmend dst src payload => Sys2Proof.Machine.execCallAmend dst src payload s
  | .callCancel dst src payload => Sys2Proof.Machine.execCallCancel dst src payload s
  | .callMove dst src payload => Sys2Proof.Machine.execCallMove dst src payload s
  | .trainEvent dst src payload => Sys2Proof.Machine.execTrainEvent dst src payload s
  | .callHandover dst src payload => Sys2Proof.Machine.execCallHandover dst src payload s
  | .callAdopt dst src payload => Sys2Proof.Machine.execCallAdopt dst src payload s
  | .callRefuse dst src payload => Sys2Proof.Machine.execCallRefuse dst src payload s
  | .lingerExpiry call => Sys2Proof.Machine.execLingerExpiry call s
  | .moveTimerExpiry call => Sys2Proof.Machine.execMoveTimerExpiry call s
  | .announce dst src payload => Sys2Proof.Machine.execAnnounce dst src payload s
  | .announceStop dst src payload => Sys2Proof.Machine.execAnnounceStop dst src payload s
  | .liveOpen dst src payload => Sys2Proof.Machine.execLiveOpen dst src payload s
  | .liveKeep dst src payload => Sys2Proof.Machine.execLiveKeep dst src payload s
  | .liveClose dst src payload => Sys2Proof.Machine.execLiveClose dst src payload s
  | .notBeforeReached tag => Sys2Proof.Machine.execNotBeforeReached tag s
  | .entryExpiry tag => Sys2Proof.Machine.execEntryExpiry tag s
  | .claim dst src payload => Sys2Proof.Machine.execClaim dst src payload s
  | .release dst src payload => Sys2Proof.Machine.execRelease dst src payload s
  | .occupancyExpiry zone => Sys2Proof.Machine.execOccupancyExpiry zone s
  | .refreshDeadlineExpiry ch => Sys2Proof.Machine.execRefreshDeadlineExpiry ch s
  | .claimSendTimeout ch => Sys2Proof.Machine.execClaimSendTimeout ch s
  | .wakeEnd ch => Sys2Proof.Machine.execWakeEnd ch s
  | .listenWindowEnd ch => Sys2Proof.Machine.execListenWindowEnd ch s
  | .primingDeadline ch => Sys2Proof.Machine.execPrimingDeadline ch s
  | .directoryReadComplete entry => Sys2Proof.Machine.execDirectoryReadComplete entry s
  | .blockReadComplete samples => Sys2Proof.Machine.execBlockReadComplete samples s
  | .blockPlayed ch => Sys2Proof.Machine.execBlockPlayed ch s
  | .gapEnd ch => Sys2Proof.Machine.execGapEnd ch s
  | .keepTimerExpiry ch => Sys2Proof.Machine.execKeepTimerExpiry ch s
  | .tailEnd ch => Sys2Proof.Machine.execTailEnd ch s
  | .gateEnd zone => Sys2Proof.Machine.execGateEnd zone s
  | .quietDeadlineExpiry zone => Sys2Proof.Machine.execQuietDeadlineExpiry zone s
  | .evacStart dst src payload => Sys2Proof.Machine.execEvacStart dst src payload s
  | .evacStop dst src payload => Sys2Proof.Machine.execEvacStop dst src payload s
  | .evacRepeatExpiry => Sys2Proof.Machine.execEvacRepeatExpiry s
  | .tonePlayingEnd => Sys2Proof.Machine.execTonePlayingEnd s
  | .evacPauseEnd => Sys2Proof.Machine.execEvacPauseEnd s
  | .acceptedLevelChange contact active => Sys2Proof.Machine.execAcceptedLevelChange contact active s
  | .roundDeadlineExpiry => Sys2Proof.Machine.execRoundDeadlineExpiry s
  | .settleEnd => Sys2Proof.Machine.execSettleEnd s
  | .lineGateEnd => Sys2Proof.Machine.execLineGateEnd s
  | .spacingEnd => Sys2Proof.Machine.execSpacingEnd s
  | .faultAck dst src payload => Sys2Proof.Machine.execFaultAck dst src payload s
  | .testStep dst src payload => Sys2Proof.Machine.execTestStep dst src payload s
  | .statusQuery dst src payload => Sys2Proof.Machine.execStatusQuery dst src payload s
  | .faultReport dst src payload => Sys2Proof.Machine.execFaultReport dst src payload s
  | .nodeStatus dst src payload => Sys2Proof.Machine.execNodeStatus dst src payload s
  | .announceResult dst src payload => Sys2Proof.Machine.execAnnounceResult dst src payload s
  | .contactSample pins => Sys2Proof.Machine.execContactSample pins s
  | .risingPulseEdge zone input => Sys2Proof.Machine.execRisingPulseEdge zone input s

end Sys2Proof.Machine
end

