-- ==== Sys2Proof/Machine/Step.lean ====
section
/-! DEFINITION. The step: the command at the front of the queue, or the part's own time when none waits. -/

namespace Sys2Proof.Machine

/-- One step. On an empty queue the command that is due runs, or one character time passes; while the reset line is held the node does
nothing (R180, log entry 1). -/
def step (s : State) : Host.Outcome State Fault Refusal :=
  match s.pending with
  | c :: rest => exec c { s with pending := rest }
  | [] =>
    if s.startup.resetHeld then .next s
    else
      match s.due with
      | some c => exec c s
      | none => .next s.charTime

/-- The command that a word spells, put at the front of the queue. -/
def State.withFetchWord (s : State) (nbits w : Nat) : State :=
  match decodeTableWord nbits w with
  | some c => { s with pending := c :: s.pending }
  | none => s

end Sys2Proof.Machine
end

