-- ==== Sys2Proof/Safety.lean ====
section
/-! DEFINITION. What a safe run keeps, in the terms that the statements use. -/

namespace Sys2Proof.Machine

/-- The transmit queue holds at most 8 frames, none in START and LIMITED, and at most one of them is on the line (R7, R11). -/
structure State.TxQueueLegal (s : State) : Prop where
  size : s.link.queue.length ≤ 8
  offLink : s.onLink = false → s.link.queue = []
  oneSending : (s.link.queue.filter TxFrame.sending).length ≤ 1

/-- Every counter has 16 bits (R178). -/
def State.CountersFit (s : State) : Prop := ∀ i : Fin 16, s.counters[i] ≤ 65535

/-- The test step is in 0..7 (R177). -/
def State.TestStepLegal (s : State) : Prop := s.faults.testStep ≤ 7

/-- The order of start-up (R180, R181): no configuration before its read, none in LIMITED, one in JOINING and RUN; START ends with its
last step; and the memory port belongs to the arbiter from the end of START's reads on. -/
structure State.StartOrder (s : State) : Prop where
  unread : s.startup.phase = .start → (s.startup.config = none ↔ s.startup.step = .readConfig)
  limited : s.startup.phase = .limited → s.startup.config = none
  applied : s.onLink = true → s.startup.config.isSome = true
  ended : s.startup.phase = .start ↔ s.startup.step ≠ .ended
  port : s.port.handedOver = true ↔ (s.startup.step = .waitLine ∨ s.onLink = true)

/-- The call table holds at most 48 records, in order of call id without repeats, and their points take at most 256 cells (R32, R35). -/
structure State.CallsFit (s : State) : Prop where
  count : s.calls.length ≤ 48
  ordered : s.calls.Pairwise fun a b => a.id < b.id
  cells : (s.calls.map fun r => r.points.length).sum ≤ 256

/-- The announcement queue holds at most 24 entries (R89). -/
def State.EntriesFit (s : State) : Prop := s.queue.entries.length ≤ 24

/-- Who owns what, on an applied configuration: an absent zone is OFF (R138); a channel that holds a zone has an instance (R138); while
evacuation is ACTIVE no channel but 0 holds a zone (R154); an own claim record belongs to an instance before TAIL (R107). -/
structure State.OwnersAgree (s : State) : Prop where
  absent : s.startup.config.isSome = true → ∀ z : ZoneId, (s.zone z).present = false → (s.zone z).state = .off
  held : ∀ (z : ZoneId) (c : ChanId), (s.zone z).state = .held c → (s.chan c).isSome = true
  evacuation : s.evac.active = true → ∀ (z : ZoneId) (c : ChanId), (s.zone z).state = .held c → c = 0
  claims : ∀ (c : ChanId) (r : OwnClaim), s.claimOf c = some r → ∃ i, s.chan c = some i ∧ i.state ≠ .tail

/-- No two waiting entries have one key, no two instances have, and no waiting entry has the key of an instance (R90, R91). -/
structure State.KeysApart (s : State) : Prop where
  waiting : s.queue.entries.Pairwise fun a b => a.key ≠ b.key
  playing : ∀ (c d : ChanId) (i j : ChanInst), s.chan c = some i → s.chan d = some j → i.key.isSome = true → i.key = j.key → c = d
  both : ∀ e ∈ s.queue.entries, ∀ (c : ChanId) (i : ChanInst), s.chan c = some i → i.key ≠ some e.key

/-- The fault table holds no two records of one key (R171, R173). -/
def State.FaultsDistinct (s : State) : Prop :=
  ∀ i j : Fin 16, ∀ a b : FaultRecord, s.faults.slots[i].record = some a → s.faults.slots[j].record = some b →
    a.kind = b.kind → a.subject = b.subject → a.simulated = b.simulated → i = j

/-! ### When a command takes effect -/

/-- The reset line is released: the node acts on its commands (R180). -/
def State.Awake (s : State) : Prop := s.startup.resetHeld = false

/-- A good frame of a kind reaches its owner: the receiver hears it and checks 2, 3 and 5 pass (R16 to R18). -/
structure State.Reaches (s : State) (k : FrameKind) (dst src : Byte) : Prop where
  awake : s.Awake
  heard : s.hears = true
  linked : s.onLink = true
  addressed : dst.toNat = 0 ∨ dst.toNat = s.cfg.nodeId
  foreign : src.toNat ≠ s.cfg.nodeId
  admitted : s.cfg.admits k src.toNat = true

/-- The state in which the owner of a good frame acts: the receiver empty, the framing-error count 0 and RX_GOOD counted (R4, R16, R17). -/
def State.taken (s : State) : State := s.goodFrame.count .rxGood

/-- A platform that no layout admits (R185). -/
def badPlatform (p : Nat) : Prop := p = 0 ∨ 40 < p

/-- A minute that is neither in the day nor absent (R184, R185). -/
def badMinute (m : Nat) : Prop := 1439 < m ∧ m ≠ 65535

/-- The payloads that check 6 ignores: of another length than the layout's, or with a field that the table of R185 names under *Ignore
when*. For CALL_HANDOVER the tests are those of R186. -/
def FrameKind.Ignores (k : FrameKind) (b : List Byte) : Prop :=
  match k with
  | .time => b.length ≠ 5 ∨ 86399 < u24 b 2
  | .callPost => b.length < 14 ∨ b.length ≠ 14 + 2 * u8 b 13 ∨ badPlatform (u8 b 2) ∨ 1 < u8 b 3 ∨ 1439 < u16 b 4 ∨ badMinute (u16 b 6)
    ∨ 16 < u8 b 13
  | .callAmend => b.length ≠ 4 ∨ badMinute (u16 b 2)
  | .callCancel => b.length ≠ 2
  | .callMove => b.length ≠ 3 ∨ badPlatform (u8 b 2)
  | .trainEvent => b.length ≠ 3 ∨ u8 b 2 = 0 ∨ 4 < u8 b 2
  | .callHandover => b.length < 36 ∨ b.length ≠ 36 + (3 * u8 b 7 + 1) / 2 ∨ badPlatform (u8 b 2) ∨ badPlatform (u8 b 3)
    ∨ u8 b 4 % 16 ∉ [0, 1, 2, 3, 7] ∨ (u8 b 4 < 128 ∧ u8 b 4 % 16 ∈ [2, 3]) ∨ 16 < u8 b 6 % 32 ∨ u8 b 6 % 32 < u8 b 7
    ∨ 1439 < (unrun12 9 (b.drop 8)).getD 0 4095 ∨ ∃ i ∈ [1, 4, 5, 6, 7, 8], 1439 < (unrun12 9 (b.drop 8)).getD i 4095
      ∧ (unrun12 9 (b.drop 8)).getD i 4095 ≠ 4095
  | .callAdopt => b.length ≠ 3 ∨ badPlatform (u8 b 2)
  | .callRefuse => b.length ≠ 4 ∨ badPlatform (u8 b 2)
  | .announce => b.length < 16 ∨ b.length ≠ 16 + u8 b 15 ∨ u8 b 1 ∉ [1, 3, 4] ∨ 2 < u8 b 4 ∨ u8 b 15 = 0
  | .announceStop => b.length ≠ 1
  | .liveOpen => b.length < 1 ∨ b.length ≠ 1 + u8 b 0 ∨ u8 b 0 = 0
  | .liveKeep | .liveClose | .evacStart | .evacStop | .testStep => b.length ≠ 0
  | .claim => b.length < 4 ∨ b.length ≠ 4 + u8 b 3 ∨ 4 < u8 b 1 ∨ u8 b 3 = 0 ∨ 8 < u8 b 3
  | .release => b.length ≠ 2
  | .faultAck => b.length ≠ 2 ∨ 15 < u8 b 0
  | .statusQuery => b.length ≠ 1
  | .announceResult | .faultReport | .nodeStatus => False

/-! ### Classes, dispatch and claims -/

/-- A class preempts another: it is 0, 1 or 2 and strictly lower (R99, R118). -/
def Preempts (a b : Nat) : Prop := a ≤ 2 ∧ a < b

/-- The nine tests of R97 to R99 pass for a waiting entry, with the channel and the zones that they give. -/
structure State.Passes (s : State) (e : Entry) (c : ChanId) (zs : ZoneSet) : Prop where
  due : e.notBefore ≤ s.now
  calm : s.evac.active = false
  phase : s.startup.phase = .run ∨ (s.startup.phase = .joining ∧ e.cls ≤ 2)
  power : s.battery = false ∨ e.cls ≠ 4
  effective : zs = e.mask.filter fun z => decide ((s.zone z).state ≠ .off) && !(s.zone z).ampFault
  some : zs ≠ []
  free : s.chan c = none ∧ (3 ≤ e.cls → c ≠ 0) ∧ ∀ d : ChanId, d < c → s.chan d = none → d = 0 ∧ 3 ≤ e.cls
  live : (∃ desk, e.key = .live desk) → s.liveInUse = false
  own : ∀ z ∈ zs, (s.zone z).state = .idle ∨ ((s.zone z).state = .test ∧ e.cls ≤ 2)
    ∨ ∃ d : ChanId, (s.zone z).state = .held d ∧ ∃ i, s.chan d = .some i ∧ Preempts e.cls i.cls
  near : ∀ z ∈ zs, ∀ n ∈ s.cfg.localNeighbours z, n ∈ zs
    ∨ ∀ d : ChanId, (s.zone n).state = .held d → ∀ i, s.chan d = .some i → Preempts e.cls i.cls
  far : ∀ z ∈ zs, ∀ g ∈ s.cfg.remoteNeighbours z, ∀ o, s.occupant g = .some o → Preempts e.cls o.cls

/-- A received CLAIM conflicts with the instance of a channel (R118): a zone of the CLAIM is a configured neighbour of a zone that the
channel holds, and not both claims are of class 0. -/
def State.Conflict (s : State) (x : ClaimFields) (c : ChanId) (cls : Nat) : Prop :=
  ¬(cls = 0 ∧ x.cls = 0) ∧ ∃ z : ZoneId, (s.zone z).state = .held c ∧ ∃ g ∈ (s.cfg.zones[z]).neighbours, g ∈ x.zones

/-- When an instance in CLAIMING or LEAD_IN withdraws before a conflicting CLAIM (the table of R119). -/
def YieldsEarly (x : ClaimFields) (src cls nodeId : Nat) : Prop :=
  if x.established then ¬Preempts cls x.cls else x.cls < cls ∨ (x.cls = cls ∧ src < nodeId)

/-- The transmit queue carries the CLAIM of a record, with the content of R108 and R185: in a frame that waits, or to follow the one on the
line (R13). -/
def State.Carries (s : State) (r : OwnClaim) : Prop :=
  ∃ f ∈ s.link.queue, f.kind = .claim ∧ f.tag = some r.tag ∧ f.dest = 0
    ∧ (if f.sending then f.successor else some f.payload)
      = some ([byte r.tag, byte r.cls, if r.established then 1#8 else 0#8, byte r.zones.length] ++ r.zones.map byte)

/-- The transmit queue has room, and its CLAIMs are addressed and ranked as R108 says. -/
structure State.ClaimsOpen (s : State) : Prop where
  linked : s.onLink = true
  room : s.link.queue.length < 8
  claims : ∀ g ∈ s.link.queue, g.kind = .claim → g.dest = 0 ∧ g.access ≤ 2

/-! ### Frames of the statements -/

/-- What announcing, claiming, reporting and walking the queue leave alone: the commands waiting, start-up and configuration, the clock,
the templates, evacuation, the occupancy table, the join timer, the port's owner, the contacts, the round deadline, the error budget, the
line monitor and the test step. -/
structure Undisturbed (s t : State) : Prop where
  pending : t.pending = s.pending
  startup : t.startup = s.startup
  clock : t.clock = s.clock
  store : t.store = s.store
  evac : t.evac = s.evac
  occupancy : t.claims.occupancy = s.claims.occupancy
  joinTimer : t.claims.joinTimer = s.claims.joinTimer
  handedOver : t.port.handedOver = s.port.handedOver
  contacts : t.sup.contacts = s.sup.contacts
  pins : t.sup.pins = s.sup.pins
  sampleAt : t.sup.sampleAt = s.sup.sampleAt
  roundAt : t.sup.scan.roundAt = s.sup.scan.roundAt
  budget : t.link.budget = s.link.budget
  monitor : t.link.monitor = s.link.monitor
  testStep : t.faults.testStep = s.faults.testStep

/-- Every call record but one is as it was (R32). -/
def OtherCallsKept (id : Nat) (s t : State) : Prop := ∀ j, j ≠ id → t.call j = s.call j

/-! ### Firings -/

/-- The state in which a firing of cue `n` of a call offers its entry, after what its notice withdrew (R59, R65, R66). The record of the
call is the one that the event leaves, but for its slots; of the entries, instances and continuation records only those of the call's other
cues may have been told to stop; the zones, levels and tag and number counters are as they were. -/
structure Withdrawn (s u t : State) (id : Nat) (n : CueName) : Prop where
  frame : Undisturbed s u
  others : OtherCallsKept id s u
  record : ∃ r r', u.call id = some r ∧ t.call id = some r' ∧ r = { r' with slots := r.slots }
  zones : u.zones = s.zones
  levels : u.levels = s.levels
  sup : u.sup = s.sup
  tag : u.queue.tagCounter = s.queue.tagCounter
  number : u.queue.seqCounter = s.queue.seqCounter
  dropped : ∀ e ∈ s.queue.entries, e ∈ u.queue.entries ∨ ∃ k, k ≠ n ∧ e.key = .cue id k
  kept : ∀ e ∈ u.queue.entries, e ∈ s.queue.entries
  free : ∀ c : ChanId, s.chan c = none → u.chan c = none
  playing : ∀ (c : ChanId) (i : ChanInst), s.chan c = some i → (∀ k, k ≠ n → i.key ≠ some (.cue id k)) →
    u.chan c = some i ∧ u.claimOf c = s.claimOf c ∧ u.cont c = s.cont c

/-- A firing of a cue offers the entry of R62 on the zones of R57 for some platforms to the queue as it stands in `u`, and the walk that
follows settles everything but the call table; where the queue has room the entry is in it before that walk, beside those of other keys. -/
def State.Fires (t u : State) (c : NodeConfig) (id : Nat) (n : CueName) (q : Cue) (platforms : List Nat) : Prop :=
  ∃ e : Entry, t = { u.offerEntry e with calls := t.calls }
    ∧ e.key = .cue id n ∧ e.boundCall = some id ∧ e.cls = q.cls ∧ e.template = some q.template ∧ e.params = []
    ∧ e.notBefore = u.now ∧ e.expiry = some (u.now + q.validity * 60000) ∧ e.repetition = .once ∧ e.attempts = 0
    ∧ (∀ z : ZoneId, z ∈ e.mask ↔ (c.zones[z]).present = true
      ∧ (z ∈ q.concourse ∨ q.platformZones = true
        ∧ ∃ k, (c.zones[z]).slot = some k ∧ c.platforms.toList.getD k 0 ≠ 0 ∧ c.platforms.toList.getD k 0 ∈ platforms))
    ∧ (u.queue.entries.length < 24 →
      ∃ (v : State) (f : Entry), u.offerEntry e = v.walk ∧ v = { u with queue := { v.queue with continuations := u.queue.continuations } }
        ∧ f ∈ v.queue.entries ∧ f = { e with tag := f.tag, seq := f.seq }
        ∧ ∀ g ∈ u.queue.entries, g.key ≠ .cue id n → g ∈ v.queue.entries)

/-- The next instant that a firing or a skipped repeat at a minute gives a slot (R64). -/
def nextInstant (q : Cue) (m : Nat) : Option Nat :=
  match q.repeatEvery with
  | some p => if m + p ≤ 1439 then some (m + p) else none
  | none => none

/-! ### Frames and faults of an event -/

/-- How many frames of a kind with a payload wait for destination 0 at access class 2, as the calls' frames do (R11). -/
def State.waitingFrames (s : State) (k : FrameKind) (payload : List Byte) : Nat :=
  (s.link.queue.filter fun f => decide (f.kind = k ∧ f.payload = payload ∧ f.dest = 0 ∧ f.access = 2 ∧ f.sending = false)).length

/-- An event queued one frame of a kind with a payload, to destination 0 at access class 2 (R40, R47, R51 to R53). -/
def State.Queued (s t : State) (k : FrameKind) (payload : List Byte) : Prop := t.waitingFrames k payload = s.waitingFrames k payload + 1

/-- An event minute as a block reads it (R44). -/
def State.readMinute (s : State) (e : EventMinute) : EventMinute :=
  match e, s.minuteNow with
  | .untimed stamp, some m => .minute (m - (s.now - stamp) / 60000)
  | e, _ => e

/-- The content of a CALL_HANDOVER of a record to a target, in a carried state (R47). -/
def State.handing (s : State) (r : CallRecord) (target : Nat) (state : CallState) : Handover :=
  { id := r.id, oldPlatform := r.platform, target := target, kind := r.kind, state := state, carriages := r.carriages, posted := r.posted,
    scheduled := r.scheduled, expected := r.expected, destination := r.destination, origin := r.origin,
    events := r.events.map fun e => match s.readMinute e with | .minute m => some m | _ => none,
    lastDelay := r.lastDelay, slots := r.slots, points := r.points }

/-- The fault table has an empty slot, which a new record takes without displacing another (R174). -/
def FaultTable.HasRoom (t : FaultTable) : Prop := ∃ i : Fin 16, (t.slots[i]).record = none

/-- The slot that a new record of a kind takes (R174): the lowest empty one, else that of the oldest CLEARED_UNACK record, else for a MAJOR
kind that of the oldest MINOR ACTIVE_ACK one; of equal ages the lower. -/
def FaultTable.Place (t : FaultTable) (k : FaultKind) (i : Fin 16) : Prop :=
  ((t.slots[i]).record = none ∧ ∀ j : Fin 16, (t.slots[j]).record = none → i ≤ j)
  ∨ (∀ j : Fin 16, (t.slots[j]).record ≠ none) ∧
    ((∃ v, (t.slots[i]).record = some v ∧ v.state = .clearedUnack
        ∧ ∀ (j : Fin 16) (w : FaultRecord), (t.slots[j]).record = some w → w.state = .clearedUnack →
          v.age < w.age ∨ (v.age = w.age ∧ i ≤ j))
      ∨ (k.isMajor = true ∧ (∀ (j : Fin 16) (w : FaultRecord), (t.slots[j]).record = some w → w.state ≠ .clearedUnack)
        ∧ ∃ v, (t.slots[i]).record = some v ∧ v.kind.isMajor = false ∧ v.state = .activeAck
          ∧ ∀ (j : Fin 16) (w : FaultRecord), (t.slots[j]).record = some w → w.kind.isMajor = false → w.state = .activeAck →
            v.age < w.age ∨ (v.age = w.age ∧ i ≤ j)))

/-- One slot of the fault table has taken a record, every other keeps its own, and the slot is marked for a report or, where the transmit
queue had room, its report has been offered (R176). -/
def State.Replaced (s t : State) (i : Fin 16) (r : FaultRecord) : Prop :=
  (t.faults.slots[i]).record = some r ∧ (∀ j : Fin 16, j ≠ i → (t.faults.slots[j]).record = (s.faults.slots[j]).record)
  ∧ (s.link.queue.length < 8 → (t.faults.slots[i]).reportPending = true
    ∨ ∃ f ∈ t.link.queue, f.kind = .faultReport ∧ f.dest = 0 ∧ f.payload = reportPayload i (some r) (s.faults.slots[i]).staleAck)

/-- What one raise of a real fault leaves, the time being that of `t` (R173, R174). The record of the key has one occurrence and one
generation more, is stamped, and is in the state that the kind's nature gives; a new one starts at one of each; where the table has neither
that record nor a place, FAULTS_DROPPED counts and every record is as it was. -/
def State.Raised (s t : State) (k : FaultKind) (subject : Option Nat) : Prop :=
  (∀ (i : Fin 16) (r : FaultRecord), s.faults.find k subject false = some i → (s.faults.slots[i]).record = some r →
    (t.faults.slots[i]).record = some
      { r with
        occurrences := min (r.occurrences + 1) 255, generation := (r.generation + 1) % 256, lastChange := t.stampNow, age := t.now,
        state := if k.isCondition then .activeUnack else .clearedUnack })
  ∧ (s.faults.find k subject false = none →
    (∃ i : Fin 16, (t.faults.slots[i]).record = some
      { kind := k, subject := subject, simulated := false, state := if k.isCondition then .activeUnack else .clearedUnack,
        firstSeen := t.stampNow, lastChange := t.stampNow, occurrences := 1, generation := 1, age := t.now })
    ∨ ((∀ i : Fin 16, (s.faults.slots[i]).record.isSome = true ∧ (t.faults.slots[i]).record = (s.faults.slots[i]).record)
      ∧ t.counters[(15 : Fin 16)] = min (s.counters[(15 : Fin 16)] + 1) 65535))

/-- What one clear of a real condition leaves, the time being that of `t` (R173): an active record is CLEARED_UNACK and stamped, one that is
cleared stays as it is. -/
def State.Cleared (s t : State) (k : FaultKind) (subject : Option Nat) : Prop :=
  ∀ (i : Fin 16) (r : FaultRecord), s.faults.find k subject false = some i → (s.faults.slots[i]).record = some r →
    (t.faults.slots[i]).record =
      if r.state = .clearedUnack then some r else some { r with state := .clearedUnack, lastChange := t.stampNow, age := t.now }

/-- A hand-over whose fields fit the layout of R186: bytes and words in range, twelve-bit codes, service minutes, a carried state that is
accepted for the kind, and slot bases that are not the value that marks an absent one. -/
structure Handover.Fits (h : Handover) : Prop where
  id : h.id < 65536
  oldPlatform : 1 ≤ h.oldPlatform ∧ h.oldPlatform ≤ 40
  target : 1 ≤ h.target ∧ h.target ≤ 40
  state : h.state ∈ [.planned, .approaching, .atPlatform, .closing, .cancelled]
  arrival : h.kind = .arrival → h.state ≠ .atPlatform ∧ h.state ≠ .closing
  carriages : ∀ n, h.carriages = some n → 1 ≤ n ∧ n ≤ 255
  posted : h.points.length ≤ h.posted ∧ h.posted ≤ 16
  points : ∀ p ∈ h.points, p < 4096
  scheduled : h.scheduled ≤ 1439
  expected : ∀ m, h.expected = some m → m ≤ 1439
  destination : h.destination < 4096
  origin : ∀ n, h.origin = some n → n < 4095
  events : ∀ (i : Fin 4) (m : Nat), h.events[i] = some m → m ≤ 1439
  lastDelay : ∀ m, h.lastDelay = some m → m ≤ 1439
  bases : ∀ (n : Fin 7) (b : Nat), (h.slots[n]).firedBase = some b → b < 4095

/-- The commands that may change the applied configuration: the resets and the read of the image (R181). -/
def setsConfig : Instr → Bool
  | .coldStart => true
  | .resetAssert => true
  | .resetRelease => true
  | .configImageRead _ => true
  | _ => false

/-- The commands that may change the node phase besides the resets (R124, R180, R181). -/
def setsPhase : Instr → Bool
  | .coldStart => true
  | .resetAssert => true
  | .resetRelease => true
  | .configImageRead _ => true
  | .enterJoining => true
  | .joinTimerExpiry => true
  | _ => false

end Sys2Proof.Machine
end

