-- ==== Sys2Proof/Certificates/Slice0/Obligations.lean ====
section
/-! DEFINITION. The statements for the provers: the machine as a whole, then block by block in the manual's order. Each says in its
docstring which rules it formalises. -/

open Sys2Proof Sys2Proof.Machine

/-! ### The machine as a whole -/

/-- A step takes the command at the front of the queue and runs it on the state with the rest. With none waiting (log entries 1, 32, 35 and
41), the command that is due runs; with none due a character time of 40 µs passes: the running count goes up by 1 with every 25th, the idle
run and the slot count by 1 each where the line is idle and QUIET, and the wait for an echo by 1 while a frame is on the line. While the
reset line is held nothing happens (R180). -/
def Obligations.StepRunsFront : Prop :=
  (∀ (s : State) (c : Instr) (rest : List Instr), s.pending = c :: rest → step s = exec c { s with pending := rest })
  ∧ (∀ s : State, s.pending = [] → s.startup.resetHeld = true → step s = .next s)
  ∧ (∀ (s : State) (c : Instr), s.pending = [] → s.Awake → s.due = some c → step s = exec c s)
  ∧ (∀ s : State, s.pending = [] → s.Awake → s.due = none → s.link.rxFrame = [] →
    ∃ t, step s = .next t ∧ t.clock.charPhase = (s.clock.charPhase + 1) % 25
      ∧ t.now = (if s.clock.charPhase % 25 = 24 then (s.now + 1) % 2 ^ 40 else s.now)
      ∧ (s.driverEnable = false → s.link.nonIdleRun = 0 → t.link.idleRun = s.link.idleRun + 1 ∧ t.link.nonIdleRun = 0)
      ∧ (s.driverEnable = true ∨ s.link.nonIdleRun ≠ 0 → t.link.idleRun = s.link.idleRun)
      ∧ (s.link.nonIdleRun ≠ 0 → t.link.nonIdleRun = s.link.nonIdleRun + 1)
      ∧ t.link.slotCount = (if s.link.monitor = .quiet then s.link.slotCount + 1 else s.link.slotCount)
      ∧ t.link.echoAge = (if s.driverEnable then s.link.echoAge + 1 else s.link.echoAge)
      ∧ t = { s with
          clock := { s.clock with charPhase := t.clock.charPhase, now := t.now },
          link := { s.link with
            idleRun := t.link.idleRun, nonIdleRun := t.link.nonIdleRun, slotCount := t.link.slotCount, echoAge := t.link.echoAge } })

/-- Every command answers a next state in every state, and leaves the queue of waiting commands alone. That it does so in every state is the
model's choice: a command whose event cannot occur changes nothing (log entry 3). -/
def Obligations.ExecCompletes : Prop :=
  ∀ (c : Instr) (s : State), ∃ t, exec c s = .next t ∧ t.pending = s.pending

/-- Start-up keeps its order: every step from a state in that order leads to one (R180, R181). What each phase holds before the
configuration is applied is log entry 34. -/
def Obligations.StepKeepsStartOrder : Prop :=
  ∀ s t : State, s.StartOrder → step s = .next t → t.StartOrder

/-- The applied configuration is fixed until the next reset (R181): no step but that of a reset command takes it away or changes it, the
step of an empty queue among them (log entry 1). -/
def Obligations.ConfigurationFixed : Prop :=
  ∀ s t : State, s.StartOrder → s.startup.config.isSome = true →
    (∀ c, s.pending.head? = some c → c ≠ .coldStart ∧ c ≠ .resetAssert ∧ c ≠ .resetRelease) →
    step s = .next t → t.startup.config = s.startup.config

/-- Every step keeps the transmit queue at 8 frames or fewer, empty in START and LIMITED, with at most one frame on the line (R7, R11,
R12). -/
def Obligations.StepKeepsTxQueue : Prop :=
  ∀ s t : State, s.TxQueueLegal → step s = .next t → t.TxQueueLegal

/-- Every step keeps every counter within sixteen bits (R178), and the keys of the fault table distinct and the test step in 0..7 (R173,
R177). -/
def Obligations.StepKeepsCounters : Prop :=
  (∀ s t : State, s.CountersFit → step s = .next t → t.CountersFit)
  ∧ (∀ s t : State, s.FaultsDistinct → s.TestStepLegal → step s = .next t → t.FaultsDistinct ∧ t.TestStepLegal)

/-- Every step keeps the call table at 48 records or fewer, one for a call id, with 256 calling-point cells (R32, R35), and the
announcement queue at 24 entries or fewer (R89, R92). -/
def Obligations.StepKeepsTables : Prop :=
  (∀ s t : State, s.CallsFit → step s = .next t → t.CallsFit)
  ∧ (∀ s t : State, s.EntriesFit → step s = .next t → t.EntriesFit)

/-- Every step keeps the owners of zones, channels, claims and keys in agreement. While evacuation is ACTIVE no channel but 0 holds a zone
(R154), a channel that holds one has an instance (R138), and an own claim record stands only with an instance before TAIL (R107). No two
waiting entries have one key, no two instances have, and no entry has the key of an instance (R90, R91). -/
def Obligations.StepKeepsOwners : Prop :=
  (∀ s t : State, s.StartOrder → s.OwnersAgree → step s = .next t → t.OwnersAgree)
  ∧ (∀ s t : State, s.KeysApart → step s = .next t → t.KeysApart)

/-! ### Start-up and resets -/

/-- A cold start puts every block in its cold-start state (R183): START, the line unknown, no time, empty tables and queues, four FREE
channels, no evacuation, no fault record and every counter at 0. That state, with no command waiting, is State.reset, and it meets every
invariant that a step keeps. -/
def Obligations.ColdStartLeaves : Prop :=
  (∀ s : State, ∃ t, exec .coldStart s = .next t ∧ t.pending = s.pending ∧ t = { State.reset with pending := s.pending }
    ∧ t.startup = { phase := .start, step := .readConfig, resetHeld := false, config := none }
    ∧ t.link.monitor = .unknown ∧ t.link.queue = [] ∧ t.link.seqCounter = 0 ∧ t.link.idleRun = 0 ∧ t.link.framingErrors = 0
    ∧ t.clock.now = 0 ∧ t.clock.timeState = .unset ∧ t.calls = [] ∧ t.store.valid = false
    ∧ t.queue.entries = [] ∧ t.queue.tagCounter = 0 ∧ t.queue.seqCounter = 0
    ∧ (∀ c : ChanId, t.chan c = none ∧ t.claimOf c = none ∧ t.cont c = none)
    ∧ t.claims.occupancy = [] ∧ t.claims.joinTimer = none ∧ t.port = { handedOver := false, transaction := none }
    ∧ (∀ z : ZoneId, (t.zone z).state = .idle ∧ (t.zone z).lineStatus = .untested ∧ (t.zone z).ampFault = false ∧ t.ampEnable z = false
      ∧ (t.level z).sensorFault = .none ∧ (t.level z).highRun = 0 ∧ (t.level z).silentRun = 0 ∧ (t.level z).goodRun = 0
      ∧ (t.sup.lines[z]).skips = 0)
    ∧ t.evac.active = false ∧ (∀ c : ContactId, (t.sup.contacts[c]).level = .unknown) ∧ t.sup.scan.inRound = false
    ∧ (∀ i : Fin 16, t.faults.slots[i] = FaultSlot.empty ∧ t.counters[i] = 0) ∧ t.faults.testStep = 0)
  ∧ State.reset.StartOrder ∧ State.reset.TxQueueLegal ∧ State.reset.CountersFit ∧ State.reset.EntriesFit ∧ State.reset.CallsFit
  ∧ State.reset.FaultsDistinct ∧ State.reset.TestStepLegal ∧ State.reset.OwnersAgree ∧ State.reset.KeysApart

/-- A warm reset differs from a cold start in this (R183): the counters and the real fault records are kept, simulated records are freed,
and the report marks are cleared. Asserting the line holds the node; releasing it lets START begin, and while the line is held only the
resets act (R180). That the assertion brings the warm state at once and the release brings it again is log entry 5. -/
def Obligations.WarmResetKeeps : Prop :=
  (∀ s : State, ∃ t u : State, exec .resetAssert s = .next t ∧ exec .resetRelease s = .next u
    ∧ t = { u with startup := { u.startup with resetHeld := true } }
    ∧ u = { State.reset with pending := s.pending, counters := s.counters, faults := u.faults }
    ∧ u.faults.testStep = 0
    ∧ ∀ i : Fin 16, (u.faults.slots[i]).reportPending = false ∧ (u.faults.slots[i]).staleAck = false
      ∧ ∀ r : FaultRecord, (u.faults.slots[i]).record = some r ↔ ((s.faults.slots[i]).record = some r ∧ r.simulated = false))
  ∧ (∀ (c : Instr) (s : State), s.startup.resetHeld = true → c ≠ .coldStart → c ≠ .resetAssert → c ≠ .resetRelease → exec c s = .next s)

/-- The read of the configuration image in START (R181). One that fails the structural check puts the node in LIMITED, with no configuration
and the memory port idle; only the contacts begin to be sampled, every 20 ms (R160), the first 20 ms on (log entry 62). A sound one is
applied whole: every zone is present or OFF as configured and starts from its default ambient (log entry 11), each remote neighbour zone has
an empty occupancy slot, and START goes on to the phrase header. A clamped field raises CONFIG_CLAMPED: its record counts one occurrence
more for the image (R173, log entry 10), or FAULTS_DROPPED counts where the table has no room (R174). -/
def Obligations.ConfigurationImageRead : Prop :=
  (∀ (image : List Byte) (s : State), s.Awake → s.StartOrder → s.inStep .readConfig = true → readImage image = none →
    ∃ t, exec (.configImageRead image) s = .next t ∧ t.startup.phase = .limited ∧ t.startup.config = none ∧ t.port.handedOver = false
      ∧ t.sup.sampleAt = some (s.now + 20)
      ∧ t = { s with startup := { s.startup with phase := .limited, step := .ended }, sup := { s.sup with sampleAt := t.sup.sampleAt } })
  ∧ (∀ (image : List Byte) (s : State) (c : NodeConfig) (wasClamped : Bool), s.Awake → s.inStep .readConfig = true →
    readImage image = some (c, wasClamped) →
    ∃ t, exec (.configImageRead image) s = .next t
      ∧ t.claims.occupancy = c.remoteZones.map (fun g => { zone := g, occupant := none })
      ∧ (∀ z : ZoneId, t.zone z = { s.zone z with
            present := (c.zones[z]).present, state := if (c.zones[z]).present then .idle else .off }
          ∧ t.level z = { s.level z with ambient := (c.zones[z]).defaultAmbient, lastUpdate := s.now })
      ∧ (wasClamped = false → t.faults = s.faults ∧ t.counters = s.counters)
      ∧ (wasClamped = true → s.Raised t .configClamped none ∧ ((t.faults.find .configClamped none false).isSome = true
        ∨ (t.faults = s.faults ∧ t.counters = (s.count .faultsDropped).counters)))
      ∧ t = { s with
          startup := { s.startup with config := some c, step := .readHeader },
          claims := { s.claims with occupancy := t.claims.occupancy }, zones := t.zones, levels := t.levels, faults := t.faults,
          counters := t.counters })

/-- Every item of an applied configuration is in its range (R56, R181): the structural bounds, the clamped fields, and the cues of both
plans, whose windows name no MOVING, MOVED or MOVE_FAILED. -/
def Obligations.AppliedConfigurationInRange : Prop :=
  ∀ (image : List Byte) (c : NodeConfig) (wasClamped : Bool), readImage image = some (c, wasClamped) →
    (1 ≤ c.nodeId ∧ c.nodeId ≤ 31) ∧ (∀ p ∈ c.platforms.toList, p ≤ 40) ∧ c.remoteZones.length ≤ 32
      ∧ c.h0 ≤ 23 ∧ c.samplePeriod ∈ [5, 20, 80] ∧ c.gateLength ∈ [100, 200, 400] ∧ (60 ≤ c.staleLimit ∧ c.staleLimit ≤ 3600)
      ∧ c.lateLimit ≤ 15 ∧ (1 ≤ c.delayThreshold ∧ c.delayThreshold ≤ 60) ∧ (1 ≤ c.rearmThreshold ∧ c.rearmThreshold ≤ 30)
      ∧ (1 ≤ c.linger ∧ c.linger ≤ 30) ∧ (∀ m ∈ c.margin.toList, m ≤ 80) ∧ c.batteryCut ≤ 280 ∧ c.groupSize ∈ [1, 2, 4, 8]
      ∧ (1 ≤ c.roundPeriod ∧ c.roundPeriod ≤ 60) ∧ (1 ≤ c.errorBudget ∧ c.errorBudget ≤ 255) ∧ c.ampWake ≤ 500
      ∧ c.evacTemplate ≤ 255 ∧ (∀ h ∈ c.chimes.toList, h ≤ 4095)
      ∧ (∀ z : ZoneId, (c.zones[z]).neighbours.length ≤ 4 ∧ (∀ g ∈ (c.zones[z]).neighbours, 8 ≤ g ∧ g ≤ 255)
        ∧ (∀ k, (c.zones[z]).slot = some k → k ≤ 3 ∧ 1 ≤ c.platforms.toList.getD k 0)
        ∧ 200 ≤ (c.zones[z]).zoneMin ∧ (c.zones[z]).zoneMin ≤ (c.zones[z]).zoneMax ∧ (c.zones[z]).zoneMax ≤ 480
        ∧ 240 ≤ (c.zones[z]).zoneFull ∧ (c.zones[z]).zoneFull ≤ 520
        ∧ 120 ≤ (c.zones[z]).defaultAmbient ∧ (c.zones[z]).defaultAmbient ≤ 520
        ∧ (c.zones[z]).lo ≤ (c.zones[z]).hi ∧ (c.zones[z]).hi ≤ 4095)
      ∧ ∀ n : Fin 7, ∀ q ∈ [c.arrivalPlan[n], c.departurePlan[n]],
        q.cls ∈ [1, 3, 4] ∧ (1 ≤ q.validity ∧ q.validity ≤ 30) ∧ q.template ≤ 255
          ∧ (∀ p, q.repeatEvery = some p → 1 ≤ p ∧ p ≤ 30)
          ∧ (∀ o, q.trigger = .beforeTime o → o ≤ 120) ∧ (∀ e o, q.trigger = .afterEvent e o → o ≤ 120)
          ∧ CallState.moving ∉ q.window ∧ CallState.moved ∉ q.window ∧ CallState.moveFailed ∉ q.window

/-- The reads of the phrase image in START (R75, R182). A valid header sends START on to the template store and leaves no
PHRASE_STORE_INVALID condition active; an invalid one leaves the store empty, raises it, or counts FAULTS_DROPPED where the table has no
room (R174), and hands the memory port over. The read of the store makes it valid: template t is what the 97 bytes at 97 t spell, and the
memory port passes to the arbiter (R180). The command that carries the header carries the bytes of the store too (log entry 12). -/
def Obligations.PhraseImageRead : Prop :=
  (∀ (header store : List Byte) (s : State), s.Awake → s.inStep .readHeader = true →
    ∃ t, exec (.phraseHeaderRead header store) s = .next t ∧ t.store = s.store
      ∧ (headerValid header store = true →
        t.inStep .readTemplates = true ∧ t.port = s.port ∧ s.Cleared t .phraseStoreInvalid none ∧ t.faults.hasActive .phraseStoreInvalid none = false)
      ∧ (headerValid header store = false →
        t.inStep .waitLine = true ∧ t.port.handedOver = true ∧ s.Raised t .phraseStoreInvalid none
          ∧ (t.faults.hasActive .phraseStoreInvalid none = true
            ∨ (t.faults = s.faults ∧ t.counters = (s.count .faultsDropped).counters)))
      ∧ t = { s with startup := t.startup, port := t.port, faults := t.faults, counters := t.counters })
  ∧ (∀ (store : List Byte) (s : State), s.Awake → s.inStep .readTemplates = true →
    ∃ t, exec (.templateStoreRead store) s = .next t ∧ t.store.valid = true
      ∧ (∀ k : Nat, k ≤ 63 → t.store.template k = readTemplate store k) ∧ (∀ k : Nat, 63 < k → t.store.template k = none)
      ∧ t.inStep .waitLine = true ∧ t.port.handedOver = true
      ∧ t = { s with startup := t.startup, store := t.store, port := { s.port with handedOver := true } })

/-- START ends once the line monitor has left UNKNOWN, and not before (R180): the error budget is loaded (R19), the join timer runs for 10 s
(R124), sampling begins (R161), the first sample a sample period on (log entry 62), and, the announcement queue being empty, ambients stand
at their defaults (log entry 11) and stale sensor and line conditions are cleared (R141, R166). At the join timer's expiry (R124) the node
enters RUN, the timer stops, the round deadline is at once (R164), and NODE_STATUS with the joining flag is queued (R179). The clock at an
expiry is log entry 2, the order of these effects log entry 13. -/
def Obligations.JoiningEntered : Prop :=
  (∀ s : State, s.Awake → s.inStep .waitLine = true → s.link.monitor ≠ .unknown →
    ∃ t, exec .enterJoining s = .next t ∧ t.startup = { s.startup with phase := .joining, step := .ended }
      ∧ t.link.budget = some s.cfg.errorBudget ∧ t.claims.joinTimer = some (s.now + 10000)
      ∧ t.sup.sampleAt = some (s.now + s.cfg.samplePeriod)
      ∧ (s.queue.entries = [] → ∀ z : ZoneId, (t.level z).ambient = (s.cfg.zones[z]).defaultAmbient
        ∧ ∀ k ∈ [FaultKind.sensorHigh, .sensorSilent, .lineShort, .lineOpen, .lineUntested], t.faults.hasActive k (some z.val) = false)
      ∧ t.clock = s.clock ∧ t.calls = s.calls ∧ t.store = s.store ∧ t.evac = s.evac ∧ t.link.monitor = s.link.monitor)
  ∧ (∀ s : State, s.link.monitor = .unknown → exec .enterJoining s = .next s)
  ∧ (∀ (s : State) (d : Nat), s.Awake → s.startup.phase = .joining → s.claims.joinTimer = some d →
    ∃ t, exec .joinTimerExpiry s = .next t ∧ t.startup = { s.startup with phase := .run } ∧ t.claims.joinTimer = none
      ∧ t.clock = { s.clock with now := max s.now d % 2 ^ 40 } ∧ t.sup.scan.roundAt = some (max s.now d % 2 ^ 40)
      ∧ t.calls = s.calls ∧ t.store = s.store ∧ t.evac = s.evac ∧ t.claims.occupancy = s.claims.occupancy
      ∧ t.sup.contacts = s.sup.contacts ∧ t.link.budget = s.link.budget ∧ t.link.monitor = s.link.monitor
      ∧ (s.queue.entries = [] → s.link.queue.length < 7 →
        ∃ f ∈ t.link.queue, f.kind = .nodeStatus ∧ f.dest = 0 ∧ (u8 f.payload 0).testBit 6 = true))

/-! ### The Concourse Link -/

/-- The line in the receiver (R1 to R6). A character of another station without a framing error ends the idle run, takes the monitor out
of QUIET, and is the first of a frame after QUIET or an idle run of 3, else the next; one of a discard span forms no frame. A framing
error short of the fourth marks the frame and adds one to the count; a character of zeros with no stop bit begins a non-idle run (log
entries 22 and 41). Idle line brings QUIET: 40 character times from UNKNOWN, 4 from ACTIVE, 100 from DISTURBED. Slots are then counted
from 0, the receiver is empty, and from UNKNOWN and DISTURBED no LINK_DISTURBED condition stays active. A discard span ends at an idle run
of 3: the receiver, empty, listens again. -/
def Obligations.CharacterReceived : Prop :=
  (∀ (b : Byte) (s : State), s.Awake → s.driverEnable = false → s.link.rxFrame = [] ∨ s.link.idleRun < 3 →
    exec (.characterReceived b false) s = .next
      { s with
        link :=
          { s.link with
            monitor := if s.link.monitor = .quiet then .active else s.link.monitor, idleRun := 0, nonIdleRun := 0,
            rxFrame :=
              if s.link.discarding = true then []
              else if s.link.monitor = .quiet ∨ 3 ≤ s.link.idleRun then [b] else s.link.rxFrame ++ [b],
            rxFaulty :=
              if s.link.discarding = true ∨ s.link.monitor = .quiet ∨ 3 ≤ s.link.idleRun then false else s.link.rxFaulty } }
    ∧ (s.link.discarding = false → s.link.framingErrors < 3 →
      ∃ t, exec (.characterReceived b true) s = .next t ∧ t.link.framingErrors = s.link.framingErrors + 1 ∧ t.link.rxFaulty = true
        ∧ t.link.rxFrame = (if s.link.monitor = .quiet ∨ 3 ≤ s.link.idleRun then [b] else s.link.rxFrame ++ [b])
        ∧ t.link.idleRun = 0 ∧ t.link.monitor = (if s.link.monitor = .quiet then .active else s.link.monitor)
        ∧ t.link.nonIdleRun = (if b = 0#8 then max s.link.nonIdleRun 1 else 0)
        ∧ t = { s with link := { s.link with
            framingErrors := t.link.framingErrors, rxFaulty := true, rxFrame := t.link.rxFrame, idleRun := 0,
            monitor := t.link.monitor, nonIdleRun := t.link.nonIdleRun } }))
  ∧ (∀ s : State, s.Awake →
    (s.link.monitor = .unknown → ∃ t, exec .unknownIdleLimit s = .next t ∧ t.link.monitor = .quiet ∧ t.link.slotCount = 0
      ∧ t.link.rxFrame = [] ∧ 40 ≤ t.link.idleRun ∧ t.link.budget = s.link.budget ∧ t.faults.hasActive .linkDisturbed none = false
      ∧ s.Cleared t .linkDisturbed none
      ∧ t = { s with link := t.link, faults := t.faults, counters := t.counters })
    ∧ (s.link.monitor = .active → s.sendingFrame = none → s.link.rxFrame = [] → ∃ t, exec .lineQuiet s = .next t
      ∧ t.link.monitor = .quiet ∧ t.link.slotCount = 0 ∧ t.link.rxFrame = [] ∧ 4 ≤ t.link.idleRun ∧ t.link.budget = s.link.budget
      ∧ t.link.queue = s.link.queue ∧ t.link.framingErrors = s.link.framingErrors ∧ t.link.seqCounter = s.link.seqCounter
      ∧ t = { s with link := t.link })
    ∧ (s.link.monitor = .disturbed → s.link.rxFrame = [] → ∃ t, exec .disturbanceEnd s = .next t ∧ t.link.monitor = .quiet
      ∧ t.link.slotCount = 0 ∧ t.link.rxFrame = [] ∧ 100 ≤ t.link.idleRun ∧ t.link.budget = s.link.budget ∧ t.link.disturbTimer = none
      ∧ t.faults.hasActive .linkDisturbed none = false ∧ s.Cleared t .linkDisturbed none
      ∧ t = { s with link := t.link, faults := t.faults, counters := t.counters }))
  ∧ (∀ s : State, s.Awake → s.link.discarding = true →
    exec .discardSpanEnd s = .next
      { s with link := { s.link with
          discarding := false, rxFrame := [], rxFaulty := false, idleRun := max s.link.idleRun 3, nonIdleRun := 0 } })

/-- The fourth framing error with no good frame between enters DISTURBED, and so does a non-idle run of 20 (R1, R4): the disturbance timer
runs for 2 s, the frame being assembled is abandoned uncounted (log entry 40), the idle run is 0, and the entry takes one from the error
budget, which at its last is reloaded with LINK_ERRORS raised (R19). After 2 s LINK_DISTURBED is raised, or FAULTS_DROPPED counted where the
table has no room (R5, R174). The clock at that expiry is log entry 2. That at a run of 20 its command is what is due, whatever else is due,
is log entry 35, and that the command takes the run to 20 whatever was measured log entry 41. -/
def Obligations.DisturbedEntered : Prop :=
  (∀ (b : Byte) (s : State), s.Awake → s.link.monitor ≠ .disturbed →
    (s.link.framingErrors = 3 → s.driverEnable = false → s.link.discarding = false → s.link.rxFrame = [] ∨ s.link.idleRun < 3 →
      ∃ t, exec (.characterReceived b true) s = .next t ∧ t.link.monitor = .disturbed
        ∧ t.link.disturbTimer = some (s.now + 2000) ∧ t.link.rxFrame = [] ∧ t.link.idleRun = 0 ∧ t.link.framingErrors = 0
        ∧ t.counters[(1 : Fin 16)] = s.counters[(1 : Fin 16)]
        ∧ (∀ n, s.link.budget = some n →
          (1 < n → t.link.budget = some (n - 1) ∧ ∀ i : Fin 16, (t.faults.slots[i]).record = (s.faults.slots[i]).record)
          ∧ (n ≤ 1 → t.link.budget = some s.cfg.errorBudget ∧ s.Raised t .linkErrors none))
        ∧ t = { s with link := t.link, faults := t.faults, counters := t.counters })
    ∧ ∃ t, exec .nonIdleRunLimit s = .next t ∧ t.link.monitor = .disturbed ∧ t.link.disturbTimer = some (s.now + 2000)
        ∧ t.link.rxFrame = [] ∧ t.link.idleRun = 0 ∧ 20 ≤ t.link.nonIdleRun ∧ (s.TxQueueLegal → t.driverEnable = false)
        ∧ (∀ n, s.link.budget = some n →
          (1 < n → t.link.budget = some (n - 1) ∧ ∀ i : Fin 16, (t.faults.slots[i]).record = (s.faults.slots[i]).record)
          ∧ (n ≤ 1 → t.link.budget = some s.cfg.errorBudget ∧ s.Raised t .linkErrors none))
        ∧ t = { s with link := t.link, faults := t.faults, counters := t.counters })
  ∧ (∀ s : State, s.link.monitor ≠ .disturbed → 20 ≤ s.link.nonIdleRun → s.due = some .nonIdleRunLimit)
  ∧ (∀ (s : State) (d : Nat), s.Awake → s.link.monitor = .disturbed → s.link.disturbTimer = some d →
    ∃ t, exec .disturbanceTimerExpiry s = .next t ∧ t.link.disturbTimer = none ∧ t.link.monitor = .disturbed
      ∧ t.clock = { s.clock with now := max s.now d % 2 ^ 40 }
      ∧ s.Raised t .linkDisturbed none
      ∧ (t.faults.hasActive .linkDisturbed none = true ∨ t.counters = (s.count .faultsDropped).counters)
      ∧ t = { s with clock := t.clock, link := t.link, faults := t.faults, counters := t.counters })

/-- In QUIET, in JOINING or RUN, with nothing on the line, the head frame goes on the line when its slot is reached, and the line is
ACTIVE (R7): DE is asserted for that frame and the other frames wait as they were (log entry 32). The slot lies from four times the access
class to that plus 3 on a first attempt, and at most 15 more on a retry, never above 30 for the four classes. -/
def Obligations.HeadFrameSent : Prop :=
  (∀ (s : State) (f : TxFrame) (rest : List TxFrame), s.Awake → s.link.monitor = .quiet → s.onLink = true → s.driverEnable = false →
    s.link.queue = f :: rest →
    ∃ t, exec .slotReached s = .next t ∧ t.link.queue = { f with sending := true } :: rest ∧ t.sendingFrame = some { f with sending := true }
      ∧ t.link.monitor = .active ∧ t.driverEnable = true ∧ t.link.idleRun = 0 ∧ frameSlot s.cfg.nodeId f ≤ t.link.slotCount
      ∧ t = { s with link := { s.link with
          monitor := .active, idleRun := 0, slotCount := t.link.slotCount, rxFrame := [], rxFaulty := false, echoed := 0, echoAge := 0,
          queue := t.link.queue } })
  ∧ (∀ (nodeId : Nat) (f : TxFrame),
    4 * f.access ≤ frameSlot nodeId f ∧ frameSlot nodeId f ≤ 4 * f.access + 18 ∧ (f.retry = 0 → frameSlot nodeId f ≤ 4 * f.access + 3)
      ∧ (frameSlot nodeId f ≤ frameSlot nodeId { f with retry := 0 } + 15) ∧ (f.access ≤ 3 → frameSlot nodeId f ≤ 30))

/-- A collision of a frame that R14 has not marked (R9, R10, R13): transmission stops, TX_COLLISIONS counts and a discard span begins. Below
retry count 8 the frame waits again with its count one up, carrying its successor's content if it has one; at 8 it is dropped. An echo that
is not the character sent, or has a framing error, and no echo within a character time are such a collision (R9, log entry 32). That a
character of zeros with a framing error begins a non-idle run, and another ends one, is log entry 41; that the missing echo is what is due,
whatever but a non-idle run of 20 is due with it, log entry 35. The frame that waits again is said to be in the queue, its place there is
not spoken of; the queue at a drop and, where the queue is full, the frame that waits again are stated for a fault table with no report to
offer. A frame that R14 has marked has its collision in the statement on the frames offered. -/
def Obligations.CollisionRetriesOrDrops : Prop :=
  (∀ (s : State) (g : TxFrame), s.Awake → s.TxQueueLegal → s.sendingFrame = some g → g.released = false →
    ∃ t, exec .echoMismatch s = .next t ∧ t.driverEnable = false ∧ t.link.discarding = true
      ∧ t.counters[(5 : Fin 16)] = min (s.counters[(5 : Fin 16)] + 1) 65535
      ∧ (g.retry < 8 → s.link.queue.length < 8 ∨ s.faults.firstMarked = none →
        { g with sending := false, retry := g.retry + 1, payload := g.successor.getD g.payload, successor := none } ∈ t.link.queue)
      ∧ (8 ≤ g.retry → s.faults.firstMarked = none →
        t.link.queue = s.link.queue.filter (fun h => !h.sending)
          ∧ t.counters[(6 : Fin 16)] = min (s.counters[(6 : Fin 16)] + 1) 65535)
      ∧ t = { s with link := t.link, faults := t.faults, counters := t.counters })
  ∧ (∀ (s : State) (g : TxFrame) (b : Byte) (framingError : Bool), s.Awake → s.sendingFrame = some g →
    framingError = true
        ∨ (frameBytes (byte g.dest) (byte s.cfg.nodeId) (byte g.kind.code) g.payload)[s.link.echoed]? ≠ some b →
    exec (.characterReceived b framingError) s =
      exec .echoMismatch
        { s with link := { s.link with
            idleRun := 0, nonIdleRun := if framingError = true ∧ b = 0#8 then max s.link.nonIdleRun 1 else 0 } })
  ∧ (∀ (s : State) (g : TxFrame), s.sendingFrame = some g → 2 ≤ s.link.echoAge → s.link.nonIdleRun < 20 → s.due = some .echoMismatch)

/-- A transmission completes (R9): the frame leaves the queue, TX_SENT counts and DE is released. When it is the CLAIM of an instance in
CLAIMING (R110, R127), its channel enters LEAD_IN with its wake end, its listen window of 300 ms and the gain codes of its zones, its send
deadline is removed, and a successor held for the CLAIM takes its place in the queue (R13). The echo of each character but the last moves
the transmission on by one, and that of the last completes it (log entry 32; that a character with a stop bit ends a non-idle run is log
entry 41). -/
def Obligations.TransmissionCompletes : Prop :=
  (∀ (s : State) (g : TxFrame), s.Awake → s.TxQueueLegal → s.sendingFrame = some g → g.kind ≠ .claim → g.successor = none →
    ∃ t, exec .transmissionComplete s = .next t ∧ t.driverEnable = false
      ∧ t.counters[(4 : Fin 16)] = min (s.counters[(4 : Fin 16)] + 1) 65535
      ∧ (∀ h ∈ s.link.queue, h.sending = false → h ∈ t.link.queue)
      ∧ (s.faults.firstMarked = none → t.link.queue = s.link.queue.filter (fun h => !h.sending))
      ∧ t = { s with link := t.link, faults := t.faults, counters := t.counters })
  ∧ (∀ (s : State) (g : TxFrame) (c : ChanId) (r : OwnClaim) (i : ChanInst), s.Awake → s.sendingFrame = some g → g.kind = .claim →
    s.claimWithTag g.tag = some c → s.claimOf c = some r → s.chan c = some i → i.state = .claiming →
    ∃ t, exec .transmissionComplete s = .next t
      ∧ t.claimOf c = some { r with transmitted := true, sendDeadline := none }
      ∧ t.chan c = some
          { i with
            state := .leadIn, stage := .wake, gains := (s.heldBy c).map (fun z => (z, s.gainFor z i.cls)),
            defaultLevel := s.defaultFlag (s.heldBy c) i.cls, levelLimited := s.limitedFlag (s.heldBy c) i.cls,
            wakeEnd := some (s.now + s.cfg.ampWake), listenEnd := some (s.now + 300) }
      ∧ (∀ z : ZoneId, t.zone z =
          if z ∈ s.heldBy c then { s.zone z with gain := some (s.gainFor z i.cls) } else s.zone z)
      ∧ (∀ p, g.successor = some p → s.TxQueueLegal → g.access ≤ 2 →
        ∃ h ∈ t.link.queue, h.tag = g.tag ∧ h.payload = p ∧ h.sending = false ∧ h.retry = 0 ∧ h.firstMark = false)
      ∧ (∀ d : ChanId, d ≠ c → t.chan d = s.chan d ∧ t.claimOf d = s.claimOf d)
      ∧ t = { s with
          link := t.link, claims := { s.claims with own := t.claims.own }, chans := t.chans, zones := t.zones, faults := t.faults,
          counters := t.counters })
  ∧ (∀ (s : State) (g : TxFrame) (b : Byte), s.Awake → s.sendingFrame = some g →
    (frameBytes (byte g.dest) (byte s.cfg.nodeId) (byte g.kind.code) g.payload)[s.link.echoed]? = some b →
    (s.link.echoed + 1 = g.payload.length + 6 → exec (.characterReceived b false) s = exec .transmissionComplete s)
    ∧ (s.link.echoed + 1 < g.payload.length + 6 → exec (.characterReceived b false) s = .next
      { s with link := { s.link with
          idleRun := 0, nonIdleRun := 0, echoed := s.link.echoed + 1, echoAge := s.link.echoAge - 1 } }))

/-- A frame offered to the transmit queue in JOINING and RUN (R11 to R15). It joins behind every frame of its access class or a lower one
and before the others, with the next sequence number. A full queue evicts its oldest waiting frame of class 3 for it, or drops it where
there is none; TX_DROPPED counts. A CLAIM of a tag that has one gives it its content, at once or as the successor of the one on the line.
A RELEASE takes the waiting CLAIM of its tag away, and joins unless that CLAIM bore the first mark; with the CLAIM on the line it joins
and the CLAIM is marked, so that a collision then takes the CLAIM out of the queue, with the RELEASE if it bore the first mark. A waiting
EVAC_START takes the content of the next. In START and LIMITED the frame is discarded. -/
def Obligations.FramesOffered : Prop :=
  (∀ (s : State) (f : TxFrame), s.onLink = false → s.txOffer f = s)
  ∧ (∀ (s : State) (f : TxFrame), s.onLink = true →
    (f.kind = .claim → ∀ g ∈ s.link.queue, g.kind = .claim → g.tag ≠ f.tag) →
    (f.kind = .release → ∀ g ∈ s.link.queue, g.kind = .claim → g.tag ≠ f.tag) →
    (f.kind = .evacStart → ∀ g ∈ s.link.queue, g.kind = .evacStart → g.sending = true) →
    (s.link.queue.length < 8 →
      ∃ before after : List TxFrame, s.link.queue = before ++ after ∧ (∀ g ∈ before, g.access ≤ f.access)
        ∧ (∀ g, after.head? = some g → f.access < g.access)
        ∧ s.txOffer f = { s with link := { s.link with
            queue := before ++ { f with seq := s.link.seqCounter } :: after, seqCounter := (s.link.seqCounter + 1) % 2 ^ 32 } })
    ∧ (8 ≤ s.link.queue.length →
      (s.txOffer f).counters = (s.count .txDropped).counters
      ∧ ((∀ g ∈ s.link.queue, g.access = 3 → g.sending = true) → (s.txOffer f).link = s.link)
      ∧ ∀ (before after : List TxFrame) (v : TxFrame), s.link.queue = before ++ v :: after → v.access = 3 → v.sending = false →
        (∀ g ∈ before, g.access = 3 → g.sending = true) →
        { f with seq := s.link.seqCounter } ∈ (s.txOffer f).link.queue
          ∧ (s.txOffer f).link.queue.length = s.link.queue.length ∧ ∀ g ∈ before ++ after, g ∈ (s.txOffer f).link.queue))
  ∧ (∀ (s : State) (f g : TxFrame) (before after : List TxFrame), s.onLink = true → s.link.queue = before ++ g :: after →
    (∀ h ∈ before ++ after, h.kind = .claim → h.tag ≠ f.tag) → g.kind = .claim → g.tag = f.tag →
    (f.kind = .claim →
      s.txOffer f = { s with link := { s.link with queue := before
        ++ (if g.sending then { g with successor := some f.payload } else { g with payload := f.payload }) :: after } })
    ∧ (f.kind = .release →
      (g.sending = false → g.firstMark = true → s.txOffer f = { s with link := { s.link with queue := before ++ after } })
      ∧ (g.sending = false → g.firstMark = false → s.link.queue.length ≤ 8 →
        { f with seq := s.link.seqCounter } ∈ (s.txOffer f).link.queue ∧ (s.txOffer f).link.queue.length = s.link.queue.length
          ∧ ∀ h ∈ (s.txOffer f).link.queue, h.kind = .claim → h.tag ≠ f.tag)
      ∧ (g.sending = true → s.link.queue.length < 8 →
        { f with seq := s.link.seqCounter } ∈ (s.txOffer f).link.queue
          ∧ { g with successor := none, released := true } ∈ (s.txOffer f).link.queue)))
  ∧ (∀ (s : State) (f g : TxFrame) (before after : List TxFrame), s.onLink = true → s.link.queue = before ++ g :: after →
    (∀ h ∈ before ++ after, h.kind = .evacStart → h.sending = true) → g.kind = .evacStart → g.sending = false → f.kind = .evacStart →
    s.txOffer f = { s with link := { s.link with queue := before ++ { g with payload := f.payload } :: after } })
  ∧ (∀ (s : State) (g r : TxFrame), s.Awake → s.sendingFrame = some g → g.released = true → s.faults.firstMarked = none →
    (s.link.queue.filter TxFrame.sending).length = 1 → r ∈ s.link.queue → r.kind = .release → r.tag = g.tag → r.sending = false →
    (∀ h ∈ s.link.queue, h.kind = .release → h.tag = g.tag → h = r) → s.link.queue.Pairwise (fun a b => a ≠ b) →
    ∃ t, exec .echoMismatch s = .next t ∧ t.link.discarding = true
      ∧ t.link.queue = s.link.queue.filter (fun h => !h.sending && !(g.firstMark && decide (h = r)))
      ∧ t.counters = (s.count .txCollisions).counters)

/-- The check of R16 over the nine characters '1' to '9' is 0x29B1, as the rule says; and a frame as it is sent (R184) passes check 1 and
its bytes give back its destination, source, kind and payload. A receiver that has gathered those bytes with no framing error acts, when
the idle run reaches 3 character times (R3), as on the command of that frame; with a framing error in one of them the frame fails check 1
(R4). That the tick brings the character time is log entry 1, the frame commands are log entry 4. -/
def Obligations.SentFrameReadsBack : Prop :=
  (crc16 [0x31#8, 0x32#8, 0x33#8, 0x34#8, 0x35#8, 0x36#8, 0x37#8, 0x38#8, 0x39#8] = 0x29B1#16)
  ∧ (∀ (k : FrameKind) (dst src : Byte) (payload : List Byte), payload.length ≤ 60 →
    check1 (frameBytes dst src (byte k.code) payload) = true
      ∧ frameCommand (frameBytes dst src (byte k.code) payload) = k.command dst src payload)
  ∧ (∀ (k : FrameKind) (dst src : Byte) (payload : List Byte) (s : State), payload.length ≤ 60 → s.pending = [] → s.Awake →
    s.due = none → s.hears = true → s.link.idleRun = 2 → s.link.nonIdleRun = 0 →
    s.link.rxFrame = frameBytes dst src (byte k.code) payload →
    ∃ u : State, u.link.idleRun = 3 ∧ u.now = (if s.clock.charPhase % 25 = 24 then (s.now + 1) % 2 ^ 40 else s.now)
      ∧ u = { s with
          clock := { s.clock with charPhase := (s.clock.charPhase + 1) % 25, now := u.now },
          link := { s.link with idleRun := 3, slotCount := u.link.slotCount } }
      ∧ (s.link.rxFaulty = false → step s = exec (k.command dst src payload) u)
      ∧ (s.link.rxFaulty = true → s.onLink = true →
        ∃ t, step s = .next t ∧ t.link.rxFrame = [] ∧ t.counters[(1 : Fin 16)] = min (s.counters[(1 : Fin 16)] + 1) 65535
          ∧ t = { u with link := t.link, faults := t.faults, counters := t.counters }))

/-- The frames that do not reach an owner (R16 to R19). A frame that fails check 1 counts RX_BAD and takes one from the error budget, which
at its last is reloaded with LINK_ERRORS raised, or FAULTS_DROPPED counted where the table has no room (R174). In START and LIMITED, or
addressed to another node, a good frame has no effect beyond the receiver. One with this node's id as its source raises NODE_ID_CLASH and is
discarded. A kind that the table does not name counts RX_UNKNOWN; a source that the kind's mask does not admit RX_UNAUTHORISED; a payload
that the layout ignores (R185, R186) RX_BAD with no change of the budget; and the reports and results of other stations RX_GOOD; each is
then discarded. That an end of frame takes the line out of QUIET with an idle run of 3 is log entry 4. -/
def Obligations.BadFrameCounted : Prop :=
  (∀ (raw : List Byte) (s : State) (b : Nat), s.Awake → s.hears = true → s.onLink = true → s.link.budget = some b → check1 raw = false →
    ∃ t, exec (.badFrame raw) s = .next t ∧ t.link.rxFrame = [] ∧ t.link.idleRun = 3
      ∧ t.link.monitor = (if s.link.monitor = .quiet then .active else s.link.monitor)
      ∧ t.counters[(1 : Fin 16)] = min (s.counters[(1 : Fin 16)] + 1) 65535
      ∧ (1 < b → t.link.budget = some (b - 1) ∧ t.faults = s.faults)
      ∧ (b ≤ 1 → t.link.budget = some s.cfg.errorBudget ∧ s.Raised t .linkErrors none
        ∧ ((t.faults.find .linkErrors none false).isSome = true
          ∨ (t.faults = s.faults ∧ t.counters = ((s.count .rxBad).count .faultsDropped).counters)))
      ∧ t = { s with link := t.link, faults := t.faults, counters := t.counters })
  ∧ (∀ (k : FrameKind) (dst src : Byte) (payload : List Byte) (s : State), s.Awake → s.hears = true →
    (s.onLink = false ∨ (dst.toNat ≠ 0 ∧ dst.toNat ≠ s.cfg.nodeId)) →
    exec (k.command dst src payload) s = .next s.goodFrame)
  ∧ (∀ (k : FrameKind) (dst src : Byte) (payload : List Byte) (s : State), s.Awake → s.hears = true → s.onLink = true →
    (dst.toNat = 0 ∨ dst.toNat = s.cfg.nodeId) →
    (src.toNat = s.cfg.nodeId →
      ∃ t, exec (k.command dst src payload) s = .next t ∧ s.Raised t .nodeIdClash (some s.cfg.nodeId)
        ∧ ((t.faults.find .nodeIdClash (some s.cfg.nodeId) false).isSome = true
          ∨ (t.faults = s.faults ∧ t.counters = (s.count .faultsDropped).counters))
        ∧ t = { s.goodFrame with
            link := { s.goodFrame.link with queue := t.link.queue, seqCounter := t.link.seqCounter }, faults := t.faults,
            counters := t.counters })
    ∧ (src.toNat ≠ s.cfg.nodeId → s.cfg.admits k src.toNat = false →
      exec (k.command dst src payload) s = .next (s.goodFrame.count .rxUnauthorised))
    ∧ (src.toNat ≠ s.cfg.nodeId → s.cfg.admits k src.toNat = true → k.Ignores payload →
      exec (k.command dst src payload) s = .next (s.goodFrame.count .rxBad)))
  ∧ (∀ (dst src : Byte) (payload : List Byte) (s : State),
    (s.Reaches .faultReport dst src → exec (.faultReport dst src payload) s = .next s.taken)
    ∧ (s.Reaches .nodeStatus dst src → exec (.nodeStatus dst src payload) s = .next s.taken)
    ∧ (s.Reaches .announceResult dst src → exec (.announceResult dst src payload) s = .next s.taken))
  ∧ (∀ (dst src kind : Byte) (payload : List Byte) (s : State), s.Awake → s.hears = true → s.onLink = true →
    (dst.toNat = 0 ∨ dst.toNat = s.cfg.nodeId) → src.toNat ≠ s.cfg.nodeId → (kindOfCode kind.toNat).isNone = true →
    exec (.unknownKind dst src kind payload) s = .next (s.goodFrame.count .rxUnknown))

/-! ### Time of day -/

/-- A TIME frame sets the clock (R25 to R27): SET, the frame's second and day, the sub-second phase 0 and the doubt timer 30 minutes on.
With a time known and another day number the calls are purged and no CUE entry stays (R29, R30); otherwise the table keeps its calls. A
second event at the new time follows, which examines an ARMED BEFORE_TIME cue as R61 says, here in a table of one record. The
service second is c − 3600 H0 modulo the day, the service minute its whole minutes, and its clock minute is the minute of the clock second
(R23). The clock advances by a second (R24): the clock second moves on, at service second 0 the day number too, and then the calls are
purged and no CUE entry stays. While UNSET nothing advances (R22). The doubt timer's expiry makes the time DOUBTFUL and raises
TIME_DOUBTFUL (R28), or counts FAULTS_DROPPED where the table has no room. The running count after a second and after that expiry is log
entry 2, the sub-second phase log entry 7. -/
def Obligations.TimeFrameSetsClock : Prop :=
  (∀ (dst src : Byte) (payload : List Byte) (s : State) (x : TimeFields), s.Reaches .time dst src → readTime payload = some x →
    ∃ t, exec (.time dst src payload) s = .next t
      ∧ t.clock = { s.clock with
          timeState := .set, clockSecond := x.second, serviceDay := x.day, secondStart := s.now, doubtTimer := some (s.now + 1800000) }
      ∧ (s.clock.timeState ≠ .unset → x.day ≠ s.clock.serviceDay →
        t.calls = [] ∧ ∀ e ∈ t.queue.entries, e.key.isCue = false)
      ∧ (s.CallsFit → s.clock.timeState = .unset ∨ x.day = s.clock.serviceDay →
        t.calls.map CallRecord.id = s.calls.map CallRecord.id)
      ∧ (s.calls = [] → s.queue.entries = [] → t.faults.hasActive .timeDoubtful none = false
        ∧ s.Cleared t .timeDoubtful none)
      ∧ (∀ (r : CallRecord) (n : CueName) (o : Nat), s.clock.timeState = .unset ∨ x.day = s.clock.serviceDay → s.calls = [r] →
        n.isPlan = true → (s.cue r n).used = true → (s.cue r n).trigger = .beforeTime o → (r.slot n).state = .armed →
        (∀ k : CueName, k ≠ n → (r.slot k).state = .idle ∨ (r.slot k).state = .missed) →
        ∀ m, m = serviceMinute s.cfg.h0 x.second → ∀ i, i = r.base - o →
        ∃ r', t.calls = [r'] ∧ r' = { r with slots := r'.slots } ∧ (∀ k : CueName, k ≠ n → r'.slot k = r.slot k)
          ∧ (m < i → r' = r ∧ t.queue = s.queue)
          ∧ (i ≤ m → m ≤ i + s.cfg.lateLimit →
            r'.slot n = { state := .fired, next := nextInstant (s.cue r n) m, firedBase := some r.base }
              ∧ (s.chanOfKey (.cue r.id n) = none → ∃ u : State,
                u = { s.taken with clock := t.clock, calls := t.calls, link := u.link, faults := u.faults, counters := u.counters }
                  ∧ t.Fires u s.cfg r.id n (s.cue r n) [r.platform]))
          ∧ (i + s.cfg.lateLimit < m →
            r'.slot n = { r.slot n with state := .missed } ∧ t.queue = s.queue
              ∧ t.counters[(11 : Fin 16)] = min (s.counters[(11 : Fin 16)] + 1) 65535))
      ∧ Undisturbed { s.taken with clock := t.clock } t)
  ∧ (∀ h0 c : Nat, h0 ≤ 23 → c < 86400 →
    (serviceSecond h0 c : Int) = ((c : Int) - h0 * 3600) % 86400 ∧ serviceMinute h0 c ≤ 1439
      ∧ clockMinute h0 (serviceMinute h0 c) = c / 60)
  ∧ (∀ s : State, s.Awake →
    (s.clock.timeState = .unset → exec .secondAdvance s = .next s)
    ∧ (s.clock.timeState ≠ .unset →
      ∃ t, exec .secondAdvance s = .next t
        ∧ t.clock = { s.clock with
            now := max s.clock.now (s.clock.secondStart + 1000) % 2 ^ 40, clockSecond := (s.clock.clockSecond + 1) % 86400,
            secondStart := s.clock.secondStart + 1000,
            serviceDay :=
              if serviceSecond s.cfg.h0 ((s.clock.clockSecond + 1) % 86400) = 0 then (s.clock.serviceDay + 1) % 65536
              else s.clock.serviceDay }
        ∧ (serviceSecond s.cfg.h0 ((s.clock.clockSecond + 1) % 86400) = 0 → t.calls = [] ∧ ∀ e ∈ t.queue.entries, e.key.isCue = false)
        ∧ Undisturbed { s with clock := t.clock } t))
  ∧ (∀ (s : State) (d : Nat), s.Awake → s.clock.timeState = .set → s.clock.doubtTimer = some d →
    ∃ t, exec .doubtTimerExpiry s = .next t
      ∧ t.clock = { s.clock with now := max s.clock.now d % 2 ^ 40, timeState := .doubtful, doubtTimer := none }
      ∧ s.Raised t .timeDoubtful none ∧ (t.faults.hasActive .timeDoubtful none = true ∨ t.counters = (s.count .faultsDropped).counters)
      ∧ t = { s with clock := t.clock, link := t.link, faults := t.faults, counters := t.counters })

/-! ### The call table -/

/-- CALL_POST (R37 to R40). Not for an own platform: ignored. For a new call with room: a PLANNED record of the posted fields, its points as
far as the pool holds them, its used plan cues ARMED where PLANNED is in their window. In a full table it takes the place of the ended
record with the earliest linger deadline, of two the lower call id, which is freed with its cells and its entries; with all 48 live,
CALL_REFUSED counts and a CALL_REFUSE for TABLE_FULL is queued where the transmit queue has room. For a CANCELLED call: PLANNED again, with
no event minute. For any other held call: the fields and the stored points are replaced, the state and the event minutes kept, and the kind
only in PLANNED and APPROACHING. A change in MOVING queues a fresh CALL_HANDOVER to the same target (R51), where the transmit queue has room
for the RELEASEs of withdrawn announcements too. -/
def Obligations.CallPosted : Prop :=
  ∀ (dst src : Byte) (payload : List Byte) (s : State) (p : PostFields), s.Reaches .callPost dst src → readPost payload = some p →
    (s.cfg.ownPlatform p.platform = false → exec (.callPost dst src payload) s = .next s.taken)
    ∧ (s.cfg.ownPlatform p.platform = true → ∃ t, exec (.callPost dst src payload) s = .next t ∧ Undisturbed s.taken t
      ∧ (s.call p.id = none → s.calls.length < 48 → OtherCallsKept p.id s t ∧ ∃ r, t.call p.id = some r
        ∧ r = { p.record with
            points := p.points.take (poolFree s.calls), posted := p.points.length,
            truncated := decide (poolFree s.calls < p.points.length), slots := r.slots, lastDelay := r.lastDelay }
        ∧ ∀ n : CueName, n.isPlan = true →
          (r.slot n).state = if (s.cue r n).used && s.inside r n then .armed else .idle)
      ∧ (s.call p.id = none → 48 ≤ s.calls.length → (∀ r ∈ s.calls, r.state.isLive = true) →
        t.calls = s.calls ∧ t.counters[(13 : Fin 16)] = min (s.counters[(13 : Fin 16)] + 1) 65535
          ∧ (s.link.queue.length < 8 → s.Queued t .callRefuse (word16 p.id ++ [byte p.platform, 1#8])))
      ∧ (∀ v d, s.call p.id = none → s.calls.length = 48 → s.CallsFit → v ∈ s.calls → v.state.isLive = false → v.linger = some d →
        (∀ r ∈ s.calls, r.state.isLive = false → ∃ e, r.linger = some e ∧ (d < e ∨ (d = e ∧ v.id ≤ r.id))) →
        t.call v.id = none ∧ (∀ j, j ≠ v.id → j ≠ p.id → t.call j = s.call j)
          ∧ (∀ e ∈ t.queue.entries, e.boundCall ≠ some v.id) ∧ ∃ r, t.call p.id = some r ∧ r.state = .planned
          ∧ r.points = p.points.take (256 - ((s.calls.filter fun q => decide (q.id ≠ v.id)).map fun q => q.points.length).sum)
          ∧ t.counters[(13 : Fin 16)] = s.counters[(13 : Fin 16)])
      ∧ (∀ r, s.call p.id = some r → OtherCallsKept p.id s t ∧ ∃ r', t.call p.id = some r'
        ∧ r'.scheduled = p.scheduled ∧ r'.expected = p.expected ∧ r'.destination = p.destination ∧ r'.origin = p.origin
        ∧ r'.carriages = p.carriages ∧ r'.posted = p.points.length
        ∧ r'.points = p.points.take (256 - ((s.calls.filter fun q => decide (q.id ≠ p.id)).map fun q => q.points.length).sum)
        ∧ r'.truncated = decide (r'.points.length < p.points.length)
        ∧ (r.state = .cancelled → ∀ e : Fin 4, r'.events[e] = .absent)
        ∧ (r.state ≠ .cancelled → r.state ≠ .moving → r'.events = r.events)
        ∧ (∀ m, r.state = .moving → r.moving = some m → r'.moving = some m
          ∧ (s.link.queue.length ≤ 5 →
            ((r.scheduled ≠ r'.scheduled ∨ r.expected ≠ r'.expected ∨ r.destination ≠ r'.destination ∨ r.origin ≠ r'.origin
                ∨ r.carriages ≠ r'.carriages ∨ r.posted ≠ r'.posted ∨ r.truncated ≠ r'.truncated ∨ r.points ≠ r'.points) →
              s.Queued t .callHandover (handoverPayload (s.handing { r' with events := r.events } m.target m.prior)))
            ∧ (r' = r → ∀ f ∈ t.link.queue, f.kind = .callHandover → f ∈ s.link.queue)))
        ∧ (r.state = .cancelled → r'.state = .planned ∧ r'.kind = p.kind ∧ r'.platform = p.platform ∧ r'.linger = none)
        ∧ (r.state ≠ .cancelled → r'.state = r.state ∧ r'.linger = r.linger
          ∧ r'.platform = (if r.state = .moving then r.platform else p.platform)
          ∧ r'.kind = (if r.state = .planned ∨ r.state = .approaching then p.kind else r.kind))))

/-- CALL_AMEND (R41): a live record whose expected minute differs takes the new one and keeps its other fields; any other is ignored.
CALL_CANCEL (R42): a record in any live state enters CANCELLED, its linger deadline set and any move forgotten; for an ended record, or for
a call id the table does not hold, it is ignored. In MOVING the target is told (R51): an amendment queues a fresh CALL_HANDOVER of the
record as it then stands, a cancellation one that carries CANCELLED, where the transmit queue has room. No other amendment or cancellation
queues one. -/
def Obligations.CallAmended : Prop :=
  (∀ (dst src : Byte) (payload : List Byte) (s : State) (a : AmendFields), s.Reaches .callAmend dst src → readAmend payload = some a →
    (∀ r, s.call a.id = some r → r.state.isLive = true → r.expected ≠ a.expected →
      ∃ t r', exec (.callAmend dst src payload) s = .next t ∧ t.call a.id = some r'
        ∧ r' = { r with expected := a.expected, slots := r'.slots, lastDelay := r'.lastDelay, events := r'.events }
        ∧ (r.state ≠ .moving → r'.events = r.events) ∧ OtherCallsKept a.id s t ∧ Undisturbed s.taken t
        ∧ (r.state ≠ .moving → ∀ f ∈ t.link.queue, f.kind = .callHandover → f ∈ s.link.queue)
        ∧ ∀ m, r.state = .moving → r.moving = some m → r'.events = r.events.map s.readMinute
          ∧ (s.link.queue.length ≤ 5 →
            s.Queued t .callHandover (handoverPayload (s.handing { r' with events := r.events } m.target m.prior))))
    ∧ ((∀ r, s.call a.id = some r → r.state.isLive = false ∨ r.expected = a.expected) →
      exec (.callAmend dst src payload) s = .next s.taken))
  ∧ (∀ (dst src : Byte) (payload : List Byte) (s : State) (id : Nat), s.Reaches .callCancel dst src → readCancel payload = some id →
    (∀ r, s.call id = some r → r.state.isLive = true →
      ∃ t r', exec (.callCancel dst src payload) s = .next t ∧ t.call id = some r'
        ∧ r' = { r with
            state := .cancelled, linger := some (s.now + s.cfg.linger * 60000), moving := none, slots := r'.slots, events := r'.events }
        ∧ (r.moving = none → r'.events = r.events ∧ ∀ f ∈ t.link.queue, f.kind = .callHandover → f ∈ s.link.queue)
        ∧ OtherCallsKept id s t ∧ Undisturbed s.taken t
        ∧ ∀ m, r.moving = some m → r'.events = r.events.map s.readMinute
          ∧ (s.link.queue.length < 8 → s.Queued t .callHandover (handoverPayload (s.handing r m.target .cancelled))))
    ∧ ((∀ r, s.call id = some r → r.state.isLive = false) → exec (.callCancel dst src payload) s = .next s.taken))

/-- TRAIN_EVENT (R43, R44): with a target later than its state, a live record not in MOVING takes the target and the event's minute, ending
where the target is an ended state; with no later target STALE_EVENT counts; otherwise the frame is ignored. That the minute is that of the
second the clock shows, also where the next is about to begin (R31), is log entry 59. -/
def Obligations.TrainEventTaken : Prop :=
  ∀ (dst src : Byte) (payload : List Byte) (s : State) (x : EventFields), s.Reaches .trainEvent dst src → readEvent payload = some x →
    (∀ r st, s.call x.id = some r → r.state.running = true → eventTarget r.kind x.event = some st → r.state.earlier st = true →
      ∃ t r', exec (.trainEvent dst src payload) s = .next t ∧ t.call x.id = some r' ∧ r'.state = st
        ∧ r'.events = r.events.set x.event.idx (match s.minuteNow with | some m => .minute m | none => .untimed s.now)
        ∧ r'.linger = (if st.isLive then r.linger else some (s.now + s.cfg.linger * 60000))
        ∧ r' = { r with state := st, events := r'.events, linger := r'.linger, moving := r'.moving, slots := r'.slots }
        ∧ OtherCallsKept x.id s t ∧ Undisturbed s.taken t)
    ∧ (∀ r, s.call x.id = some r → r.state.running = true →
      (∀ st, eventTarget r.kind x.event = some st → r.state.earlier st = false) →
      exec (.trainEvent dst src payload) s = .next (s.taken.count .staleEvent))
    ∧ ((∀ r, s.call x.id = some r → r.state.running = false) → exec (.trainEvent dst src payload) s = .next s.taken)

/-- CALL_MOVE (R46 to R48). To another own platform: the record takes it and keeps its state. To a platform of another node: MOVING, with
the state it had, the target and 10 s for an answer, and one CALL_HANDOVER of the record as it stood is queued where the transmit queue has
room. To its own platform: ignored. In MOVING: back to its prior state on an own platform, or a new target, a new 10 s and a CALL_HANDOVER
that names it. No other move queues one. Untimed event minutes are read for it (R44). -/
def Obligations.CallMoves : Prop :=
  ∀ (dst src : Byte) (payload : List Byte) (s : State) (x : CallPlatform) (r : CallRecord), s.Reaches .callMove dst src →
    readCallPlatform payload = some x → s.call x.id = some r →
    (r.state.running = true → x.platform = r.platform → exec (.callMove dst src payload) s = .next s.taken)
    ∧ (r.state.isLive = false → exec (.callMove dst src payload) s = .next s.taken)
    ∧ ((r.state.running = true ∧ x.platform ≠ r.platform) ∨ (r.state = .moving ∧ r.moving.isSome = true) →
      ∃ t r', exec (.callMove dst src payload) s = .next t ∧ t.call x.id = some r' ∧ OtherCallsKept x.id s t ∧ Undisturbed s.taken t
        ∧ r' = { r with
            platform := r'.platform, state := r'.state, moving := r'.moving, events := r'.events, slots := r'.slots }
        ∧ (r.state ≠ .moving → s.cfg.ownPlatform x.platform = true →
          r'.platform = x.platform ∧ r'.state = r.state ∧ r'.moving = r.moving)
        ∧ (r.state ≠ .moving → s.cfg.ownPlatform x.platform = false →
          r'.platform = r.platform ∧ r'.state = .moving
            ∧ r'.moving = some { prior := r.state, target := x.platform, deadline := s.now + 10000 })
        ∧ (∀ m, r.state = .moving → r.moving = some m → s.cfg.ownPlatform x.platform = true →
          r'.platform = x.platform ∧ r'.state = m.prior ∧ r'.moving = none)
        ∧ (∀ m, r.state = .moving → r.moving = some m → s.cfg.ownPlatform x.platform = false →
          r'.platform = r.platform ∧ r'.state = .moving
            ∧ r'.moving = some { m with target := x.platform, deadline := s.now + 10000 })
        ∧ (s.cfg.ownPlatform x.platform = true →
          r'.events = r.events ∧ ∀ f ∈ t.link.queue, f.kind = .callHandover → f ∈ s.link.queue)
        ∧ (s.cfg.ownPlatform x.platform = false →
          r'.events = r.events.map s.readMinute
            ∧ (s.link.queue.length < 8 → r.state ≠ .moving →
              s.Queued t .callHandover (handoverPayload (s.handing r x.platform r.state)))
            ∧ ∀ m, s.link.queue.length < 8 → r.state = .moving → r.moving = some m →
              s.Queued t .callHandover (handoverPayload (s.handing r x.platform m.prior))))

/-- CALL_ADOPT and CALL_REFUSE (R49, R50): for a record in MOVING to the platform named, the answer ends it as MOVED, with no fault, or
as MOVE_FAILED, and then CALL_MOVE_FAILED is raised for the call, or FAULTS_DROPPED counted where the table has no place (R173, R174); for
any other they are ignored. The move timer's expiry ends it as MOVE_FAILED in the same way (R50). A linger deadline's expiry frees an
ended record (R45), and no waiting entry stays bound to it. The clock at either expiry is log entry 2. -/
def Obligations.MoveAnswered : Prop :=
  (∀ (dst src : Byte) (payload : List Byte) (s : State) (x : CallPlatform),
    (s.Reaches .callAdopt dst src → readCallPlatform payload = some x →
      (∀ r m, s.call x.id = some r → r.state = .moving → r.moving = some m → m.target = x.platform →
        ∃ t r', exec (.callAdopt dst src payload) s = .next t ∧ t.call x.id = some r'
          ∧ r' = { r with
              state := .moved, moving := none, linger := some (s.now + s.cfg.linger * 60000), slots := r'.slots }
          ∧ (∀ i : Fin 16, (t.faults.slots[i]).record = (s.faults.slots[i]).record)
          ∧ OtherCallsKept x.id s t ∧ Undisturbed s.taken t)
      ∧ ((∀ r m, s.call x.id = some r → r.moving = some m → r.state ≠ .moving ∨ m.target ≠ x.platform) →
        exec (.callAdopt dst src payload) s = .next s.taken))
    ∧ (s.Reaches .callRefuse dst src → readRefuse payload = some x →
      (∀ r m, s.call x.id = some r → r.state = .moving → r.moving = some m → m.target = x.platform →
        ∃ t r', exec (.callRefuse dst src payload) s = .next t ∧ t.call x.id = some r'
          ∧ r' = { r with
              state := .moveFailed, moving := none, linger := some (s.now + s.cfg.linger * 60000), slots := r'.slots }
          ∧ s.Raised t .callMoveFailed (some x.id) ∧ OtherCallsKept x.id s t ∧ Undisturbed s.taken t)
      ∧ ((∀ r m, s.call x.id = some r → r.moving = some m → r.state ≠ .moving ∨ m.target ≠ x.platform) →
        exec (.callRefuse dst src payload) s = .next s.taken)))
  ∧ (∀ (s : State) (call : BitVec 16) (r : CallRecord) (m : Moving), s.Awake → s.call call.toNat = some r → r.state = .moving →
    r.moving = some m →
    ∃ t r', exec (.moveTimerExpiry call) s = .next t ∧ t.call call.toNat = some r'
      ∧ t.clock = { s.clock with now := max s.clock.now m.deadline % 2 ^ 40 }
      ∧ r' = { r with state := .moveFailed, moving := none, linger := some (t.now + s.cfg.linger * 60000), slots := r'.slots }
      ∧ s.Raised t .callMoveFailed (some call.toNat)
      ∧ OtherCallsKept call.toNat s t ∧ Undisturbed { s with clock := t.clock } t)
  ∧ (∀ (s : State) (call : BitVec 16) (r : CallRecord) (d : Nat), s.Awake → s.call call.toNat = some r → r.linger = some d →
    ∃ t, exec (.lingerExpiry call) s = .next t ∧ t.calls = s.calls.filter (fun q => decide (q.id ≠ call.toNat))
      ∧ t.clock = { s.clock with now := max s.clock.now d % 2 ^ 40 }
      ∧ (∀ e ∈ t.queue.entries, e.boundCall ≠ some call.toNat ∧ e ∈ s.queue.entries)
      ∧ t = { s with
          clock := t.clock, calls := t.calls, queue := { s.queue with entries := t.queue.entries }, link := t.link, faults := t.faults,
          counters := t.counters })

/-- CALL_HANDOVER (R52 to R55). To an own platform, of a call not held, with room: a record on the target with the carried fields and state,
the FIRED and MISSED slots carried in with their fired bases, the others evaluated afresh, and a CALL_ADOPT queued where the transmit queue
has room. In a full table it takes the place of the ended record with the earliest linger deadline (R40); with all 48 live CALL_REFUSED
counts and a CALL_REFUSE for TABLE_FULL is queued. Carrying CANCELLED to an own platform: a call held is cancelled as by CALL_CANCEL. To a
platform of another node: a call held in a live state other than MOVING becomes MOVED, any other is ignored. Neither is answered. What is
done with a carried truncated flag and carriages is log entry 27, that a spent slot of an unused cue is carried in log entry 45, and that a
fired base above 1439 is log entry 53. -/
def Obligations.HandoverTaken : Prop :=
  ∀ (dst src : Byte) (payload : List Byte) (s : State) (h : Handover), s.Reaches .callHandover dst src → readHandover payload = some h →
    (s.cfg.ownPlatform h.target = true → h.state ≠ .cancelled → s.call h.id = none → s.calls.length < 48 →
      ∃ t r, exec (.callHandover dst src payload) s = .next t ∧ t.call h.id = some r
        ∧ r = { h.blank with
            points := h.points.take (poolFree s.calls), posted := h.posted,
            truncated := decide ((h.points.take (poolFree s.calls)).length < h.posted), slots := r.slots, lastDelay := r.lastDelay }
        ∧ OtherCallsKept h.id s t ∧ Undisturbed s.taken t
        ∧ (s.link.queue.length < 8 → s.Queued t .callAdopt (word16 h.id ++ [byte h.target]))
        ∧ (∀ n : CueName, n.isPlan = true → ∀ c, c = h.slots[n.idx] →
          (c.state = .fired ∨ c.state = .missed → (r.slot n).state = c.state ∧ (r.slot n).firedBase = c.firedBase)
          ∧ (c.state = .idle ∨ c.state = .armed → (r.slot n).firedBase = none ∧ (r.slot n).next = none
            ∧ (r.slot n).state = if (s.cue r n).used && s.inside r n then .armed else .idle)))
    ∧ (s.cfg.ownPlatform h.target = true → h.state ≠ .cancelled → s.call h.id = none → 48 ≤ s.calls.length →
      (∀ r ∈ s.calls, r.state.isLive = true) →
      ∃ t, exec (.callHandover dst src payload) s = .next t
        ∧ t.counters[(13 : Fin 16)] = min (s.counters[(13 : Fin 16)] + 1) 65535
        ∧ (s.link.queue.length < 8 → s.Queued t .callRefuse (word16 h.id ++ [byte h.target, 1#8]))
        ∧ t = { s with link := t.link, faults := t.faults, counters := t.counters })
    ∧ (∀ v d, s.cfg.ownPlatform h.target = true → h.state ≠ .cancelled → s.call h.id = none → s.calls.length = 48 → s.CallsFit →
      v ∈ s.calls → v.state.isLive = false → v.linger = some d →
      (∀ r ∈ s.calls, r.state.isLive = false → ∃ e, r.linger = some e ∧ (d < e ∨ (d = e ∧ v.id ≤ r.id))) →
      ∃ t r, exec (.callHandover dst src payload) s = .next t ∧ t.call h.id = some r ∧ r.platform = h.target ∧ r.state = h.state
        ∧ t.call v.id = none ∧ (∀ j, j ≠ v.id → j ≠ h.id → t.call j = s.call j)
        ∧ (s.link.queue.length < 8 → s.Queued t .callAdopt (word16 h.id ++ [byte h.target])))
    ∧ (s.cfg.ownPlatform h.target = true → h.state = .cancelled → (∀ r, s.call h.id = some r → r.state.isLive = false) →
      exec (.callHandover dst src payload) s = .next s.taken)
    ∧ (∀ r, s.call h.id = some r →
      (s.cfg.ownPlatform h.target = true ∧ h.state = .cancelled ∧ r.state.isLive = true)
        ∨ (s.cfg.ownPlatform h.target = false ∧ r.state.running = true) →
      ∃ t r', exec (.callHandover dst src payload) s = .next t ∧ t.call h.id = some r'
        ∧ r'.state = (if s.cfg.ownPlatform h.target then .cancelled else .moved)
        ∧ r'.linger = some (s.now + s.cfg.linger * 60000) ∧ r'.moving = none ∧ r'.platform = r.platform ∧ r'.points = r.points
        ∧ (∀ f ∈ t.link.queue, f.kind = .callAdopt ∨ f.kind = .callRefuse → f ∈ s.link.queue)
        ∧ OtherCallsKept h.id s t ∧ Undisturbed s.taken t)
    ∧ (s.cfg.ownPlatform h.target = false → (∀ r, s.call h.id = some r → r.state.running = false) →
      exec (.callHandover dst src payload) s = .next s.taken)

/-- A live hand-over of a call held (R53, R54). In CANCELLED it is ignored. Else the record goes to the target with the carried fields and
points, and a CALL_ADOPT is queued where the transmit queue has room: a live record's state moves forward only, one in MOVING starting from
its prior state, and no plan cue that either node has fired or missed is left to fire again; a slot spent here keeps its fired base, or
takes the carried one for want of it. An ended record takes the carried state and lives again, with the spent slots and the fired bases
carried. A slot that is spent in neither copy is evaluated afresh under the plan of the carried kind: ARMED for a used cue whose window
holds the state, else IDLE, and so is the slot of an unused cue (R56, R59, R73). That one in MOVING starts from its prior state is log entry
26, which of two spent slot states is kept, and the carried base of a slot that has none here, log entry 43, that the kind is taken in any
state log entry 55, that a spent slot of an unused cue stays log entry 45, that a carried base above 1439 is taken log entry 53, and that
the slots are evaluated also where the hand-over changes nothing log entry 61. -/
def Obligations.HandoverUpdates : Prop :=
  ∀ (dst src : Byte) (payload : List Byte) (s : State) (h : Handover) (r : CallRecord), s.Reaches .callHandover dst src →
    readHandover payload = some h → s.cfg.ownPlatform h.target = true → h.state ≠ .cancelled → s.call h.id = some r →
    (r.state = .cancelled → exec (.callHandover dst src payload) s = .next s.taken)
    ∧ (r.state ≠ .cancelled →
      ∃ t r', exec (.callHandover dst src payload) s = .next t ∧ t.call h.id = some r' ∧ r'.platform = h.target ∧ r'.kind = h.kind
        ∧ r'.scheduled = h.scheduled ∧ r'.expected = h.expected ∧ r'.destination = h.destination ∧ r'.origin = h.origin
        ∧ r'.carriages = h.carriages ∧ r'.posted = h.posted
        ∧ (r.state.running = true → r'.state = (if r.state.earlier h.state then h.state else r.state) ∧ r'.linger = r.linger)
        ∧ (∀ m, r.state = .moving → r.moving = some m →
          r'.state = (if m.prior.earlier h.state then h.state else m.prior) ∧ r'.moving = none)
        ∧ (r.state.isLive = false → r'.state = h.state ∧ r'.linger = none)
        ∧ (∀ n : CueName, n.isPlan = true → (r.slot n).state.spent = true ∧ r.state.isLive = true ∨ (h.slots[n.idx]).state.spent = true →
          (r'.slot n).state.spent = true)
        ∧ (∀ n : CueName, n.isPlan = true → ∀ c, c = h.slots[n.idx] →
          (r.state.isLive = true → (r.slot n).state = .fired ∨ (r.slot n).state = .missed →
            (r'.slot n).firedBase = if (r.slot n).firedBase.isSome then (r.slot n).firedBase else c.firedBase)
          ∧ (r.state.isLive = false → c.state = .fired ∨ c.state = .missed →
            (r'.slot n).state = c.state ∧ (r'.slot n).firedBase = c.firedBase)
          ∧ (r.state.isLive = false ∨ (r.slot n).state.spent = false → c.state = .idle ∨ c.state = .armed →
            (r'.slot n).state = if (s.cue r' n).used && s.inside r' n then .armed else .idle))
        ∧ r'.points = h.points.take (256 - ((s.calls.filter fun q => decide (q.id ≠ h.id)).map fun q => q.points.length).sum)
        ∧ r'.truncated = decide (r'.points.length < h.posted)
        ∧ (s.link.queue.length < 8 → s.Queued t .callAdopt (word16 h.id ++ [byte h.target]))
        ∧ OtherCallsKept h.id s t ∧ Undisturbed s.taken t)

/-- The payload of a CALL_HANDOVER (R47, R186) reads back as what was carried, for every value its layout admits, and a twelve-bit run
(R184) reads back as the values it was made of. That its layout admits fired bases of 1440 to 4094 is log entry 53, and carriages above 59
log entry 27. -/
def Obligations.HandoverReadsBack : Prop :=
  (∀ h : Handover, h.Fits → readHandover (handoverPayload h) = some { h with slots := h.slots.map fun c => { c with next := none } })
  ∧ (∀ l : List Nat, (∀ n ∈ l, n < 4096) →
    unrun12 l.length (run12 l) = l ∧ (run12 l).length = (3 * l.length + 1) / 2)

/-! ### The Cue Engine -/

/-- The second event (R60 to R62, R64), in a table of one record in which no other cue is ARMED or FIRED. An ARMED plan cue whose instant
is ahead waits; at a lateness of at most K it fires: the slot is FIRED with its base and its next instant, and the entry joins the queue
before the walk; later than K it becomes MISSED and CUES_MISSED counts. A FIRED repeating cue without a next instant is given one, one
whose next instant is due fires again, and one later than K is skipped, counted, and given the next. The running count after a second is
log entry 2. -/
def Obligations.CuesExamined : Prop :=
  ∀ (s : State) (r : CallRecord) (n : CueName) (q : Cue) (m : Nat), s.Awake → s.clock.timeState ≠ .unset → s.calls = [r] → q = s.cue r n →
    q.used = true → (∀ k : CueName, k ≠ n → (r.slot k).state = .idle ∨ (r.slot k).state = .missed) →
    serviceSecond s.cfg.h0 ((s.clock.clockSecond + 1) % 86400) ≠ 0 →
    m = serviceMinute s.cfg.h0 ((s.clock.clockSecond + 1) % 86400) →
    ∃ (t : State) (r' : CallRecord), exec .secondAdvance s = .next t ∧ t.calls = [r'] ∧ Undisturbed { s with clock := t.clock } t
      ∧ r' = { r with slots := r'.slots, events := r'.events } ∧ (∀ k : CueName, k ≠ n → r'.slot k = r.slot k)
      ∧ (∀ i : Nat, n.isPlan = true → (r.slot n).state = .armed →
        (∃ o, q.trigger = .beforeTime o ∧ i = r.base - o)
            ∨ (∃ (e : TrainEvent) (o x : Nat), q.trigger = .afterEvent e o ∧ r.events[e.idx] = .minute x ∧ i = min (x + o) 1439) →
        (m < i → r' = r ∧ t.queue = s.queue)
        ∧ (i ≤ m → m ≤ i + s.cfg.lateLimit →
          r'.slot n = { state := .fired, next := nextInstant q m, firedBase := some r.base }
            ∧ (s.chanOfKey (.cue r.id n) = none → t.Fires { s with clock := t.clock, calls := t.calls } s.cfg r.id n q [r.platform])
            ∧ (s.chanOfKey (.cue r.id n) ≠ none → t.queue = s.queue))
        ∧ (i + s.cfg.lateLimit < m →
          r'.slot n = { r.slot n with state := .missed } ∧ t.queue = s.queue
            ∧ t.counters[(11 : Fin 16)] = min (s.counters[(11 : Fin 16)] + 1) 65535))
      ∧ ((r.slot n).state = .armed → (∃ e, q.trigger = .onEvent e) ∨ (∃ e o, q.trigger = .afterEvent e o ∧ r.events[e.idx] = .absent) →
        r' = r ∧ t.queue = s.queue)
      ∧ ((r.slot n).state = .fired → q.repeatEvery = none ∨ r.state ∉ q.windowOf n → r' = r ∧ t.queue = s.queue)
      ∧ ((r.slot n).state = .fired → q.repeatEvery.isSome = true → r.state ∈ q.windowOf n →
        ((r.slot n).next = none → r'.slot n = { r.slot n with next := nextInstant q m } ∧ t.queue = s.queue)
        ∧ ∀ i, (r.slot n).next = some i →
          (m < i → r' = r ∧ t.queue = s.queue)
          ∧ (i ≤ m → m ≤ i + s.cfg.lateLimit →
            r'.slot n = { state := .fired, next := nextInstant q m, firedBase := some r.base }
              ∧ (s.chanOfKey (.cue r.id n) = none → t.Fires { s with clock := t.clock, calls := t.calls } s.cfg r.id n q [r.platform]))
          ∧ (i + s.cfg.lateLimit < m →
            r'.slot n = { r.slot n with next := nextInstant q m } ∧ t.queue = s.queue
              ∧ t.counters[(11 : Fin 16)] = min (s.counters[(11 : Fin 16)] + 1) 65535))

/-- A change of a record's state reaches its plan cues (R59, R65, R67), here by a train event to a live state. A cue whose window holds the
new state goes from IDLE to ARMED, and to FIRED if it is an ON_EVENT cue of that event; one outside it goes from ARMED to IDLE, and a
FIRED or MISSED one loses its next instant and its waiting entry, and its instance is told to stop. Where a CALL_MOVE takes the call away
(R47, R66) so do all its cues but ALTERATION and CANCEL, whatever their slots hold. -/
def Obligations.CuesFollowWindows : Prop :=
  (∀ (dst src : Byte) (payload : List Byte) (s : State) (x : EventFields) (r : CallRecord) (st : CallState) (n : CueName) (q : Cue),
    s.Reaches .trainEvent dst src → readEvent payload = some x → s.call x.id = some r → r.state.running = true →
    eventTarget r.kind x.event = some st → r.state.earlier st = true → st.isLive = true → n.isPlan = true → q = s.cue r n → q.used = true →
    s.KeysApart →
    ∃ t r', exec (.trainEvent dst src payload) s = .next t ∧ t.call x.id = some r' ∧ r'.state = st
      ∧ ((r.slot n).state = .idle → st ∈ q.window → q.trigger ≠ .onEvent x.event → r'.slot n = { r.slot n with state := .armed })
      ∧ ((r.slot n).state = .idle ∨ (r.slot n).state = .armed → st ∈ q.window → q.trigger = .onEvent x.event →
        (r'.slot n).state = .fired ∧ (r'.slot n).firedBase = some r.base)
      ∧ ((r.slot n).state = .idle → st ∉ q.window → r'.slot n = r.slot n)
      ∧ ((r.slot n).state = .armed → st ∉ q.window → r'.slot n = { r.slot n with state := .idle })
      ∧ ((r.slot n).state = .fired ∨ (r.slot n).state = .missed → st ∈ q.window → r'.slot n = r.slot n)
      ∧ ((r.slot n).state = .fired ∨ (r.slot n).state = .missed → st ∉ q.window →
        r'.slot n = { r.slot n with next := none } ∧ t.entryOf (.cue x.id n) = none
          ∧ ∀ (c : ChanId) (i : ChanInst), t.chan c = some i → i.key = some (.cue x.id n) →
            i.state = .claiming ∨ i.state = .leadIn ∨ i.state = .speaking → i.outcome.isSome = true))
  ∧ (∀ (dst src : Byte) (payload : List Byte) (s : State) (x : CallPlatform) (r : CallRecord) (n : CueName),
    s.Reaches .callMove dst src → readCallPlatform payload = some x → s.call x.id = some r → r.state.running = true →
    x.platform ≠ r.platform → s.cfg.ownPlatform x.platform = false → s.KeysApart → n ≠ .alteration → n ≠ .cancel →
    ∃ t r', exec (.callMove dst src payload) s = .next t ∧ t.call x.id = some r' ∧ t.entryOf (.cue x.id n) = none
      ∧ (∀ (c : ChanId) (i : ChanInst), t.chan c = some i → i.key = some (.cue x.id n) →
        i.state = .claiming ∨ i.state = .leadIn ∨ i.state = .speaking → i.outcome.isSome = true)
      ∧ (n.isPlan = true → (s.cue r n).used = true ∧ CallState.moving ∉ (s.cue r n).window →
        (r'.slot n).state = (if (r.slot n).state = .armed then .idle else (r.slot n).state)
          ∧ ((r.slot n).state = .fired ∨ (r.slot n).state = .missed → (r'.slot n).next = none)))

/-- The occasions of the special cues and re-arming (R68 to R72). An amendment to a delay of at least the threshold fires DELAY where none
was announced, the last one lay below the threshold, or it has moved by the re-arm threshold; one below the threshold forgets the delay
announced and takes DELAY back to IDLE. An amendment that moves the base late enough arms a FIRED BEFORE_TIME cue again. A cancellation
fires CANCEL; a move to another own platform fires ALTERATION on both platforms' zones, one to another node on the old one's. That the
occasion counts whatever the slot's state is log entry 36, which zones a local move takes log entry 25, when the delay is tested log entry
23. -/
def Obligations.CueOccasions : Prop :=
  (∀ (dst src : Byte) (payload : List Byte) (s : State) (a : AmendFields) (r : CallRecord) (d : Nat),
    s.Reaches .callAmend dst src → readAmend payload = some a → s.call a.id = some r → r.expected ≠ a.expected →
    r.state ∈ [.planned, .approaching, .atPlatform] → a.expected = some (r.scheduled + d) → (s.cue r .delay).used = true →
    (r.slot .delay).state = .idle ∨ (r.slot .delay).state = .fired →
    ∃ t r', exec (.callAmend dst src payload) s = .next t ∧ t.call a.id = some r'
      ∧ (s.cfg.delayThreshold ≤ d →
        (r.lastDelay = none
            ∨ ∃ l, r.lastDelay = some l
              ∧ (l < s.cfg.delayThreshold ∨ l + s.cfg.rearmThreshold ≤ d ∨ d + s.cfg.rearmThreshold ≤ l)) →
        (r'.slot .delay).state = .fired ∧ (r'.slot .delay).firedBase = some (r.scheduled + d) ∧ r'.lastDelay = some d
          ∧ (s.chanOfKey (.cue a.id .delay) = none →
            ∃ u, Withdrawn s.taken u t a.id .delay ∧ u.queue = s.queue ∧ u.chans = s.chans
              ∧ t.Fires u s.cfg a.id .delay (s.cue r .delay) [r.platform]))
      ∧ (∀ l, s.cfg.delayThreshold ≤ d → r.lastDelay = some l → s.cfg.delayThreshold ≤ l →
        l < d + s.cfg.rearmThreshold → d < l + s.cfg.rearmThreshold →
        r'.slot .delay = r.slot .delay ∧ r'.lastDelay = some l)
      ∧ (d < s.cfg.delayThreshold →
        (r'.slot .delay).state = .idle
          ∧ ((r.slot .delay).state = .fired → (r'.slot .delay).next = none ∧ r'.lastDelay = none
            ∧ (s.KeysApart → t.entryOf (.cue a.id .delay) = none))))
  ∧ (∀ (dst src : Byte) (payload : List Byte) (s : State) (a : AmendFields) (r : CallRecord) (n : CueName),
    s.Reaches .callAmend dst src → readAmend payload = some a → s.call a.id = some r → r.expected ≠ a.expected → r.state.isLive = true →
    n.isPlan = true → (s.cue r n).used = true → r.state ∈ (s.cue r n).window → (r.slot n).state = .fired →
    ∀ f, (r.slot n).firedBase = some f → ∀ m, s.minuteNow = some m → ∀ b, b = a.expected.getD r.scheduled →
    ∀ o, (s.cue r n).trigger = .beforeTime o →
    ∃ t r', exec (.callAmend dst src payload) s = .next t ∧ t.call a.id = some r'
      ∧ (m < b - o → f + s.cfg.rearmThreshold ≤ b → r'.slot n = { r.slot n with state := .armed, next := none })
      ∧ (b - o ≤ m ∨ b < f + s.cfg.rearmThreshold → r'.slot n = r.slot n))
  ∧ (∀ (dst src : Byte) (payload : List Byte) (s : State) (id : Nat) (r : CallRecord),
    s.Reaches .callCancel dst src → readCancel payload = some id → s.call id = some r → r.state.isLive = true →
    ∃ t r', exec (.callCancel dst src payload) s = .next t ∧ t.call id = some r'
      ∧ ((s.cue r .cancel).used = true → (r'.slot .cancel).state = .fired ∧ (r'.slot .cancel).firedBase = some r.base
        ∧ (s.chanOfKey (.cue id .cancel) = none →
          ∃ u, Withdrawn s.taken u t id .cancel ∧ t.Fires u s.cfg id .cancel (s.cue r .cancel) [r.platform]))
      ∧ ((s.cue r .cancel).used = false → r'.slot .cancel = r.slot .cancel))
  ∧ (∀ (dst src : Byte) (payload : List Byte) (s : State) (x : CallPlatform) (r : CallRecord),
    s.Reaches .callMove dst src → readCallPlatform payload = some x → s.call x.id = some r → r.state.running = true →
    x.platform ≠ r.platform →
    ∃ t r', exec (.callMove dst src payload) s = .next t ∧ t.call x.id = some r'
      ∧ ((s.cue r .alteration).used = true → (r'.slot .alteration).state = .fired ∧ (r'.slot .alteration).firedBase = some r.base
        ∧ (s.chanOfKey (.cue x.id .alteration) = none →
          ∃ u, Withdrawn s.taken u t x.id .alteration
            ∧ (s.cfg.ownPlatform x.platform = true → u.queue = s.queue ∧ u.chans = s.chans)
            ∧ t.Fires u s.cfg x.id .alteration (s.cue r .alteration)
              (if s.cfg.ownPlatform x.platform then [x.platform, r.platform] else [r.platform])))
      ∧ ((s.cue r .alteration).used = false → (r'.slot .alteration).state ≠ .fired ∨ (r.slot .alteration).state = .fired))

/-! ### The announcement queue -/

/-- ANNOUNCE (R91 to R93). With no present zone of this node named it is ignored. For a key neither waiting nor on a channel, with room in
the queue, an entry of the next tag and sequence number joins the queue before the walk that may dispatch it. For a key on a channel the
instance plays on and a renewal is kept. For a key that waits, the entry is replaced: it keeps its tag and number. With the queue full the
entry that stands last is evicted as EVICTED if its class is higher, and else the new one is refused as QUEUE_FULL (R92). -/
def Obligations.AnnounceOffered : Prop :=
  ∀ (dst src : Byte) (payload : List Byte) (s : State) (a : AnnounceFields), s.Reaches .announce dst src → readAnnounce payload = some a →
    (s.cfg.deskMask a.zones = [] → exec (.announce dst src payload) s = .next s.taken)
    ∧ (s.cfg.deskMask a.zones ≠ [] → s.entryOf (.desk src.toNat a.tag) = none → s.chanOfKey (.desk src.toNat a.tag) = none →
      s.queue.entries.length < 24 →
      ∃ (t u : State) (e : Entry), exec (.announce dst src payload) s = .next t ∧ t = u.walk ∧ Undisturbed s.taken t ∧ t.calls = s.calls
        ∧ e = { a.entry src.toNat (s.cfg.deskMask a.zones) s.now with tag := s.nextTag, seq := s.queue.seqCounter }
        ∧ e ∈ u.queue.entries ∧ (∀ f ∈ s.queue.entries, f ∈ u.queue.entries) ∧ u.queue.entries.length = s.queue.entries.length + 1
        ∧ u.queue.tagCounter = (s.nextTag + 1) % 256 ∧ u = { s.taken with queue := u.queue })
    ∧ (∀ c, s.cfg.deskMask a.zones ≠ [] → s.entryOf (.desk src.toNat a.tag) = none → s.chanOfKey (.desk src.toNat a.tag) = some c →
      ∃ t u : State, exec (.announce dst src payload) s = .next t ∧ t = u.walk ∧ u.chans = s.chans ∧ u.queue.entries = s.queue.entries
        ∧ u.cont c = (s.cont c).map (fun k => { k with renewal := some (a.entry src.toNat (s.cfg.deskMask a.zones) s.now) })
        ∧ Undisturbed s.taken t ∧ t.calls = s.calls)
    ∧ (∀ f, s.cfg.deskMask a.zones ≠ [] → s.entryOf (.desk src.toNat a.tag) = some f →
      ∃ t u : State, exec (.announce dst src payload) s = .next t ∧ t = u.walk
        ∧ { a.entry src.toNat (s.cfg.deskMask a.zones) s.now with tag := f.tag, seq := f.seq } ∈ u.queue.entries
        ∧ (∀ e ∈ u.queue.entries, e.key = .desk src.toNat a.tag → e.tag = f.tag)
        ∧ (∀ e ∈ s.queue.entries, e.key ≠ .desk src.toNat a.tag → e ∈ u.queue.entries)
        ∧ u = { s.taken with queue := { s.queue with entries := u.queue.entries } } ∧ Undisturbed s.taken t ∧ t.calls = s.calls)
    ∧ (∀ f, s.cfg.deskMask a.zones ≠ [] → s.entryOf (.desk src.toNat a.tag) = none → s.chanOfKey (.desk src.toNat a.tag) = none →
      24 ≤ s.queue.entries.length → s.queue.entries.getLast? = some f →
      (f.cls ≤ a.cls → ∃ t, exec (.announce dst src payload) s = .next t ∧ t.queue = s.queue
        ∧ t.counters[(7 : Fin 16)] = min (s.counters[(7 : Fin 16)] + 1) 65535
        ∧ (s.faults.firstMarked = none → s.link.queue.length < 8 →
          ∃ g ∈ t.link.queue, g.kind = .announceResult ∧ g.dest = src.toNat ∧ g.payload.getD 2 0#8 = 3#8)
        ∧ t = { s with link := t.link, faults := t.faults, counters := t.counters })
      ∧ (a.cls < f.cls → ∃ (t u : State) (e : Entry), exec (.announce dst src payload) s = .next t ∧ t = u.walk
        ∧ e = { a.entry src.toNat (s.cfg.deskMask a.zones) s.now with tag := e.tag, seq := s.queue.seqCounter }
        ∧ e ∈ u.queue.entries ∧ f.key ∉ u.queue.entries.map Entry.key
        ∧ (∀ g ∈ s.queue.entries, g.key ≠ f.key → g ∈ u.queue.entries)
        ∧ u.counters[(9 : Fin 16)] = min (s.counters[(9 : Fin 16)] + 1) 65535))

/-- LIVE_OPEN (R94): with a present zone of this node named, no live entry of the desk waiting and no live instance of it, an entry of
class 2 that expires in 10 s joins the queue before the walk; with a live instance of it the frame changes nothing; with no such zone it
is ignored. LIVE_KEEP moves the keep deadline of the desk's instance in LIVE to 5 s on (R136); without such an instance it changes
nothing. -/
def Obligations.LiveOpened : Prop :=
  (∀ (dst src : Byte) (payload : List Byte) (s : State) (zones : List Nat), s.Reaches .liveOpen dst src → readLiveOpen payload = some zones →
    (s.cfg.deskMask zones = [] → exec (.liveOpen dst src payload) s = .next s.taken)
    ∧ (s.entryOf (.live src.toNat) = none → (s.chanOfKey (.live src.toNat)).isSome = true →
      exec (.liveOpen dst src payload) s = .next s.taken)
    ∧ (s.cfg.deskMask zones ≠ [] → s.entryOf (.live src.toNat) = none → s.chanOfKey (.live src.toNat) = none →
      s.queue.entries.length < 24 →
      ∃ (t u : State) (e : Entry), exec (.liveOpen dst src payload) s = .next t ∧ t = u.walk ∧ e ∈ u.queue.entries
        ∧ e.key = .live src.toNat ∧ e.cls = 2 ∧ e.mask = s.cfg.deskMask zones ∧ e.expiry = some (s.now + 10000) ∧ e.notBefore = s.now
        ∧ e.tag = s.nextTag ∧ (∀ f ∈ s.queue.entries, f ∈ u.queue.entries) ∧ u = { s.taken with queue := u.queue }
        ∧ Undisturbed s.taken t ∧ t.calls = s.calls))
  ∧ (∀ (dst src : Byte) (payload : List Byte) (s : State), s.Reaches .liveKeep dst src → payload = [] →
    (s.chanOfKey (.live src.toNat) = none → exec (.liveKeep dst src payload) s = .next s.taken)
    ∧ ∀ c i, s.chanOfKey (.live src.toNat) = some c → s.chan c = some i →
      (i.state = .live → exec (.liveKeep dst src payload) s = .next
        { s.taken with chans := s.chans.set c (some { i with keepAt := some (s.now + 5000) }) })
      ∧ (i.state ≠ .live → exec (.liveKeep dst src payload) s = .next s.taken))

/-- ANNOUNCE_STOP (R95, R131). A waiting entry leaves the queue as STOPPED. An instance has its renewal discarded and stops by its state:
in CLAIMING, and in LEAD_IN before or after its chime, it enters TAIL at once as STOPPED; in its chime and in SPEAKING it stops at the
end of the chime or phrase, with that outcome fixed; in TAIL its continuation record takes a stop mark. One whose outcome is fixed already
is not changed. A key that neither waits nor is on a channel changes nothing. -/
def Obligations.AnnouncementStopped : Prop :=
  ∀ (dst src : Byte) (payload : List Byte) (s : State) (tag : Nat), s.Reaches .announceStop dst src → readStop payload = some tag →
    (s.entryOf (.desk src.toNat tag) = none → s.chanOfKey (.desk src.toNat tag) = none →
      exec (.announceStop dst src payload) s = .next s.taken)
    ∧ ((s.entryOf (.desk src.toNat tag)).isSome = true → s.chanOfKey (.desk src.toNat tag) = none →
      ∃ t, exec (.announceStop dst src payload) s = .next t
        ∧ t.queue.entries = s.queue.entries.filter (fun e => decide (e.key ≠ .desk src.toNat tag))
        ∧ t.counters[(9 : Fin 16)] = min (s.counters[(9 : Fin 16)] + 1) 65535
        ∧ t = { s with
            queue := { s.queue with entries := t.queue.entries }, link := t.link, faults := t.faults, counters := t.counters })
    ∧ (∀ c i, s.entryOf (.desk src.toNat tag) = none → s.chanOfKey (.desk src.toNat tag) = some c → s.chan c = some i →
      i.state = .speaking → i.outcome = none →
      ∃ t, exec (.announceStop dst src payload) s = .next t
        ∧ t.chan c = some { i with outcome := some .stopped, stopPending := true }
        ∧ t.cont c = (s.cont c).map (fun k => { k with renewal := none })
        ∧ t = { s.taken with
            chans := s.chans.set c (t.chan c), queue := { s.queue with continuations := s.queue.continuations.set c (t.cont c) } })
    ∧ (∀ c i, s.entryOf (.desk src.toNat tag) = none → s.chanOfKey (.desk src.toNat tag) = some c → s.chan c = some i →
      (i.state = .leadIn → i.stage = .chime → i.outcome = none →
        exec (.announceStop dst src payload) s = .next { s.taken with
          chans := s.chans.set c (some { i with outcome := some .stopped, stopPending := true }),
          queue := { s.queue with
            continuations := s.queue.continuations.set c ((s.cont c).map fun k => { k with renewal := none }) } })
      ∧ (i.state = .claiming ∨ (i.state = .leadIn ∧ i.stage ≠ .chime) → i.outcome = none →
        ∃ t j, exec (.announceStop dst src payload) s = .next t ∧ t.chan c = some j ∧ j.state = .tail ∧ j.outcome = some .stopped
          ∧ j.tailEnd = some (s.now + 300) ∧ t.claimOf c = none ∧ t.cont c = (s.cont c).map (fun k => { k with renewal := none })
          ∧ (∀ b : ChanId, b ≠ c → t.chan b = s.chan b ∧ t.claimOf b = s.claimOf b ∧ t.cont b = s.cont b)
          ∧ t.queue.entries = s.queue.entries ∧ t.zones = s.zones ∧ t.levels = s.levels ∧ t.calls = s.calls ∧ Undisturbed s.taken t)
      ∧ (i.state = .tail →
        exec (.announceStop dst src payload) s = .next { s.taken with
          queue := { s.queue with
            continuations := s.queue.continuations.set c
              ((s.cont c).map fun k => { k with renewal := none, stopMark := some .stopped }) } })
      ∧ (i.state ≠ .tail → i.outcome.isSome = true →
        exec (.announceStop dst src payload) s = .next { s.taken with
          queue := { s.queue with
            continuations := s.queue.continuations.set c ((s.cont c).map fun k => { k with renewal := none }) } }))

/-- A LIVE_CLOSE from the desk of the live instance ends it with outcome DONE (R137): it enters TAIL at once from CLAIMING, LEAD_IN and
LIVE, and in TAIL it is ignored. With no live instance, a waiting live entry of the desk leaves the queue as STOPPED (R94). -/
def Obligations.LiveClosed : Prop :=
  ∀ (dst src : Byte) (payload : List Byte) (s : State), s.Reaches .liveClose dst src → payload = [] →
    (∀ c i, s.chanOfKey (.live src.toNat) = some c → s.chan c = some i →
      (i.state = .tail → exec (.liveClose dst src payload) s = .next s.taken)
      ∧ (i.state ≠ .tail → i.outcome = none →
        ∃ t j, exec (.liveClose dst src payload) s = .next t ∧ t.chan c = some j ∧ j.state = .tail ∧ j.outcome = some .done
          ∧ j.tailEnd = some (s.now + 300) ∧ t.claimOf c = none ∧ (∀ d : ChanId, d ≠ c → t.chan d = s.chan d ∧ t.claimOf d = s.claimOf d)
          ∧ t.zones = s.zones ∧ t.queue = s.queue ∧ t.calls = s.calls ∧ Undisturbed s.taken t))
    ∧ (s.chanOfKey (.live src.toNat) = none → (s.entryOf (.live src.toNat)).isSome = true →
      ∃ t, exec (.liveClose dst src payload) s = .next t
        ∧ t.queue.entries = s.queue.entries.filter (fun e => decide (e.key ≠ .live src.toNat))
        ∧ t.counters[(9 : Fin 16)] = min (s.counters[(9 : Fin 16)] + 1) 65535
        ∧ t = { s with
            queue := { s.queue with entries := t.queue.entries }, link := t.link, faults := t.faults, counters := t.counters })

/-- An entry's not-before begins a walk, and its expiry takes it from the queue, as EXPIRED or, for a live entry kept waiting by a live
input in use, as BUSY (R96, R102). The clock at either instant is log entry 2. -/
def Obligations.EntryInstants : Prop :=
  ∀ (s : State) (tag : Byte) (e : Entry), s.Awake → s.entryTagged tag.toNat = some e →
    exec (.notBeforeReached tag) s = .next (({ s with clock := { s.clock with now := max s.clock.now e.notBefore % 2 ^ 40 } } : State).walk)
    ∧ ∀ d, e.expiry = some d →
      ∃ t, exec (.entryExpiry tag) s = .next t
        ∧ t.queue.entries = s.queue.entries.filter (fun f => decide (f.key ≠ e.key))
        ∧ t.clock = { s.clock with now := max s.clock.now d % 2 ^ 40 }
        ∧ t.counters[(9 : Fin 16)] = min (s.counters[(9 : Fin 16)] + 1) 65535
        ∧ (s.faults.firstMarked = none → s.link.queue.length < 8 → s.onLink = true → ∀ k, e.key = .live k →
          ∃ f ∈ t.link.queue, f.kind = .announceResult ∧ f.dest = k
            ∧ f.payload = [1#8, 0#8, if s.liveInUse then 13#8 else 1#8])
        ∧ t = { s with
            clock := t.clock, queue := { s.queue with entries := t.queue.entries }, link := t.link, faults := t.faults,
            counters := t.counters }

/-- What a walk does with the entries from the front (R96 to R100). One that passes the nine tests is dispatched on the lowest FREE channel
that its class may take and on its effective zones; one before its not-before, in evacuation, outside its phase, or held up by a channel,
the live input or a zone is passed over; one of class 4 on battery is removed as SUPPRESSED, one without an effective zone as NO_ZONE. A
walk over one entry that passes, with a phrase list, puts it on its channel, in CLAIMING, with every effective zone HELD. -/
def Obligations.DispatchTests : Prop :=
  (∀ (s : State) (e : Entry) (rest : List Entry) (c : ChanId) (zs : ZoneSet), s.Passes e c zs →
    State.pass (e :: rest) s = (s.dispatch e c zs, true))
  ∧ (∀ (s : State) (e : Entry) (rest : List Entry), (∀ (c : ChanId) (zs : ZoneSet), ¬s.Passes e c zs) →
    ((s.now < e.notBefore ∨ s.evac.active = true ∨ ¬(s.startup.phase = .run ∨ (s.startup.phase = .joining ∧ e.cls ≤ 2))) →
      State.pass (e :: rest) s = State.pass rest s)
    ∧ (e.notBefore ≤ s.now → s.evac.active = false → s.startup.phase = .run ∨ (s.startup.phase = .joining ∧ e.cls ≤ 2) →
      (s.battery = true → e.cls = 4 → State.pass (e :: rest) s = State.pass rest (s.removeEntry e.key .suppressed))
      ∧ ((s.battery = false ∨ e.cls ≠ 4) →
        ((∀ z ∈ e.mask, (s.zone z).state = .off ∨ (s.zone z).ampFault = true) →
          State.pass (e :: rest) s = State.pass rest (s.removeEntry e.key .noZone))
        ∧ ((∃ z ∈ e.mask, (s.zone z).state ≠ .off ∧ (s.zone z).ampFault = false) →
          State.pass (e :: rest) s = State.pass rest s))))
  ∧ (∀ (s : State) (e : Entry) (c : ChanId) (zs : ZoneSet), s.queue.entries = [e] → s.Passes e c zs → (s.words e).2.isSome = true →
    ∃ i, s.walk.chan c = some i ∧ i.state = .claiming ∧ i.key = some e.key ∧ i.cls = e.cls ∧ i.tag = e.tag
      ∧ (∀ z : ZoneId, z ∈ zs → (s.walk.zone z).state = .held c) ∧ (s.walk.claimOf c).isSome = true ∧ s.walk.queue.entries = [])

/-! ### Zone claims -/

/-- CLAIM (R115): with no own claim record to conflict with, each slot named by the claim, of a zone of its source, takes it if the slot
is empty, held by that source, or held by a lower-ranking claim; every other slot is kept. A gate on a zone that is then not silent around
is discarded, and no other (R144). RELEASE empties every slot held by its source under its tag and a walk follows; with none such it
changes nothing. A slot's expiry empties it and a walk follows (R96, R116, R117). The clock at that expiry is log entry 2, that gates are
judged at the end of an event log entry 15. -/
def Obligations.ClaimTaken : Prop :=
  (∀ (dst src : Byte) (payload : List Byte) (s : State) (x : ClaimFields), s.Reaches .claim dst src → readClaim payload = some x →
    (∀ c : ChanId, s.claimOf c = none) →
    ∃ t, exec (.claim dst src payload) s = .next t
      ∧ t.claims.occupancy = s.claims.occupancy.map (fun o =>
          if o.zone ∈ x.zones ∧ o.zone / 8 = src.toNat ∧ o.takes (x.occupant src.toNat s.now) = true then
            { o with
              occupant := some
                { owner := src.toNat, cls := x.cls, tag := x.tag, established := x.established, lastHeard := s.now,
                  expiry := s.now + 20000 } }
          else o)
      ∧ (∀ z : ZoneId, t.silentAround z = false → (t.level z).gate = none)
      ∧ (∀ z : ZoneId, t.silentAround z = true → (s.level z).gate.isSome = true → (t.level z).gate.isSome = true)
      ∧ t = { s.taken with claims := { s.claims with occupancy := t.claims.occupancy }, levels := t.levels })
  ∧ (∀ (o : OccSlot) (b n : Occupant),
    (o.occupant = none → o.takes n = true)
    ∧ (o.occupant = some b → (o.takes n = true ↔ b.owner = n.owner ∨ n.cls < b.cls
      ∨ (n.cls = b.cls ∧ (n.established = true ∧ b.established = false
        ∨ n.established = b.established ∧ n.owner < b.owner)))))
  ∧ (∀ (dst src : Byte) (payload : List Byte) (s : State) (tag : Nat), s.Reaches .release dst src → readRelease payload = some tag →
    ((∀ o ∈ s.claims.occupancy, ∀ b, o.occupant = some b → b.owner ≠ src.toNat ∨ b.tag ≠ tag) →
      exec (.release dst src payload) s = .next s.taken)
    ∧ ((∃ o ∈ s.claims.occupancy, ∃ b, o.occupant = some b ∧ b.owner = src.toNat ∧ b.tag = tag) →
      exec (.release dst src payload) s = .next
        (({ s.taken with claims := { s.claims with occupancy := s.claims.occupancy.map (fun o =>
            if o.occupant.any (fun b => decide (b.owner = src.toNat ∧ b.tag = tag)) then { o with occupant := none } else o) } } :
          State).walk)))
  ∧ (∀ (zone : Byte) (s : State) (b : Occupant), s.Awake → s.occupant zone.toNat = some b →
    exec (.occupancyExpiry zone) s = .next
      (({ s with
          clock := { s.clock with now := max s.clock.now b.expiry % 2 ^ 40 },
          claims := { s.claims with occupancy := s.claims.occupancy.map (fun o =>
            if o.zone = zone.toNat then { o with occupant := none } else o) } } : State).walk))

/-- A CLAIM that conflicts with the only instance on the channels (R118 to R120, R122, R123), by the tables of the rules. In CLAIMING or
LEAD_IN the instance goes to TAIL as WITHDRAWN where R119 says it withdraws. In SPEAKING or LIVE it goes there as PREEMPTED where the CLAIM
preempts it, and goes on, CONTESTED counted once for the CLAIM however many instances it meets, where neither preempts the other and the
CLAIM is established. Otherwise it asserts: it goes on and its CLAIM is in the queue again. Two claims not yet established that cross give
opposite decisions at the two nodes (R119). -/
def Obligations.ClaimJudged : Prop :=
  (∀ (dst src : Byte) (payload : List Byte) (s : State) (x : ClaimFields) (c : ChanId) (r : OwnClaim) (i : ChanInst),
    s.Reaches .claim dst src → readClaim payload = some x → s.claimOf c = some r → s.chan c = some i → s.Conflict x c r.cls →
    i.outcome = none → (∀ d : ChanId, d ≠ c → s.claimOf d = none) →
    ∃ t, exec (.claim dst src payload) s = .next t
      ∧ (i.state = .claiming ∨ i.state = .leadIn → YieldsEarly x src.toNat i.cls s.cfg.nodeId →
        t.claimOf c = none ∧ ∃ j, t.chan c = some j ∧ j.state = .tail ∧ j.outcome = some .withdrawn ∧ j.tailEnd = some (s.now + 300))
      ∧ (i.state = .speaking ∨ i.state = .live → Preempts x.cls i.cls →
        t.claimOf c = none ∧ ∃ j, t.chan c = some j ∧ j.state = .tail ∧ j.outcome = some .preempted ∧ j.tailEnd = some (s.now + 300))
      ∧ (i.state = .speaking ∨ i.state = .live → ¬Preempts x.cls i.cls → ¬Preempts i.cls x.cls → x.established = true →
        t.chan c = some i ∧ t.claimOf c = some r ∧ t.link.queue = s.link.queue)
      ∧ ((i.state = .claiming ∨ i.state = .leadIn) ∧ ¬YieldsEarly x src.toNat i.cls s.cfg.nodeId
          ∨ (i.state = .speaking ∨ i.state = .live) ∧ ¬Preempts x.cls i.cls
            ∧ (Preempts i.cls x.cls ∨ x.established = false) →
        t.chan c = some i ∧ t.claimOf c = some { r with refreshAt := s.now + 8000 } ∧ (s.ClaimsOpen → t.Carries r)
          ∧ t.counters[(14 : Fin 16)] = s.counters[(14 : Fin 16)])
      ∧ t.zones = s.zones ∧ t.calls = s.calls ∧ t.queue = s.queue ∧ t.clock = s.clock ∧ t.evac = s.evac)
  ∧ (∀ (dst src : Byte) (payload : List Byte) (s : State) (x : ClaimFields) (c : ChanId) (r : OwnClaim) (i : ChanInst),
    s.Reaches .claim dst src → readClaim payload = some x → s.claimOf c = some r → s.chan c = some i → s.Conflict x c r.cls →
    i.state = .speaking ∨ i.state = .live → ¬Preempts x.cls i.cls → ¬Preempts i.cls x.cls → x.established = true →
    ∃ t, exec (.claim dst src payload) s = .next t ∧ t.counters[(14 : Fin 16)] = min (s.counters[(14 : Fin 16)] + 1) 65535)
  ∧ (∀ (a b : Nat) (tagA tagB clsA clsB : Nat) (zonesA zonesB : List Nat), a ≠ b →
    (YieldsEarly { tag := tagB, cls := clsB, established := false, zones := zonesB } b clsA a
      ↔ ¬YieldsEarly { tag := tagA, cls := clsA, established := false, zones := zonesA } a clsB b))

/-- The refresh deadline sends the CLAIM again and is set 8 s on (R109). The send deadline (R111) takes an instance of class 2 or below
into LEAD_IN without its CLAIM, which then stays in the queue or is offered again, and withdraws one above. The clock at either is log
entry 2. -/
def Obligations.ClaimDeadlines : Prop :=
  ∀ (s : State) (c : ChanId) (r : OwnClaim), s.Awake → s.claimOf c = some r →
    (∃ t, exec (.refreshDeadlineExpiry c) s = .next t ∧ t.clock = { s.clock with now := max s.clock.now r.refreshAt % 2 ^ 40 }
      ∧ t.claimOf c = some { r with refreshAt := t.now + 8000 } ∧ (∀ d : ChanId, d ≠ c → t.claimOf d = s.claimOf d)
      ∧ (s.ClaimsOpen → t.Carries r)
      ∧ t = { s with
          clock := t.clock, claims := { s.claims with own := t.claims.own }, link := t.link, faults := t.faults, counters := t.counters })
    ∧ ∀ d i, r.sendDeadline = some d → s.chan c = some i → i.state = .claiming → i.outcome = none →
      ∃ t j, exec (.claimSendTimeout c) s = .next t ∧ t.chan c = some j ∧ t.clock = { s.clock with now := max s.clock.now d % 2 ^ 40 }
        ∧ (r.cls ≤ 2 → j.state = .leadIn ∧ j.wakeEnd = some (t.now + s.cfg.ampWake) ∧ j.listenEnd = some (t.now + 300)
          ∧ (t.claimOf c).isSome = true ∧ (t.claimOf c).bind OwnClaim.sendDeadline = none
          ∧ ((∃ g ∈ s.link.queue, g.kind = .claim ∧ g.tag = some r.tag) → t.link = s.link)
          ∧ ((∀ g ∈ s.link.queue, g.kind = .claim → g.tag ≠ some r.tag) → s.ClaimsOpen → t.Carries r))
        ∧ (2 < r.cls → j.state = .tail ∧ j.outcome = some .withdrawn ∧ j.tailEnd = some (t.now + 300) ∧ t.claimOf c = none)
        ∧ (∀ b : ChanId, b ≠ c → t.chan b = s.chan b ∧ t.claimOf b = s.claimOf b) ∧ t.calls = s.calls ∧ t.queue = s.queue
        ∧ Undisturbed { s with clock := t.clock } t

/-! ### Channels and the memory port -/

/-- The deadlines of LEAD_IN (R127, R128, R136, R156). At the wake end a buffered chime begins; one that is not buffered is awaited for 1 s;
with no chime HOLD begins. At the end of the listen window in HOLD, with the first speech block buffered, a phrase instance enters SPEAKING
and plays it, a LIVE instance enters LIVE with 5 s to its keep deadline; with it not buffered it is awaited for 1 s. A wait that reaches its
priming deadline raises PHRASE_UNDERRUN for the phrase awaited and ends the instance as UNDERRUN. The evacuation instance leaves for its
first playing, a message whose first block is buffered or a tone of 10 s, a tone too where every phrase is missing, and its claim is
established; a priming deadline does not end it: a chime awaited is passed over, and for speech awaited the playing becomes a tone. The
clock at each is log entry 2, the last part of a lead-in without a chime and its priming base log entry 18. -/
def Obligations.LeadInDeadlines : Prop :=
  ∀ (s : State) (c : ChanId) (i : ChanInst), s.Awake → s.chan c = some i → i.state = .leadIn →
    (∀ d, i.stage = .wake → i.wakeEnd = some d →
      ∃ (t : State) (j : ChanInst), exec (.wakeEnd c) s = .next t ∧ t.chan c = some j ∧ t.now = max s.now d % 2 ^ 40 ∧ j.wakeEnd = none
        ∧ (i.chime.isSome = true → i.buffered { phrase := 0, block := 0 } = true →
          j = { i with
            wakeEnd := none, stage := .chime, priming := none, play := { phrase := 0, block := 0 }, inPlay := .block,
            blockEnd := some (t.now + 32) })
        ∧ (i.chime.isSome = true → i.buffered { phrase := 0, block := 0 } = false →
          j = { i with wakeEnd := none, priming := some (d + 1000) })
        ∧ (i.chime = none → i.listenEnd.isSome = true →
          j = { i with
            wakeEnd := none, stage := .hold, priming := none, holdFrom := t.now, inPlay := .nothing, blockEnd := none })
        ∧ (i.chime.isSome = true ∨ i.listenEnd.isSome = true →
          t = { s with clock := { s.clock with now := t.now }, chans := s.chans.set c (some j), port := t.port }))
    ∧ (∀ d, i.listenEnd = some d →
      ∃ (t : State) (j : ChanInst), exec (.listenWindowEnd c) s = .next t ∧ t.chan c = some j ∧ t.now = max s.now d % 2 ^ 40
        ∧ (i.stage ≠ .hold → j = { i with listenEnd := none }
          ∧ t = { s with clock := { s.clock with now := t.now }, chans := s.chans.set c (some j), port := t.port })
        ∧ (∀ k p, i.stage = .hold → i.key = some k → k.isLive = false → i.evac = none → i.stopPending = false → i.playableFrom 1 = some p →
          i.buffered { phrase := p, block := 0 } = true →
          j.state = .speaking ∧ j.inPlay = .block ∧ j.play = { phrase := p, block := 0 } ∧ j.blockEnd = some (t.now + 32)
            ∧ j.buffer = i.buffer ∧ ∀ r, s.claimOf c = some r →
              t.claimOf c = some { r with established := true, refreshAt := t.now + 8000 })
        ∧ (∀ k p, i.stage = .hold → i.key = some k → k.isLive = false → i.evac = none → i.playableFrom 1 = some p →
          i.buffered { phrase := p, block := 0 } = false → i.priming = none →
          j.state = .leadIn ∧ j.priming = some (max i.holdFrom t.now + 1000))
        ∧ (∀ desk, i.stage = .hold → i.key = some (.live desk) →
          j.state = .live ∧ j.keepAt = some (t.now + 5000) ∧ ∀ r, s.claimOf c = some r →
            t.claimOf c = some { r with established := true, refreshAt := t.now + 8000 })
        ∧ (∀ b : ChanId, b ≠ c → t.chan b = s.chan b) ∧ t.zones = s.zones ∧ t.calls = s.calls ∧ t.queue = s.queue
        ∧ Undisturbed { s with clock := t.clock } t)
    ∧ (∀ d, i.priming = some d → i.evac = none → i.outcome = none →
      ∃ (t : State) (j : ChanInst), exec (.primingDeadline c) s = .next t ∧ t.chan c = some j ∧ t.now = max s.now d % 2 ^ 40
        ∧ j.state = .tail ∧ j.outcome = some .underrun ∧ j.tailEnd = some (t.now + 300) ∧ t.claimOf c = none
        ∧ ((t.faults.find .phraseUnderrun (some ((i.code i.awaited).getD 0)) false).isSome = true
          ∨ t.counters[(15 : Fin 16)] = min (s.counters[(15 : Fin 16)] + 1) 65535)
        ∧ s.Raised t .phraseUnderrun (some ((i.code i.awaited).getD 0))
        ∧ (∀ b : ChanId, b ≠ c → t.chan b = s.chan b) ∧ t.zones = s.zones ∧ t.calls = s.calls ∧ t.queue = s.queue
        ∧ Undisturbed { s with clock := t.clock } t)
    ∧ ∀ e, i.evac = some e → i.key = none → i.stopPending = false →
      (∀ d, i.listenEnd = some d → i.stage = .hold →
        ∃ (t : State) (j : ChanInst), exec (.listenWindowEnd c) s = .next t ∧ t.chan c = some j ∧ t.now = max s.now d % 2 ^ 40
          ∧ (e.chosen = .tone ∨ i.playableFrom 1 = none →
            j.state = .speaking ∧ j.inPlay = .nothing ∧ j.evac = some { chosen := .tone, toneEnd := some (t.now + 10000), pauseEnd := none })
          ∧ (∀ p, e.chosen = .message → i.playableFrom 1 = some p → i.buffered { phrase := p, block := 0 } = true →
            j.state = .speaking ∧ j.inPlay = .block ∧ j.play = { phrase := p, block := 0 } ∧ j.blockEnd = some (t.now + 32))
          ∧ (e.chosen = .tone ∨ i.playableFrom 1 = none ∨ (∃ p, i.playableFrom 1 = some p ∧ i.buffered { phrase := p, block := 0 } = true) →
            j.gapCount = 0 ∧ ∀ r, s.claimOf c = some r → t.claimOf c = some { r with established := true, refreshAt := t.now + 8000 })
          ∧ (∀ p, e.chosen = .message → i.playableFrom 1 = some p → i.buffered { phrase := p, block := 0 } = false → i.priming = none →
            j.state = .leadIn ∧ j.evac = some e ∧ j.priming = some (max i.holdFrom t.now + 1000))
          ∧ (∀ b : ChanId, b ≠ c → t.chan b = s.chan b) ∧ t.zones = s.zones ∧ t.calls = s.calls ∧ t.queue = s.queue
          ∧ Undisturbed { s with clock := t.clock } t)
      ∧ ∀ d, i.priming = some d →
        ∃ (t : State) (j : ChanInst), exec (.primingDeadline c) s = .next t ∧ t.chan c = some j ∧ t.now = max s.now d % 2 ^ 40
          ∧ s.Raised t .phraseUnderrun (some ((i.code i.awaited).getD 0))
          ∧ (i.stage = .wake → j.chime = none ∧ (i.listenEnd.isSome = true →
            j.state = .leadIn ∧ j.stage = .hold ∧ j.priming = none ∧ j.holdFrom = t.now ∧ j.evac = some e))
          ∧ (i.stage = .hold → j.state = .speaking ∧ j.inPlay = .nothing ∧ j.gapCount = 0
            ∧ j.evac = some { chosen := .tone, toneEnd := some (t.now + 10000), pauseEnd := none })
          ∧ (∀ b : ChanId, b ≠ c → t.chan b = s.chan b) ∧ t.zones = s.zones ∧ t.calls = s.calls ∧ t.queue = s.queue
          ∧ Undisturbed { s with clock := t.clock } t

/-- The reads of the memory port (R133, R134, R188), for an instance past LEAD_IN or before it. A directory entry is its first block in 20
bits and its block count in 12; a count of 0 raises PHRASE_MISSING for the phrase code and passes the phrase over. A block joins the buffer
behind the one there, and the fetch moves to the next place. A result that is no longer wanted changes no channel. In each case the port is
granted again if any channel asks: to the request of the lowest class, then of the fewest filled blocks, then of the lowest channel, for the
address of its directory entry or of its block. What a channel asks for is log entry 16, that it reads an entry for each place of a list log
entry 17. Reads in LEAD_IN are not spoken of here. -/
def Obligations.MemoryReads : Prop :=
  ∀ (s : State) (c : ChanId) (i : ChanInst), s.Awake → s.port.handedOver = true → s.chan c = some i → i.state ≠ .leadIn →
    ∀ g, s.port.transaction = some g → g.ch = c →
    (∀ p, g.request = .directory p → ∀ entry : BitVec 32,
      ∃ t, exec (.directoryReadComplete entry) s = .next t
        ∧ (g.wanted = false → t.chans = s.chans ∧ t.faults = s.faults)
        ∧ (g.wanted = true → t.chans = s.chans.set c (some
          { i with
            dirs := i.dirs ++ [{ phrase := p, firstBlock := entry.toNat / 4096, count := entry.toNat % 4096 }],
            fetch := if entry.toNat % 4096 = 0 then { phrase := p + 1, block := 0 } else i.fetch,
            chime := if entry.toNat % 4096 = 0 ∧ p = 0 then none else i.chime }))
        ∧ (entry.toNat % 4096 ≠ 0 → t.faults = s.faults ∧ t.link = s.link ∧ t.counters = s.counters)
        ∧ (g.wanted = true → entry.toNat % 4096 = 0 → ∀ k, i.code p = some k → s.Raised t .phraseMissing (some k))
        ∧ (t.port.transaction = none → ∀ d j, t.chan d = some j → t.wants j = none)
        ∧ (∀ h, t.port.transaction = some h → h.wanted = true ∧ ∃ j, t.chan h.ch = some j ∧ t.wants j = some h.request
          ∧ (∀ d v, t.chan d = some v → (t.wants v).isSome = true →
            j.cls < v.cls ∨ (j.cls = v.cls ∧ (j.buffer.length < v.buffer.length ∨ (j.buffer.length = v.buffer.length ∧ h.ch ≤ d))))
          ∧ (∀ q, h.request = .directory q → h.address = 16 + 4 * (j.code q).getD 0)
          ∧ ∀ q, h.request = .block q → h.address = (((j.dir q.phrase).map DirRead.firstBlock).getD 0 + q.block) * 1024)
        ∧ t = { s with
            chans := t.chans, port := { s.port with transaction := t.port.transaction }, faults := t.faults, link := t.link,
            counters := t.counters })
    ∧ ∀ p, g.request = .block p → ∀ samples : List (BitVec 16),
      ∃ t, exec (.blockReadComplete samples) s = .next t
        ∧ (g.wanted = false → t.chans = s.chans)
        ∧ (g.wanted = true → t.chans = s.chans.set c (some
          { i with
            buffer := i.buffer ++ [{ place := p, samples := samples }],
            fetch := if p.block + 1 < ((i.dir p.phrase).map DirRead.count).getD 0 then { p with block := p.block + 1 }
              else { phrase := p.phrase + 1, block := 0 } }))
        ∧ (t.port.transaction = none → ∀ d j, t.chan d = some j → t.wants j = none)
        ∧ (∀ h, t.port.transaction = some h → h.wanted = true ∧ ∃ j, t.chan h.ch = some j ∧ t.wants j = some h.request
          ∧ (∀ d v, t.chan d = some v → (t.wants v).isSome = true →
            j.cls < v.cls ∨ (j.cls = v.cls ∧ (j.buffer.length < v.buffer.length ∨ (j.buffer.length = v.buffer.length ∧ h.ch ≤ d))))
          ∧ (∀ q, h.request = .directory q → h.address = 16 + 4 * (j.code q).getD 0)
          ∧ ∀ q, h.request = .block q → h.address = (((j.dir q.phrase).map DirRead.firstBlock).getD 0 + q.block) * 1024)
        ∧ t = { s with chans := t.chans, port := { s.port with transaction := t.port.transaction } }

/-- Play in SPEAKING (R129, R131, R135), for a phrase instance. After a block the next block of its phrase is played if it is buffered; if
not, a gap of one block follows and UNDERRUNS counts, until the third gap ends the instance as UNDERRUN and raises PHRASE_UNDERRUN for the
phrase. After a phrase's last block, with a stop pending or with no phrase left, the instance enters TAIL. After a gap the block is tried
again. The clock is log entry 2. The chime and the gap before a phrase are not spoken of here, the evacuation message in a statement of its
own. -/
def Obligations.PlayGoesOn : Prop :=
  ∀ (s : State) (c : ChanId) (i : ChanInst) (d : Nat), s.Awake → s.chan c = some i → i.state = .speaking → i.evac = none →
    i.blockEnd = some d → ∀ n, (i.dir i.play.phrase).map DirRead.count = some n →
    (i.inPlay = .block →
      ∃ (t : State) (j : ChanInst), exec (.blockPlayed c) s = .next t ∧ t.chan c = some j ∧ t.now = max s.now d % 2 ^ 40
        ∧ (i.play.block + 1 < n →
            (i.buffer.drop 1).any (fun b => decide (b.place = { i.play with block := i.play.block + 1 })) = true →
          j = { i with
            buffer := i.buffer.drop 1, play := { i.play with block := i.play.block + 1 }, blockEnd := some (t.now + 32) })
        ∧ (i.play.block + 1 < n →
            (i.buffer.drop 1).any (fun b => decide (b.place = { i.play with block := i.play.block + 1 })) = false →
          t.counters[(10 : Fin 16)] = min (s.counters[(10 : Fin 16)] + 1) 65535 ∧ j.gapCount = i.gapCount + 1
            ∧ (i.gapCount < 2 → j = { i with
              buffer := i.buffer.drop 1, gapCount := i.gapCount + 1, inPlay := .gap false, blockEnd := some (t.now + 32) })
            ∧ (2 ≤ i.gapCount → j.state = .tail ∧ j.outcome = some (i.outcome.getD .underrun) ∧ t.claimOf c = none
              ∧ ∀ k, i.code i.play.phrase = some k → s.Raised t .phraseUnderrun (some k)))
        ∧ (n ≤ i.play.block + 1 → i.stopPending = true ∨ i.playableFrom (i.play.phrase + 1) = none →
          j.state = .tail ∧ j.outcome = some (i.outcome.getD .done) ∧ j.tailEnd = some (t.now + 300) ∧ t.claimOf c = none)
        ∧ (∀ q, n ≤ i.play.block + 1 → i.stopPending = false → i.playableFrom (i.play.phrase + 1) = some q →
            (i.buffer.drop 1).any (fun b => decide (b.place = { phrase := q, block := 0 })) = true →
          j = { i with buffer := i.buffer.drop 1, play := { phrase := q, block := 0 }, blockEnd := some (t.now + 32) })
        ∧ (∀ b : ChanId, b ≠ c → t.chan b = s.chan b) ∧ t.zones = s.zones ∧ t.calls = s.calls ∧ t.queue = s.queue
        ∧ Undisturbed { s with clock := t.clock } t)
    ∧ (i.inPlay = .gap false → i.play.block + 1 < n → i.buffered { i.play with block := i.play.block + 1 } = true →
      ∃ (t : State), exec (.gapEnd c) s = .next t
        ∧ t = { s with
            clock := { s.clock with now := max s.now d % 2 ^ 40 }, port := t.port,
            chans := s.chans.set c (some
              { i with play := { i.play with block := i.play.block + 1 }, inPlay := .block, blockEnd := some (t.now + 32) }) })

/-- The keep deadline ends a LIVE instance as ABORTED (R136). The tail's end (R132, R139, R168) frees the channel and its zones, a zone
with a short line to OFF and every other to IDLE, silent from now; an announcement that was DONE, with no repeat and no renewal, counts
ANN_DONE. The clock is log entry 2. Requeue, repeat and renewal at the tail end have a statement of their own. -/
def Obligations.InstanceEnds : Prop :=
  ∀ (s : State) (c : ChanId) (i : ChanInst) (d : Nat), s.Awake → s.chan c = some i →
    (i.state = .live → i.keepAt = some d → i.outcome = none →
      ∃ (t : State) (j : ChanInst), exec (.keepTimerExpiry c) s = .next t ∧ t.chan c = some j ∧ t.now = max s.now d % 2 ^ 40
        ∧ j.state = .tail ∧ j.outcome = some .aborted ∧ j.tailEnd = some (t.now + 300) ∧ t.claimOf c = none ∧ t.zones = s.zones
        ∧ (∀ b : ChanId, b ≠ c → t.chan b = s.chan b) ∧ t.calls = s.calls ∧ t.queue = s.queue ∧ Undisturbed { s with clock := t.clock } t)
    ∧ (∀ k x, i.state = .tail → i.tailEnd = some d → i.key = some x → i.outcome = some .done → s.cont c = some k →
      k.entry.repetition = .once → k.renewal = none → k.stopMark = none → s.queue.entries = [] →
      ∃ t, exec (.tailEnd c) s = .next t ∧ t.now = max s.now d % 2 ^ 40 ∧ t.chan c = none ∧ t.cont c = none ∧ t.queue.entries = []
        ∧ t.counters[(8 : Fin 16)] = min (s.counters[(8 : Fin 16)] + 1) 65535
        ∧ (∀ z : ZoneId, t.zone z =
            if z ∈ s.heldBy c then
              { s.zone z with
                state := if (s.zone z).lineStatus = .short then .off else .idle, lastAudible := some t.now }
            else s.zone z)
        ∧ (∀ z ∈ s.heldBy c, (t.level z).quietAt = some (t.now + 500))
        ∧ (∀ b : ChanId, b ≠ c → t.chan b = s.chan b) ∧ t.calls = s.calls ∧ Undisturbed { s with clock := t.clock } t)

/-- What follows an instance at its tail end (R92, R103 to R105). With no stop mark: withdrawn or preempted, the announcement returns as an
entry with one attempt more, after the backoff or at once, with the expiry it had and with its renewal's content if there is one; or it
ends, if that expiry is past, if its call is gone, at the eighth attempt of class 3 or 4, or if it is live and was preempted. DONE, it
gives a renewal with attempts 0, or the next of its repeat if that comes before its expiry; STOPPED or UNDERRUN, a renewal only. With a
stop mark there is no requeue and no repeat: withdrawn or preempted, the result is the mark's, and any other outcome gives its own; a
renewal is offered. The clock is log entry 2, which entry the tests of R104 look at log entry 39, the walk at the insertion log entry 14. -/
def Obligations.AnnouncementReturns : Prop :=
  (∀ (s : State) (c : ChanId) (i : ChanInst) (d : Nat) (k : Continuation) (o : Ending), s.Awake → s.chan c = some i →
    i.state = .tail → i.tailEnd = some d → s.cont c = some k → i.key = some k.entry.key → k.stopMark = none → i.outcome = some o →
    s.KeysApart → s.queue.entries.length < 24 → (∀ w, k.renewal = some w → w.key = k.entry.key) → ∀ now, now = max s.now d % 2 ^ 40 →
    ∃ t, exec (.tailEnd c) s = .next t ∧ t.now = now ∧ t.calls = s.calls
      ∧ (o = .withdrawn ∨ o = .preempted →
        (o = .preempted ∧ (∃ desk, k.entry.key = .live desk) ∨ (∃ x, k.entry.expiry = some x ∧ x ≤ now)
            ∨ (∃ id n, k.entry.key = .cue id n ∧ (k.entry.boundCall = none ∨ ∃ b, k.entry.boundCall = some b ∧ s.call b = none))
            ∨ (3 ≤ k.entry.cls ∧ 7 ≤ k.entry.attempts) →
          s.queue.entries = [] →
          t.queue.entries = [] ∧ t.counters[(9 : Fin 16)] = min (s.counters[(9 : Fin 16)] + 1) 65535)
        ∧ (¬(o = .preempted ∧ ∃ desk, k.entry.key = .live desk) → (∀ x, k.entry.expiry = some x → now < x) →
            (∀ id n, k.entry.key = .cue id n → ∃ b r, k.entry.boundCall = some b ∧ s.call b = some r) →
            (k.entry.cls ≤ 2 ∨ k.entry.attempts ≤ 6) →
          ∃ (v : State) (e : Entry), t = v.walk.walk ∧ e ∈ v.queue.entries
            ∧ e = { k.renewal.getD k.entry with
                tag := e.tag, seq := e.seq, attempts := min (k.entry.attempts + 1) 15, expiry := k.entry.expiry,
                notBefore := if o = .withdrawn then now + 1000 + 250 * (s.cfg.nodeId % 4) else now }))
      ∧ (∀ w, o = .done ∨ o = .stopped ∨ o = .underrun → k.renewal = some w →
        ∃ (v : State) (e : Entry), t = v.walk.walk ∧ e ∈ v.queue.entries
          ∧ e = { w with
              tag := e.tag, seq := e.seq, attempts := 0,
              notBefore := match w.repetition with | .continuous g => now + 1000 * g | _ => now })
      ∧ (∀ p m, o = .done → k.renewal = none → k.entry.repetition = .every p m → m ≠ some 1 →
        (∀ x, k.entry.expiry = some x → max (k.dispatchedAt + p * 60000) now < x) →
        ∃ (v : State) (e : Entry), t = v.walk.walk ∧ e ∈ v.queue.entries
          ∧ e = { k.entry with
              tag := e.tag, seq := e.seq, attempts := 0, repetition := .every p (m.map (· - 1)),
              notBefore := max (k.dispatchedAt + p * 60000) now })
      ∧ (∀ g, o = .done → k.renewal = none → k.entry.repetition = .continuous g →
        (∀ x, k.entry.expiry = some x → now + 1000 * g < x) →
        ∃ (v : State) (e : Entry), t = v.walk.walk ∧ e ∈ v.queue.entries
          ∧ e = { k.entry with tag := e.tag, seq := e.seq, attempts := 0, notBefore := now + 1000 * g })
      ∧ (k.renewal = none → s.queue.entries = [] → o = .stopped ∨ o = .underrun ∨ o = .obsolete ∨ o = .aborted
          ∨ (o = .done ∧ ∃ p, k.entry.repetition = .every p (some 1)) →
        t.queue.entries = []))
  ∧ (∀ (s : State) (c : ChanId) (i : ChanInst) (d : Nat) (k : Continuation) (o : Ending) (m : StopMark), s.Awake → s.chan c = some i →
    i.state = .tail → i.tailEnd = some d → s.cont c = some k → i.key = some k.entry.key → k.stopMark = some m → i.outcome = some o →
    s.KeysApart → s.queue.entries.length < 24 → (∀ w, k.renewal = some w → w.key = k.entry.key) → ∀ now, now = max s.now d % 2 ^ 40 →
    ∃ t, exec (.tailEnd c) s = .next t ∧ t.now = now ∧ t.calls = s.calls
      ∧ (k.renewal = none → s.queue.entries = [] →
        t.queue.entries = [] ∧ (o = .done → t.counters[(8 : Fin 16)] = min (s.counters[(8 : Fin 16)] + 1) 65535)
          ∧ (o ≠ .done → t.counters[(9 : Fin 16)] = min (s.counters[(9 : Fin 16)] + 1) 65535)
          ∧ ∀ desk tag, k.entry.key = .desk desk tag → s.onLink = true → s.link.queue.length < 8 → s.faults.firstMarked = none →
            ∃ f ∈ t.link.queue, f.kind = .announceResult ∧ f.dest = desk
              ∧ (o = .withdrawn ∨ o = .preempted → f.payload = [0#8, byte tag, if m = .stopped then 5#8 else 4#8])
              ∧ (o = .done → f.payload = [0#8, byte tag, 0#8]) ∧ (o = .obsolete → f.payload = [0#8, byte tag, 4#8])
              ∧ (o = .stopped → f.payload = [0#8, byte tag, 5#8]) ∧ (o = .underrun → f.payload = [0#8, byte tag, 11#8]))
      ∧ ∀ w, k.renewal = some w → ∃ (v : State) (e : Entry), t = v.walk.walk ∧ e ∈ v.queue.entries
        ∧ e = { w with
            tag := e.tag, seq := e.seq, attempts := 0,
            notBefore := match w.repetition with | .continuous g => now + 1000 * g | _ => now })

/-! ### Amplifiers and audio -/

/-- The amplifier enables and the zone audio by the table of R140, the fade of R132 and the gain of R140. An enable is asserted in TEST and
under a holder that is past CLAIMING or in a tail not entered from it. The fade multiplies a sample by (300 - t) / 300, the gain code G by
10^(-G/80): a product that is whole is taken as it is, another goes to a neighbouring whole number (which one is open, log entry 30). The
alert tone is 800 Hz and 600 Hz in turn, 1 s each, a sine at full scale that passes the gain code (R157; 16 kHz samples and their rounding
log entry 54): 0 at each half turn, 32767 at its heights, a quarter turn apart at a point of the circle. The targets and gain codes of R149
to R151: a target lies between zone_min and the upper bound, which the battery lowers, zone_max for class 0; a gain code is the zone's full
level less the target, in 0..255, and the flags say which limit or default was taken (0 in LIMITED, R160). -/
def Obligations.ZonesSound : Prop :=
  (∀ (s : State) (z : ZoneId),
    ((s.zone z).state = .idle ∨ (s.zone z).state = .off → s.ampEnable z = false ∧ (s.zoneAudio z).sound = .silence)
    ∧ ((s.zone z).state = .test → s.ampEnable z = true ∧ (s.zoneAudio z).sound = .pilot)
    ∧ ∀ (c : ChanId) (i : ChanInst), (s.zone z).state = .held c → s.chan c = some i →
      (i.state = .claiming ∨ (i.state = .tail ∧ i.silentTail = true) →
        s.ampEnable z = false ∧ (s.zoneAudio z).sound = .silence)
      ∧ (i.state = .leadIn ∨ i.state = .speaking ∨ i.state = .live ∨ (i.state = .tail ∧ i.silentTail = false) →
        s.ampEnable z = true ∧ s.zoneAudio z = { sound := i.sound s.now, fade := (s.zoneAudio z).fade, gain := (s.zone z).gain.getD 0 }
          ∧ (i.tailEnd = none → (s.zoneAudio z).fade = none)
          ∧ ∀ e, i.tailEnd = some e → (s.zoneAudio z).fade = some (300 - (e - s.now))))
  ∧ (∀ (t : Nat) (x : BitVec 16), t ≤ 300 →
    ((300 ∣ x.toInt * (300 - t) → (fadeSample t x).toInt * 300 = x.toInt * (300 - t))
      ∧ (x.toInt * (300 - t) - 300 < (fadeSample t x).toInt * 300 ∧ (fadeSample t x).toInt * 300 < x.toInt * (300 - t) + 300)))
  ∧ (∀ (g : Nat) (x : BitVec 16),
    (∀ q : Int, q ^ 80 * 10 ^ g = x.toInt ^ 80 → (0 ≤ q ↔ 0 ≤ x.toInt) → (attenuateSample g x).toInt = q)
      ∧ (0 ≤ x.toInt → 0 ≤ (attenuateSample g x).toInt) ∧ (x.toInt ≤ 0 → (attenuateSample g x).toInt ≤ 0)
      ∧ ((attenuateSample g x).toInt.natAbs - 1) ^ 80 * 10 ^ g ≤ x.toInt.natAbs ^ 80
      ∧ x.toInt.natAbs ^ 80 < ((attenuateSample g x).toInt.natAbs + 1) ^ 80 * 10 ^ g)
  ∧ (∀ (a : ZoneAudio) (x : BitVec 16), a.fade = none → a.gain = 0 → a.out x = x)
  ∧ (∀ (i : ChanInst) (now e : Nat), i.evac.bind EvacCycle.toneEnd = some e → now < e → e ≤ now + 10000 →
    i.sound now = .tone (if (10000 - (e - now)) / 1000 % 2 = 0 then 800 else 600) ((10000 - (e - now)) % 1000))
  ∧ (∀ hertz n k quarter : Nat, (hertz = 800 ∧ k = 4 * n % 80 ∧ quarter = 5) ∨ (hertz = 600 ∧ k = 3 * n % 80 ∧ quarter = 60) →
    (k = 0 ∨ k = 40 → (toneSample hertz n).toInt = 0) ∧ (k = 20 → (toneSample hertz n).toInt = 32767)
      ∧ (k = 60 → (toneSample hertz n).toInt = -32767)
      ∧ (0 < k → k < 40 → 0 < (toneSample hertz n).toInt) ∧ (40 < k → (toneSample hertz n).toInt < 0)
      ∧ (((toneSample hertz n).toInt.natAbs - 1) ^ 2 + ((toneSample hertz (n + quarter)).toInt.natAbs - 1) ^ 2 ≤ 32767 ^ 2
        ∧ 32767 ^ 2 ≤ ((toneSample hertz n).toInt.natAbs + 1) ^ 2 + ((toneSample hertz (n + quarter)).toInt.natAbs + 1) ^ 2)
      ∧ toneSample hertz (n + 80) = toneSample hertz n)
  ∧ (∀ (s : State) (z : ZoneId) (hertz ms k : Nat) (x : BitVec 16), (s.zoneAudio z).sound = .tone hertz ms → (s.zoneAudio z).fade = none →
    s.zoneSample z k x = if (s.zoneAudio z).gain = 0 then toneSample hertz (16 * ms + k)
      else attenuateSample (s.zoneAudio z).gain (toneSample hertz (16 * ms + k)))
  ∧ (∀ (s : State) (z : ZoneId) (cls : Nat), (s.cfg.zones[z]).zoneMin ≤ (s.cfg.zones[z]).zoneMax →
    (cls = 0 → s.target z cls = (s.cfg.zones[z]).zoneMax)
    ∧ (1 ≤ cls → cls ≤ 4 → ∀ a : Nat,
      a = (if (s.cfg.zones[z]).sensor = false ∨ (s.level z).sensorFault ≠ .none ∨ (s.level z).lastUpdate + s.cfg.staleLimit * 1000 < s.now
        then (s.cfg.zones[z]).defaultAmbient else (s.level z).ambient) + s.cfg.margin.toList.getD (cls - 1) 0 →
      ∀ top : Nat, top = (if s.battery = true then max (s.cfg.zones[z]).zoneMin ((s.cfg.zones[z]).zoneMax - s.cfg.batteryCut)
        else (s.cfg.zones[z]).zoneMax) →
      (s.cfg.zones[z]).zoneMin ≤ s.target z cls ∧ s.target z cls ≤ top
        ∧ ((s.cfg.zones[z]).zoneMin ≤ a → a ≤ top → s.target z cls = a)
        ∧ (a < (s.cfg.zones[z]).zoneMin → s.target z cls = (s.cfg.zones[z]).zoneMin) ∧ (top < a → s.target z cls = top))
    ∧ s.gainFor z cls ≤ 255
    ∧ (s.startup.phase ≠ .limited →
      ((s.cfg.zones[z]).zoneFull ≤ s.target z cls → s.gainFor z cls = 0)
      ∧ (s.target z cls ≤ (s.cfg.zones[z]).zoneFull → (s.cfg.zones[z]).zoneFull ≤ s.target z cls + 255 →
        s.gainFor z cls + s.target z cls = (s.cfg.zones[z]).zoneFull)
      ∧ (s.target z cls + 255 < (s.cfg.zones[z]).zoneFull → s.gainFor z cls = 255)
      ∧ (s.limitedFlag [z] cls = true ↔ (s.cfg.zones[z]).zoneFull < s.target z cls)
      ∧ (s.defaultFlag [z] cls = true ↔ cls ≠ 0 ∧ ((s.cfg.zones[z]).sensor = false ∨ (s.level z).sensorFault ≠ .none
        ∨ (s.level z).lastUpdate + s.cfg.staleLimit * 1000 < s.now)))
    ∧ (s.startup.phase = .limited → s.gainFor z cls = 0))

/-! ### Noise and level -/

/-- A GOOD gate's measured level M updates the zone's ambient average A (R147): halfway up at once, an eighth down, never past M, so that
A stays between its old value and M; the last update is the gate's end. No other zone's average changes. -/
def Obligations.AmbientFollowsGoodGate : Prop :=
  (∀ a m : Nat,
    (a < m → newAmbient a m = a + (m - a + 1) / 2) ∧ (m < a → newAmbient a m = a - max 1 ((a - m) / 8)) ∧ (m = a → newAmbient a m = a)
      ∧ min a m ≤ newAmbient a m ∧ newAmbient a m ≤ max a m)
  ∧ ∀ (s : State) (z : ZoneId) (g : Gate), s.Awake → (s.level z).gate = some g →
    gateClass (s.level z).overflow (s.level z).count s.cfg.gateLength = .good →
    ∃ t, exec (.gateEnd z) s = .next t
      ∧ (t.level z).ambient = newAmbient (s.level z).ambient (measured (s.level z).count s.cfg.gateLength)
      ∧ (t.level z).lastUpdate = g.endAt ∧ (∀ y : ZoneId, y ≠ z → (t.level y).ambient = (s.level y).ambient)
      ∧ ((∀ y : ZoneId, 120 ≤ (s.level y).ambient ∧ (s.level y).ambient ≤ 520) → 120 ≤ (t.level z).ambient ∧ (t.level z).ambient ≤ 520)

/-- A complete gate moves the zone's runs and its sensor fault (R145, R146): an overflow or a level above 520 is HIGH, a count of 0 SILENT,
any other GOOD, and three in a row give that state. The condition of a sensor fault is raised as the zone enters it and cleared as the zone
leaves it, and at no other gate; where one takes the other's place both happen (stated for a table with an empty slot). A quiet deadline
passes (R143); an edge counts for the counter's user alone (R142). The clock is log entry 2; that a gate begins, or not, at the end of an
event is log entry 15. -/
def Obligations.GatesAndEdges : Prop :=
  (∀ (s : State) (z : ZoneId) (g : Gate), s.Awake → (s.level z).gate = some g →
    ∃ t, exec (.gateEnd z) s = .next t ∧ t.clock = { s.clock with now := max s.now g.endAt % 2 ^ 40 }
      ∧ ((s.level z).overflow = true ∨ 520 < 120 + 80 * (s.level z).count / s.cfg.gateLength →
        (t.level z).highRun = min ((s.level z).highRun + 1) 3 ∧ (t.level z).silentRun = 0 ∧ (t.level z).goodRun = 0
          ∧ (t.level z).ambient = (s.level z).ambient
          ∧ (2 ≤ (s.level z).highRun → (t.level z).sensorFault = .high))
      ∧ ((s.level z).overflow = false → (s.level z).count = 0 →
        (t.level z).silentRun = min ((s.level z).silentRun + 1) 3 ∧ (t.level z).highRun = 0 ∧ (t.level z).goodRun = 0
          ∧ (t.level z).ambient = (s.level z).ambient
          ∧ (2 ≤ (s.level z).silentRun → (t.level z).sensorFault = .silent))
      ∧ ((s.level z).overflow = false → (s.level z).count ≠ 0 → 120 + 80 * (s.level z).count / s.cfg.gateLength ≤ 520 →
        (t.level z).goodRun = min ((s.level z).goodRun + 1) 3 ∧ (t.level z).highRun = 0 ∧ (t.level z).silentRun = 0
          ∧ (2 ≤ (s.level z).goodRun → (t.level z).sensorFault = .none))
      ∧ ((t.level z).sensorFault = (s.level z).sensorFault → ∀ i : Fin 16, (t.faults.slots[i]).record = (s.faults.slots[i]).record)
      ∧ ((s.level z).sensorFault = .none → (t.level z).sensorFault = .high → s.Raised t .sensorHigh (some z.val))
      ∧ ((s.level z).sensorFault = .none → (t.level z).sensorFault = .silent → s.Raised t .sensorSilent (some z.val))
      ∧ ((s.level z).sensorFault = .high → (t.level z).sensorFault = .none → s.Cleared t .sensorHigh (some z.val))
      ∧ ((s.level z).sensorFault = .silent → (t.level z).sensorFault = .none → s.Cleared t .sensorSilent (some z.val))
      ∧ (s.faults.HasRoom → (s.level z).sensorFault = .silent → (t.level z).sensorFault = .high →
        s.Raised t .sensorHigh (some z.val) ∧ s.Cleared t .sensorSilent (some z.val))
      ∧ (s.faults.HasRoom → (s.level z).sensorFault = .high → (t.level z).sensorFault = .silent →
        s.Raised t .sensorSilent (some z.val) ∧ s.Cleared t .sensorHigh (some z.val))
      ∧ t = { s with clock := t.clock, levels := t.levels, link := t.link, faults := t.faults, counters := t.counters })
  ∧ (∀ (s : State) (z : ZoneId) (d : Nat), s.Awake → (s.level z).quietAt = some d →
    ∃ t, exec (.quietDeadlineExpiry z) s = .next t ∧ (t.level z).quietAt = none
      ∧ t.gateMayStart z = false ∧ (∀ y : ZoneId, (t.level y).ambient = (s.level y).ambient)
      ∧ t = { s with clock := { s.clock with now := max s.now d % 2 ^ 40 }, levels := t.levels })
  ∧ ∀ (s : State) (z : ZoneId) (i : PulseInput), s.Awake →
    ((s.level z).user = .noise ∧ i = .noiseSensor ∨ (s.level z).user = .line ∧ i = .lineSense →
      exec (.risingPulseEdge z i) s = .next
        { s with
          levels := s.levels.set z
            (if (s.level z).count < 4095 then { s.level z with count := (s.level z).count + 1 }
             else { s.level z with overflow := true }) })
    ∧ (¬((s.level z).user = .noise ∧ i = .noiseSensor ∨ (s.level z).user = .line ∧ i = .lineSense) →
      exec (.risingPulseEdge z i) s = .next s)

/-! ### Evacuation -/

/-- EVAC_START (R154, R155). In IDLE the node enters evacuation from the link: every present zone that is not OFF is held by channel 0,
whose evacuation instance enters LEAD_IN; the other channels are FREE or in TAIL, every round ends, and the calls stay. While ACTIVE the
link joins the source. The order of these effects is log entry 31. -/
def Obligations.EvacuationEntered : Prop :=
  ∀ (dst src : Byte) (payload : List Byte) (s : State), s.Reaches .evacStart dst src → payload = [] →
    (s.evac.active = true → exec (.evacStart dst src payload) s = .next { s.taken with evac := { s.evac with link := true } })
    ∧ (s.evac.active = false →
      ∃ (t : State) (j : ChanInst), exec (.evacStart dst src payload) s = .next t ∧ t.evac.active = true ∧ t.evac.link = true
        ∧ t.evac.input = false ∧ (s.triggered = true → t.evac.repeatAt = some (s.now + 5000))
        ∧ t.chan 0 = some j ∧ j.state = .leadIn ∧ j.cls = 0 ∧ j.key = none ∧ j.evac.isSome = true
        ∧ j.wakeEnd = some (s.now + s.cfg.ampWake) ∧ j.listenEnd = some (s.now + 300)
        ∧ (∀ c : ChanId, c ≠ 0 → ∀ i, t.chan c = some i → i.state = .tail)
        ∧ (∀ c : ChanId, c ≠ 0 → t.claimOf c = none ∨ t.claimOf c = s.claimOf c)
        ∧ (∀ z : ZoneId, (s.zone z).present = true → (s.zone z).state ≠ .off → (t.zone z).state = .held 0)
        ∧ (∀ z : ZoneId, (s.zone z).state = .off → (t.zone z).state = .off)
        ∧ t.sup.scan.inRound = false ∧ t.calls = s.calls ∧ t.clock = s.clock ∧ t.startup = s.startup ∧ t.store = s.store
        ∧ t.claims.occupancy = s.claims.occupancy ∧ t.sup.contacts = s.sup.contacts)

/-- The end of evacuation (R158, R159). EVAC_STOP with no trigger asserted ends it: IDLE with no source, and the evacuation instance in
TAIL as DONE. With a trigger asserted, or at the repeat deadline, EVAC_START is offered again and the deadline set 5 s on. With none
asserted the deadline goes. In IDLE an EVAC_STOP is ignored. The clock at that expiry is log entry 2. -/
def Obligations.EvacuationEnds : Prop :=
  (∀ (dst src : Byte) (payload : List Byte) (s : State), s.Reaches .evacStop dst src → payload = [] →
    (s.evac.active = false → exec (.evacStop dst src payload) s = .next s.taken)
    ∧ (∀ i, s.evac.active = true → s.triggered = false → s.chan 0 = some i → i.outcome = none → i.state ≠ .tail →
      ∃ (t : State) (j : ChanInst), exec (.evacStop dst src payload) s = .next t
        ∧ t.evac = { s.evac with active := false, input := false, link := false } ∧ t.chan 0 = some j ∧ j.state = .tail
        ∧ j.outcome = some .done ∧ j.tailEnd = some (s.now + 300) ∧ t.calls = s.calls
        ∧ Undisturbed { s.taken with evac := t.evac } t)
    ∧ (s.evac.active = true → s.triggered = true →
      ∃ t, exec (.evacStop dst src payload) s = .next t ∧ t.evac = { s.evac with repeatAt := some (s.now + 5000) }
        ∧ (s.link.queue.length < 8 → ∃ f ∈ t.link.queue, f.kind = .evacStart ∧ f.payload = [])
        ∧ t = { s with evac := t.evac, link := t.link, faults := t.faults, counters := t.counters }))
  ∧ ∀ (s : State) (d : Nat), s.Awake → s.onLink = true → s.evac.repeatAt = some d →
    (s.triggered = false → exec .evacRepeatExpiry s = .next
      { s with clock := { s.clock with now := max s.now d % 2 ^ 40 }, evac := { s.evac with repeatAt := none } })
    ∧ (s.triggered = true →
      ∃ t, exec .evacRepeatExpiry s = .next t ∧ t.now = max s.now d % 2 ^ 40
        ∧ t.evac = { s.evac with repeatAt := some (t.now + 5000) }
        ∧ (s.link.queue.length < 8 → ∃ f ∈ t.link.queue, f.kind = .evacStart ∧ f.payload = [])
        ∧ t = { s with
            clock := { s.clock with now := t.now }, evac := t.evac, link := t.link, faults := t.faults, counters := t.counters })

/-- The evacuation cycle in SPEAKING (R156, R157): a tone playing's end begins a pause of 2 s; a pause's end begins the playing chosen, with
no gap counted: ten tones of 1 s, or the first phrase of the message when its first block is buffered. The message is played block after
block and phrase after phrase; a block not buffered is a gap of one block, which counts; the third gap raises PHRASE_UNDERRUN for the phrase
and turns the rest of the playing into a tone of 10 s; and after its last phrase the pause begins. The clock is log entry 2, the tone in
place of a message found missing log entry 21. -/
def Obligations.EvacuationCycle : Prop :=
  ∀ (s : State) (i : ChanInst) (e : EvacCycle) (d : Nat), s.Awake → s.chan 0 = some i → i.state = .speaking → i.evac = some e →
    (e.toneEnd = some d →
      ∃ (t : State) (j : ChanInst) (f : EvacCycle), exec .tonePlayingEnd s = .next t ∧ t.now = max s.now d % 2 ^ 40 ∧ t.chan 0 = some j
        ∧ j.state = .speaking ∧ j.inPlay = .nothing ∧ j.evac = some f ∧ f.toneEnd = none ∧ f.pauseEnd = some (t.now + 2000)
        ∧ (s.store.valid = false → f.chosen = .tone)
        ∧ (∀ c : ChanId, c ≠ 0 → t.chan c = s.chan c) ∧ t.zones = s.zones ∧ t.calls = s.calls ∧ t.queue = s.queue
        ∧ Undisturbed { s with clock := t.clock } t)
    ∧ (e.pauseEnd = some d →
      ∃ (t : State) (j : ChanInst), exec .evacPauseEnd s = .next t ∧ t.now = max s.now d % 2 ^ 40 ∧ t.chan 0 = some j
        ∧ (e.chosen = .tone → j.state = .speaking ∧ j.gapCount = 0
          ∧ j.evac = some { chosen := .tone, toneEnd := some (t.now + 10000), pauseEnd := none })
        ∧ (∀ p, e.chosen = .message → i.stopPending = false → i.play.phrase = 0 → i.playableFrom 1 = some p →
            i.buffered { phrase := p, block := 0 } = true →
          j = { i with
            gapCount := 0, evac := some { e with pauseEnd := none }, play := { phrase := p, block := 0 }, inPlay := .block,
            blockEnd := some (t.now + 32) })
        ∧ (∀ c : ChanId, c ≠ 0 → t.chan c = s.chan c) ∧ t.zones = s.zones ∧ t.calls = s.calls ∧ t.queue = s.queue
        ∧ Undisturbed { s with clock := t.clock } t)
    ∧ ∀ n, i.blockEnd = some d → (i.dir i.play.phrase).map DirRead.count = some n →
      (i.inPlay = .block → ∀ after, after = { i.play with block := i.play.block + 1 } →
        ∃ (t : State) (j : ChanInst), exec (.blockPlayed 0) s = .next t ∧ t.now = max s.now d % 2 ^ 40 ∧ t.chan 0 = some j
          ∧ (i.play.block + 1 < n → (i.buffer.drop 1).any (fun b => decide (b.place = after)) = true →
            j = { i with buffer := i.buffer.drop 1, play := after, blockEnd := some (t.now + 32) })
          ∧ (i.play.block + 1 < n → (i.buffer.drop 1).any (fun b => decide (b.place = after)) = false →
            t.counters[(10 : Fin 16)] = min (s.counters[(10 : Fin 16)] + 1) 65535 ∧ j.gapCount = i.gapCount + 1
              ∧ (i.gapCount < 2 → j = { i with
                buffer := i.buffer.drop 1, gapCount := i.gapCount + 1, inPlay := .gap false, blockEnd := some (t.now + 32) })
              ∧ (2 ≤ i.gapCount → j.state = .speaking ∧ j.inPlay = .nothing
                ∧ j.evac = some { chosen := .tone, toneEnd := some (t.now + 10000), pauseEnd := none }
                ∧ ∀ k, i.code i.play.phrase = some k → s.Raised t .phraseUnderrun (some k)))
          ∧ (n ≤ i.play.block + 1 → i.stopPending = false → i.playableFrom (i.play.phrase + 1) = none → i.play.phrase ≠ 0 →
            j.state = .speaking ∧ j.inPlay = .nothing ∧ ∃ f, j.evac = some f ∧ f.toneEnd = none ∧ f.pauseEnd = some (t.now + 2000)
              ∧ (s.store.valid = false → f.chosen = .tone))
          ∧ (∀ q, n ≤ i.play.block + 1 → i.stopPending = false → i.playableFrom (i.play.phrase + 1) = some q →
              (i.buffer.drop 1).any (fun b => decide (b.place = { phrase := q, block := 0 })) = true →
            j = { i with buffer := i.buffer.drop 1, play := { phrase := q, block := 0 }, blockEnd := some (t.now + 32) })
          ∧ (∀ c : ChanId, c ≠ 0 → t.chan c = s.chan c) ∧ t.zones = s.zones ∧ t.calls = s.calls ∧ t.queue = s.queue
          ∧ Undisturbed { s with clock := t.clock } t)
      ∧ (i.inPlay = .gap false → i.play.block + 1 < n → i.buffered { i.play with block := i.play.block + 1 } = true →
        ∃ t, exec (.gapEnd 0) s = .next t
          ∧ t = { s with
              clock := { s.clock with now := max s.now d % 2 ^ 40 }, port := t.port,
              chans := s.chans.set 0 (some
                { i with play := { i.play with block := i.play.block + 1 }, inPlay := .block, blockEnd := some (t.now + 32) }) })

/-! ### Supervision -/

/-- A sample of the contacts outside START (R161): the next is due a sample period on, and each debouncer follows the rule. Two equal
samples set an UNKNOWN level; two in a row against the accepted level change it. A change of a contact's accepted level outside START acts
by the contact's role (R162, R163): a spare alarm's condition follows the level, an amplifier's sets the flag of exactly the zones in the
mask of an amplifier at fault, and a trigger asserted in IDLE enters evacuation from the input. That the sample carries the pins' levels
and the command of a change the accepted level is log entry 28, that the pins keep their levels log entry 33, and that a level accepted
already changes nothing log entry 3. -/
def Obligations.ContactsDebounced : Prop :=
  (∀ (pins : BitVec 8) (s : State), s.Awake → s.startup.phase ≠ .start →
    ∃ t, exec (.contactSample pins) s = .next t ∧ t.sup.pins = some pins ∧ t.sup.sampleAt = some (s.now + s.cfg.samplePeriod)
      ∧ t.clock = s.clock ∧ t.calls = s.calls ∧ t.startup = s.startup ∧ t.store = s.store
      ∧ ∀ c : ContactId,
        (t.sup.contacts[c]).previous = some (pins.getLsbD c.val == (s.cfg.contacts[c]).activeHigh)
          ∧ ((s.sup.contacts[c]).level = .unknown →
            ((s.sup.contacts[c]).previous = some (pins.getLsbD c.val == (s.cfg.contacts[c]).activeHigh) →
              (t.sup.contacts[c]).level = acceptedOf (pins.getLsbD c.val == (s.cfg.contacts[c]).activeHigh))
            ∧ ((s.sup.contacts[c]).previous ≠ some (pins.getLsbD c.val == (s.cfg.contacts[c]).activeHigh) →
              (t.sup.contacts[c]).level = .unknown))
          ∧ ((s.sup.contacts[c]).level = acceptedOf (pins.getLsbD c.val == (s.cfg.contacts[c]).activeHigh) →
            (t.sup.contacts[c]).level = (s.sup.contacts[c]).level ∧ (t.sup.contacts[c]).candidate = 0)
          ∧ ((s.sup.contacts[c]).level = acceptedOf (!(pins.getLsbD c.val == (s.cfg.contacts[c]).activeHigh)) →
            ((s.sup.contacts[c]).candidate = 0 →
              (t.sup.contacts[c]).level = (s.sup.contacts[c]).level ∧ (t.sup.contacts[c]).candidate = 1)
            ∧ ((s.sup.contacts[c]).candidate ≠ 0 →
              (t.sup.contacts[c]).level = acceptedOf (pins.getLsbD c.val == (s.cfg.contacts[c]).activeHigh)
                ∧ (t.sup.contacts[c]).candidate = 0)))
  ∧ ∀ (c : ContactId) (active : Bool) (s : State), s.Awake → s.startup.phase ≠ .start →
    ((s.sup.contacts[c]).level = acceptedOf active → exec (.acceptedLevelChange c active) s = .next s)
    ∧ ((s.sup.contacts[c]).level ≠ acceptedOf active →
      ∃ t, exec (.acceptedLevelChange c active) s = .next t ∧ (t.sup.contacts[c]).level = acceptedOf active
        ∧ (t.sup.contacts[c]).candidate = 0 ∧ (∀ d : ContactId, d ≠ c → t.sup.contacts[d] = s.sup.contacts[d])
        ∧ ((s.cfg.contacts[c]).role = .unused → t = { s with sup := t.sup })
        ∧ ((s.cfg.contacts[c]).role = .spareAlarm →
          (active = false → t.faults.hasActive .spareAlarm (some c.val) = false ∧ s.Cleared t .spareAlarm (some c.val))
          ∧ (active = true → s.faults.hasActive .spareAlarm (some c.val) = false → s.Raised t .spareAlarm (some c.val))
          ∧ (active = true → t.faults.hasActive .spareAlarm (some c.val) = true
            ∨ t.counters[(15 : Fin 16)] = min (s.counters[(15 : Fin 16)] + 1) 65535)
          ∧ t = { s with sup := t.sup, faults := t.faults, link := t.link, counters := t.counters })
        ∧ (∀ a, (s.cfg.contacts[c]).role = .ampFault a → ∀ z : ZoneId,
          (t.zone z).ampFault = true ↔ ∃ b : Fin 4, z ∈ s.cfg.amplifiers[b] ∧ ∃ d : ContactId,
            (s.cfg.contacts[d]).role = .ampFault b ∧ (t.sup.contacts[d]).level = .active)
        ∧ ((s.cfg.contacts[c]).role = .evacTrigger → active = true → s.evac.active = false →
          t.evac.active = true ∧ t.evac.input = true ∧ t.evac.link = false)
        ∧ ((s.cfg.contacts[c]).role = .mainsBattery → s.queue.entries = [] →
          (active = false → t.faults.hasActive .mainsBattery (some c.val) = false)
          ∧ (active = true → t.battery = true ∧ (t.faults.hasActive .mainsBattery (some c.val) = true
            ∨ t.counters[(15 : Fin 16)] = min (s.counters[(15 : Fin 16)] + 1) 65535)))
        ∧ t.clock = s.clock ∧ t.calls = s.calls ∧ t.startup = s.startup ∧ t.store = s.store)

/-- A round begins at its deadline (R164, R165, R169): the next is due a round period on. In evacuation every present zone counts as
skipped. Otherwise the first group is tested if it can be: its zones that are IDLE or OFF with no amplifier fault enter TEST, its other
present zones count as skipped, and the settle of 50 ms begins. The tenth skip in a row of a zone raises LINE_UNTESTED for it, and no other
skip does (stated where one zone reaches it). The clock at that expiry is log entry 2. -/
def Obligations.RoundBegins : Prop :=
  ∀ (s : State) (d : Nat), s.Awake → s.sup.scan.roundAt = some d → s.cfg.groupSize ∈ [1, 2, 4, 8] →
    ∃ t, exec .roundDeadlineExpiry s = .next t ∧ t.now = max s.now d % 2 ^ 40
      ∧ t.sup.scan.roundAt = some (t.now + s.cfg.roundPeriod * 60000)
      ∧ (s.evac.active = true → t.zones = s.zones ∧ t.sup.scan = { s.sup.scan with roundAt := t.sup.scan.roundAt }
        ∧ ∀ z : ZoneId, (t.sup.lines[z]).skips =
          if (s.zone z).present then min ((s.sup.lines[z]).skips + 1) 255 else (s.sup.lines[z]).skips)
      ∧ (s.evac.active = true →
        ((∀ z : ZoneId, (s.zone z).present = true → (s.sup.lines[z]).skips ≠ 9) → t.counters = s.counters
          ∧ ∀ i : Fin 16, (t.faults.slots[i]).record = (s.faults.slots[i]).record)
        ∧ (∀ z : ZoneId, (s.zone z).present = true → (s.sup.lines[z]).skips = 9 →
          (∀ y : ZoneId, y ≠ z → (s.zone y).present = true → (s.sup.lines[y]).skips ≠ 9) →
          s.Raised t .lineUntested (some z.val)))
      ∧ (s.evac.active = false → (∃ z ∈ s.cfg.groupZones 0, s.testable z = true) → ∀ z ∈ s.cfg.groupZones 0,
        (s.zone z).present = true → s.testable z = false → (s.sup.lines[z]).skips = 9 →
        (∀ y ∈ s.cfg.groupZones 0, y ≠ z → (s.sup.lines[y]).skips ≠ 9) → s.Raised t .lineUntested (some z.val))
      ∧ (s.evac.active = false → (∃ z ∈ s.cfg.groupZones 0, s.testable z = true) →
        t.sup.scan = { roundAt := t.sup.scan.roundAt, inRound := true, group := some 0, stage := some .settle, stageAt := some (t.now + 50) }
          ∧ ∀ z : ZoneId, z ∈ s.cfg.groupZones 0 →
            t.zone z = (if s.testable z then { s.zone z with state := .test } else s.zone z)
              ∧ (t.sup.lines[z]).skips =
                if s.testable z then (s.sup.lines[z]).skips
                else if (s.zone z).present then min ((s.sup.lines[z]).skips + 1) 255 else (s.sup.lines[z]).skips)
      ∧ t.calls = s.calls ∧ t.queue = s.queue ∧ t.chans = s.chans ∧ t.claims = s.claims ∧ t.evac = s.evac

/-- The stages of a group (R164 to R166). The settle's end lends the counters of the zones in TEST for a gate of 100 ms. The gate's end
judges each of them by the window of R165 and moves its runs and its status by the tables of R166: a fail run of 2 confirms SHORT or OPEN,
three passes in a row clear it, and the zone goes to OFF if its line is short, else to IDLE. LINE_SHORT and LINE_OPEN are raised as a zone's
status comes to SHORT and OPEN and cleared as it leaves them, and LINE_UNTESTED is cleared (R166, R169; stated for one zone in TEST and a
fault table with an empty slot). With no zone back in IDLE no walk is made (R96). The spacing's end begins the next group that has a zone to
test. The clock is log entry 2; that all zones of a group complete in the one command, lowest first, log entry 29. -/
def Obligations.GroupTested : Prop :=
  ∀ (s : State) (g d : Nat), s.Awake → s.sup.scan.group = some g → s.sup.scan.stageAt = some d →
    (s.sup.scan.stage = some .settle →
      ∃ t, exec .settleEnd s = .next t ∧ t.now = max s.now d % 2 ^ 40
        ∧ t.sup.scan = { s.sup.scan with stage := some .gate, stageAt := some (t.now + 100) }
        ∧ (∀ z : ZoneId, t.level z =
            if z ∈ s.cfg.groupZones g ∧ s.inTest z = true then
              { s.level z with count := 0, overflow := false, user := .line, gate := none }
            else s.level z)
        ∧ t = { s with clock := { s.clock with now := t.now }, sup := { s.sup with scan := t.sup.scan }, levels := t.levels })
    ∧ (s.sup.scan.stage = some .gate → s.queue.entries = [] →
      ∃ t, exec .lineGateEnd s = .next t ∧ t.now = max s.now d % 2 ^ 40
        ∧ (∀ z : ZoneId, z ∈ s.cfg.groupZones g → (s.zone z).state = .test →
          ∃ st, t.zone z = { s.zone z with
              lineStatus := st, lastAudible := some t.now, state := if st = .short then .off else .idle }
            ∧ (t.sup.lines[z]).skips = 0
            ∧ ((s.level z).overflow = false → (s.cfg.zones[z]).lo ≤ (s.level z).count → (s.level z).count ≤ (s.cfg.zones[z]).hi →
              (t.sup.lines[z]).failRun = none ∧ (t.sup.lines[z]).passRun = min ((s.sup.lines[z]).passRun + 1) 3
                ∧ ((s.zone z).lineStatus ∈ [.short, .openLine] →
                  st = if (t.sup.lines[z]).passRun = 3 then .good else (s.zone z).lineStatus)
                ∧ ((s.zone z).lineStatus ∉ [.short, .openLine] → st = .good))
            ∧ ∀ k : FailKind,
              (k = .openLine ∧ ((s.level z).overflow = true ∨ (s.cfg.zones[z]).hi < (s.level z).count)
                ∨ k = .short ∧ (s.level z).overflow = false ∧ (s.level z).count < (s.cfg.zones[z]).lo
                  ∧ (s.level z).count ≤ (s.cfg.zones[z]).hi) →
              (t.sup.lines[z]).passRun = 0 ∧ ∃ f, (t.sup.lines[z]).failRun = some f ∧ f.kind = k
                ∧ f.count = (match (s.sup.lines[z]).failRun with
                  | some h => if h.kind = k then min (h.count + 1) 2 else 1
                  | none => 1)
                ∧ (f.count = 2 → st = if k = .short then .short else .openLine)
                ∧ (f.count = 1 → st =
                  if (s.zone z).lineStatus ∈ [.short, .openLine] then (s.zone z).lineStatus
                  else if k = .short then .suspectShort else .suspectOpen))
        ∧ (∀ z : ZoneId, z ∉ s.cfg.groupZones g ∨ s.inTest z = false → t.zone z = s.zone z ∧ t.sup.lines[z] = s.sup.lines[z])
        ∧ (s.cfg.groupsAfter g ≠ [] → t.sup.scan.stage = some .spacing ∧ t.sup.scan.stageAt = some (t.now + 2000))
        ∧ (s.cfg.groupsAfter g = [] → t.sup.scan.inRound = false ∧ t.sup.scan.stage = none)
        ∧ (∀ z ∈ s.cfg.groupZones g, (s.zone z).state = .test → s.faults.HasRoom →
          (∀ y ∈ s.cfg.groupZones g, (s.zone y).state = .test → y = z) →
          s.Cleared t .lineUntested (some z.val)
            ∧ ((t.zone z).lineStatus = .short → (s.zone z).lineStatus ≠ .short → s.Raised t .lineShort (some z.val))
            ∧ ((t.zone z).lineStatus = .openLine → (s.zone z).lineStatus ≠ .openLine → s.Raised t .lineOpen (some z.val))
            ∧ ((s.zone z).lineStatus = .short → (t.zone z).lineStatus ≠ .short → s.Cleared t .lineShort (some z.val))
            ∧ ((s.zone z).lineStatus = .openLine → (t.zone z).lineStatus ≠ .openLine → s.Cleared t .lineOpen (some z.val))
            ∧ ((t.zone z).lineStatus = (s.zone z).lineStatus ∨ ((t.zone z).lineStatus ∉ [.short, .openLine]
                ∧ (s.zone z).lineStatus ∉ [.short, .openLine]) →
              ∀ (i : Fin 16) (r : FaultRecord), (t.faults.slots[i]).record = some r → r.kind ≠ .lineUntested →
                (s.faults.slots[i]).record = some r))
        ∧ t.calls = s.calls ∧ t.chans = s.chans ∧ Undisturbed { s with clock := t.clock } t)
    ∧ (s.sup.scan.stage = some .gate →
      ∃ t, exec .lineGateEnd s = .next t
        ∧ ((∀ z ∈ s.cfg.groupZones g, s.inTest z = true → (t.zone z).state = .off) → t.queue = s.queue ∧ t.chans = s.chans))
    ∧ (s.sup.scan.stage = some .spacing →
      ∃ t, exec .spacingEnd s = .next t ∧ t.now = max s.now d % 2 ^ 40
        ∧ (∀ g' rest, s.cfg.groupsAfter g = g' :: rest → (∃ z ∈ s.cfg.groupZones g', s.testable z = true) →
          t.sup.scan = { s.sup.scan with group := some g', stage := some .settle, stageAt := some (t.now + 50) }
            ∧ ∀ z ∈ s.cfg.groupZones g', s.testable z = true → t.zone z = { s.zone z with state := .test })
        ∧ (s.cfg.groupsAfter g = [] → t.sup.scan.inRound = false ∧ t.sup.scan.group = none ∧ t.sup.scan.stage = none)
        ∧ t.calls = s.calls ∧ t.queue = s.queue ∧ t.chans = s.chans ∧ t.claims = s.claims ∧ t.evac = s.evac)

/-! ### Faults and status -/

/-- FAULT_ACK (R175): with the slot's generation it makes an unacknowledged active record ACTIVE_ACK, frees a cleared one, and leaves an
acknowledged one; with another generation the record stays; an empty slot is left alone. TEST_STEP (R177): the step moves on, from 7 to 0;
the simulated record is freed; and the step's fault is raised, simulated, or counted as dropped where the table has no room. STATUS_QUERY
(R176, R178, R179): NODE_STATUS of this moment goes to the sender; with flag bit 1 the counters are zeroed after it; with flag bit 0 every
occupied slot is to be reported. A raise (R173, R174) gives the record of its key one occurrence and one generation more, stamps it, and
sets the state that its nature gives; with no such record a new one takes the lowest empty slot, else the slot of the oldest CLEARED_UNACK
record, else for a MAJOR kind that of the oldest MINOR ACTIVE_ACK one, the lower of equals; with no such slot FAULTS_DROPPED counts. A clear
makes an active record CLEARED_UNACK and stamps it. Either marks the slot for a report or has offered it (R176). That ages are compared as
numbers is log entry 48. -/
def Obligations.FaultAcknowledged : Prop :=
  (∀ (dst src : Byte) (payload : List Byte) (s : State) (a : AckFields), s.Reaches .faultAck dst src → readAck payload = some a →
    ∃ t, exec (.faultAck dst src payload) s = .next t
      ∧ (∀ i : Fin 16, i ≠ a.slot → (t.faults.slots[i]).record = (s.faults.slots[i]).record)
      ∧ ((s.faults.slots[a.slot]).record = none → (t.faults.slots[a.slot]).record = none)
      ∧ (∀ r, (s.faults.slots[a.slot]).record = some r →
        (r.generation ≠ a.generation → (t.faults.slots[a.slot]).record = some r)
        ∧ (r.generation = a.generation → r.state = .activeUnack →
          (t.faults.slots[a.slot]).record = some { r with state := .activeAck })
        ∧ (r.generation = a.generation → r.state = .activeAck → (t.faults.slots[a.slot]).record = some r)
        ∧ (r.generation = a.generation → r.state = .clearedUnack → (t.faults.slots[a.slot]).record = none))
      ∧ t = { s with faults := t.faults, link := t.link, counters := t.counters })
  ∧ (∀ (dst src : Byte) (payload : List Byte) (s : State), s.Reaches .testStep dst src → payload = [] → s.faults.testStep ≤ 7 →
    (∀ i j : Fin 16, ∀ a b : FaultRecord, (s.faults.slots[i]).record = some a → (s.faults.slots[j]).record = some b →
      a.simulated = true → b.simulated = true → i = j) →
    ∃ t, exec (.testStep dst src payload) s = .next t ∧ t.faults.testStep = (s.faults.testStep + 1) % 8
      ∧ (∀ i : Fin 16, ∀ r : FaultRecord, (t.faults.slots[i]).record = some r → r.simulated = true →
        stepFault ((s.faults.testStep + 1) % 8) = some r.kind ∧ r.subject = none ∧ r.occurrences = 1)
      ∧ (∀ k, stepFault ((s.faults.testStep + 1) % 8) = some k →
        (t.faults.find k none true).isSome = true ∨ t.counters[(15 : Fin 16)] = min (s.counters[(15 : Fin 16)] + 1) 65535)
      ∧ t = { s with faults := t.faults, link := t.link, counters := t.counters })
  ∧ (∀ (dst src : Byte) (payload : List Byte) (s : State) (flags : Nat), s.Reaches .statusQuery dst src → readQuery payload = some flags →
    ∃ t, exec (.statusQuery dst src payload) s = .next t
      ∧ (s.link.queue.length < 7 →
        ∃ f ∈ t.link.queue, f.kind = .nodeStatus ∧ f.dest = src.toNat ∧ f.payload = s.taken.statusPayload false)
      ∧ (flags.testBit 1 = true → flags.testBit 0 = false → ∀ i : Fin 16, t.counters[i] = 0)
      ∧ (flags.testBit 1 = false → s.link.queue.length < 7 → t.counters = s.taken.counters)
      ∧ (flags.testBit 0 = true → s.link.queue.length < 7 → ∀ i : Fin 16, ((s.faults.slots[i]).record).isSome = true →
        (t.faults.slots[i]).reportPending = true ∨ ∃ f ∈ t.link.queue, f.kind = .faultReport ∧ u8 f.payload 0 = i.val)
      ∧ (∀ i : Fin 16, (t.faults.slots[i]).record = (s.faults.slots[i]).record)
      ∧ t = { s with faults := t.faults, link := t.link, counters := t.counters })
  ∧ (∀ (s : State) (k : FaultKind) (subject : Option Nat) (simulated : Bool), ∀ u, u = s.raiseAs k subject simulated →
    (∀ (i : Fin 16) (r : FaultRecord), s.faults.find k subject simulated = some i → (s.faults.slots[i]).record = some r →
      s.Replaced u i
        { r with
          occurrences := min (r.occurrences + 1) 255, generation := (r.generation + 1) % 256, lastChange := s.stampNow, age := s.now,
          state := if k.isCondition then .activeUnack else .clearedUnack })
    ∧ (∀ i : Fin 16, s.faults.find k subject simulated = none → s.faults.Place k i → s.Replaced u i
      { kind := k, subject := subject, simulated := simulated, state := if k.isCondition then .activeUnack else .clearedUnack,
        firstSeen := s.stampNow, lastChange := s.stampNow, occurrences := 1, generation := 1, age := s.now })
    ∧ (s.faults.find k subject simulated = none →
      (∀ i : Fin 16, ∃ r, (s.faults.slots[i]).record = some r ∧ r.state ≠ .clearedUnack
        ∧ (k.isMajor = true → r.kind.isMajor = true ∨ r.state = .activeUnack)) →
      u = s.count .faultsDropped))
  ∧ ∀ (s : State) (k : FaultKind) (subject : Option Nat), ∀ u, u = s.clear k subject →
    (∀ (i : Fin 16) (r : FaultRecord), s.faults.find k subject false = some i → (s.faults.slots[i]).record = some r →
      (r.state ≠ .clearedUnack → s.Replaced u i { r with state := .clearedUnack, lastChange := s.stampNow, age := s.now })
      ∧ (r.state = .clearedUnack → ∀ j : Fin 16, (u.faults.slots[j]).record = (s.faults.slots[j]).record))
    ∧ (s.faults.find k subject false = none → ∀ j : Fin 16, (u.faults.slots[j]).record = (s.faults.slots[j]).record)

/-! ### Sentences -/

/-- DELAY (R82): for a call expected d minutes late, d at least 1, the phrases are those of the rule's table. -/
def Obligations.DelaySpoken : Prop :=
  ∀ (h0 : Nat) (x : Inputs) (r : CallRecord) (d : Nat), x.call = some r → r.expected = some (r.scheduled + d) → 1 ≤ d →
    ∃ l, expand h0 x .delay = some (.words l)
      ∧ (d = 1 → l = [1, 64]) ∧ (2 ≤ d → d ≤ 59 → l = [d, 65])
      ∧ (60 ≤ d → d ≤ 179 → l = [d / 60, if d / 60 = 1 then 62 else 63]
          ++ (if 0 < d % 60 then [d % 60, if d % 60 = 1 then 64 else 65] else []))
      ∧ (180 ≤ d → l = [68])

/-- A phrase list that is assembled has 1 to 40 codes, whatever the calling points (R84). A group with an absent field element is
omitted whole, and in group 0 fails the assembly (R79). The calling points are the stored ones with codes in 69..127 set aside, "and"
before the last, or "and other stations" at the end where the list is truncated (R83; a stored 4095 stands as it is, log entry 46).
Without them the list is the expansions laid end to end, if that gives 1 to 40 codes. With them, they are placed whole where the
room allows, else the first of them up to one place short of the room and then "and other stations"; without room the assembly fails. -/
def Obligations.PhraseListFits : Prop :=
  (∀ (h0 : Nat) (x : Inputs) (t : List Element) (l : List Nat), phraseList h0 x t = some l → 1 ≤ l.length ∧ l.length ≤ 40)
  ∧ (∀ (h0 : Nat) (x : Inputs) (t : List Element) (e : Element), e ∈ t → expand h0 x e.kind = none →
    (e.group = 0 → phraseList h0 x t = none)
    ∧ (e.group ≠ 0 → phraseList h0 x t = phraseList h0 x (t.filter fun f => decide (f.group ≠ e.group))))
  ∧ (∀ (h0 : Nat) (x : Inputs) (r : CallRecord), x.call = some r → ∀ p, p = r.points.filter (fun c => decide (c < 69 ∨ 127 < c)) →
    (p = [] → expand h0 x .callingPoints = none)
    ∧ (p ≠ [] → expand h0 x .callingPoints = some (.points r.truncated p)))
  ∧ (∀ (h0 : Nat) (x : Inputs) (t : List Element) (words : List (List Nat)),
    t.map (fun e => expand h0 x e.kind) = words.map (fun l => some (.words l)) →
    (1 ≤ words.flatten.length → words.flatten.length ≤ 40 → phraseList h0 x t = some words.flatten)
    ∧ (words.flatten.length = 0 ∨ 40 < words.flatten.length → phraseList h0 x t = none))
  ∧ (∀ (h0 : Nat) (x : Inputs) (t : List Element) (before after : List (List Nat)) (truncated : Bool) (p : List Nat), p ≠ [] →
    t.map (fun e => expand h0 x e.kind) =
      before.map (fun l => some (.words l)) ++ some (.points truncated p) :: after.map (fun l => some (.words l)) →
    ∀ room, room = 40 - (before.flatten.length + after.flatten.length) →
    ∀ whole, whole = (if truncated then p ++ [67] else if p.length = 1 then p else p.dropLast ++ [66] ++ p.drop (p.length - 1)) →
    (room = 0 → phraseList h0 x t = none)
    ∧ (1 ≤ room → whole.length ≤ room → phraseList h0 x t = some (before.flatten ++ whole ++ after.flatten))
    ∧ (1 ≤ room → room < whole.length →
      phraseList h0 x t = some (before.flatten ++ p.take (room - 1) ++ [67] ++ after.flatten)))
  ∧ (∀ (h0 : Nat) (x : Inputs) (t : List Element) (before after last : List (List Nat)) (truncated : Bool) (p : List Nat),
    t.map (fun e => expand h0 x e.kind) =
      before.map (fun l => some (.words l)) ++ some (.points truncated p) :: after.map (fun l => some (.words l))
        ++ some (.points truncated p) :: last.map (fun l => some (.words l)) →
    40 < before.flatten.length + p.length + after.flatten.length + last.flatten.length → phraseList h0 x t = none)
end

