-- ==== Sys2Proof/Laws/Delivery.lean ====
section
/-! SUPPORT. What the reception of a frame can do: the command of a frame's bytes, and the checks 2 to 6 before an owner acts. -/

namespace Sys2Proof.Machine

/-- A good frame of a kind as a command has the meaning of that kind. -/
theorem exec_command (k : FrameKind) (dst src : Byte) (payload : List Byte) (s : State) :
    exec (k.command dst src payload) s = k.meaning dst src payload s := by
  cases k <;> rfl

/-- The command that a completed frame's bytes give does what their reception does. -/
theorem exec_frameCommand (raw : List Byte) (s : State) : exec (frameCommand raw) s = frameOutcome raw s := by
  unfold frameCommand frameOutcome
  split
  · cases kindOfCode (u8 raw 2) with
    | none => rfl
    | some k => exact exec_command _ _ _ _ _
  · rfl

/-- With the reset line released a meaning runs. -/
theorem run_awake {s : State} (h : s.Awake) (f : State → State) : s.run f = .next (f s) := by
  unfold State.Awake at h
  simp [State.run, h]

@[simp] theorem endOfFrame_cfg (s : State) : s.endOfFrame.cfg = s.cfg := rfl
@[simp] theorem goodFrame_cfg (s : State) : s.goodFrame.cfg = s.cfg := rfl
@[simp] theorem goodFrame_onLink (s : State) : s.goodFrame.onLink = s.onLink := rfl

section
variable {α : Type} {s : State} {k : FrameKind} {dst src : Byte} (read : Option α) (act : State → α → State)

/-- A frame that is not heard ends in the receiver. -/
theorem receive_unheard (h : s.hears = false) : s.receive k dst src read act = s.missed := by
  simp [State.receive, h]

/-- In START and LIMITED, and for another node, a good frame has no effect beyond the receiver (R16). -/
theorem receive_elsewhere (h : s.hears = true) (ha : s.onLink = false ∨ (dst.toNat ≠ 0 ∧ dst.toNat ≠ s.cfg.nodeId)) :
    s.receive k dst src read act = s.goodFrame := by
  obtain ha | ha := ha <;> simp [State.receive, State.addressed, h, ha]

/-- A frame with this node's id as its source raises NODE_ID_CLASH and is discarded (R16). -/
theorem receive_own (h : s.hears = true) (ho : s.onLink = true) (hd : dst.toNat = 0 ∨ dst.toNat = s.cfg.nodeId)
    (hs : src.toNat = s.cfg.nodeId) : s.receive k dst src read act = s.goodFrame.raise .nodeIdClash (some s.cfg.nodeId) := by
  obtain hd | hd := hd <;> simp [State.receive, State.addressed, h, ho, hd, hs]

/-- Past check 3, the mask of the kind decides (R17, R18). -/
theorem receive_unauthorised (h : s.hears = true) (ho : s.onLink = true) (hd : dst.toNat = 0 ∨ dst.toNat = s.cfg.nodeId)
    (hs : src.toNat ≠ s.cfg.nodeId) (hm : s.cfg.admits k src.toNat = false) :
    s.receive k dst src read act = s.goodFrame.count .rxUnauthorised := by
  obtain hd | hd := hd <;> simp [State.receive, State.addressed, h, ho, hd, hs, hm]

/-- A frame that reaches its owner counts RX_GOOD and the owner acts on what was read, or counts RX_BAD where nothing could be (R17). -/
theorem receive_reaches (h : s.Reaches k dst src) :
    s.receive k dst src read act = match read with | none => s.goodFrame.count .rxBad | some x => act s.taken x := by
  obtain ⟨-, h1, h2, h3, h4, h5⟩ := h
  obtain h3 | h3 := h3 <;> cases read <;> simp [State.receive, State.addressed, State.taken, h1, h2, h3, h4, h5]

end

end Sys2Proof.Machine
end

