-- ==== Sys2Proof/Laws/State.lean ====
section
/-! SUPPORT. One lemma for each field that an update of the state leaves alone, and the reads of what it writes. -/

namespace Sys2Proof.Machine

/-! ### setZone -/

@[simp] theorem setZone_pending (s : State) (z : ZoneId) (f : Zone → Zone) : (s.setZone z f).pending = s.pending := rfl
@[simp] theorem setZone_startup (s : State) (z : ZoneId) (f : Zone → Zone) : (s.setZone z f).startup = s.startup := rfl
@[simp] theorem setZone_link (s : State) (z : ZoneId) (f : Zone → Zone) : (s.setZone z f).link = s.link := rfl
@[simp] theorem setZone_clock (s : State) (z : ZoneId) (f : Zone → Zone) : (s.setZone z f).clock = s.clock := rfl
@[simp] theorem setZone_calls (s : State) (z : ZoneId) (f : Zone → Zone) : (s.setZone z f).calls = s.calls := rfl
@[simp] theorem setZone_store (s : State) (z : ZoneId) (f : Zone → Zone) : (s.setZone z f).store = s.store := rfl
@[simp] theorem setZone_queue (s : State) (z : ZoneId) (f : Zone → Zone) : (s.setZone z f).queue = s.queue := rfl
@[simp] theorem setZone_claims (s : State) (z : ZoneId) (f : Zone → Zone) : (s.setZone z f).claims = s.claims := rfl
@[simp] theorem setZone_chans (s : State) (z : ZoneId) (f : Zone → Zone) : (s.setZone z f).chans = s.chans := rfl
@[simp] theorem setZone_port (s : State) (z : ZoneId) (f : Zone → Zone) : (s.setZone z f).port = s.port := rfl
@[simp] theorem setZone_levels (s : State) (z : ZoneId) (f : Zone → Zone) : (s.setZone z f).levels = s.levels := rfl
@[simp] theorem setZone_evac (s : State) (z : ZoneId) (f : Zone → Zone) : (s.setZone z f).evac = s.evac := rfl
@[simp] theorem setZone_sup (s : State) (z : ZoneId) (f : Zone → Zone) : (s.setZone z f).sup = s.sup := rfl
@[simp] theorem setZone_faults (s : State) (z : ZoneId) (f : Zone → Zone) : (s.setZone z f).faults = s.faults := rfl
@[simp] theorem setZone_counters (s : State) (z : ZoneId) (f : Zone → Zone) : (s.setZone z f).counters = s.counters := rfl

/-! ### setLevel -/

@[simp] theorem setLevel_pending (s : State) (z : ZoneId) (f : Level → Level) : (s.setLevel z f).pending = s.pending := rfl
@[simp] theorem setLevel_startup (s : State) (z : ZoneId) (f : Level → Level) : (s.setLevel z f).startup = s.startup := rfl
@[simp] theorem setLevel_link (s : State) (z : ZoneId) (f : Level → Level) : (s.setLevel z f).link = s.link := rfl
@[simp] theorem setLevel_clock (s : State) (z : ZoneId) (f : Level → Level) : (s.setLevel z f).clock = s.clock := rfl
@[simp] theorem setLevel_calls (s : State) (z : ZoneId) (f : Level → Level) : (s.setLevel z f).calls = s.calls := rfl
@[simp] theorem setLevel_store (s : State) (z : ZoneId) (f : Level → Level) : (s.setLevel z f).store = s.store := rfl
@[simp] theorem setLevel_queue (s : State) (z : ZoneId) (f : Level → Level) : (s.setLevel z f).queue = s.queue := rfl
@[simp] theorem setLevel_claims (s : State) (z : ZoneId) (f : Level → Level) : (s.setLevel z f).claims = s.claims := rfl
@[simp] theorem setLevel_chans (s : State) (z : ZoneId) (f : Level → Level) : (s.setLevel z f).chans = s.chans := rfl
@[simp] theorem setLevel_port (s : State) (z : ZoneId) (f : Level → Level) : (s.setLevel z f).port = s.port := rfl
@[simp] theorem setLevel_zones (s : State) (z : ZoneId) (f : Level → Level) : (s.setLevel z f).zones = s.zones := rfl
@[simp] theorem setLevel_evac (s : State) (z : ZoneId) (f : Level → Level) : (s.setLevel z f).evac = s.evac := rfl
@[simp] theorem setLevel_sup (s : State) (z : ZoneId) (f : Level → Level) : (s.setLevel z f).sup = s.sup := rfl
@[simp] theorem setLevel_faults (s : State) (z : ZoneId) (f : Level → Level) : (s.setLevel z f).faults = s.faults := rfl
@[simp] theorem setLevel_counters (s : State) (z : ZoneId) (f : Level → Level) : (s.setLevel z f).counters = s.counters := rfl

/-! ### setLine -/

@[simp] theorem setLine_pending (s : State) (z : ZoneId) (f : Line → Line) : (s.setLine z f).pending = s.pending := rfl
@[simp] theorem setLine_startup (s : State) (z : ZoneId) (f : Line → Line) : (s.setLine z f).startup = s.startup := rfl
@[simp] theorem setLine_link (s : State) (z : ZoneId) (f : Line → Line) : (s.setLine z f).link = s.link := rfl
@[simp] theorem setLine_clock (s : State) (z : ZoneId) (f : Line → Line) : (s.setLine z f).clock = s.clock := rfl
@[simp] theorem setLine_calls (s : State) (z : ZoneId) (f : Line → Line) : (s.setLine z f).calls = s.calls := rfl
@[simp] theorem setLine_store (s : State) (z : ZoneId) (f : Line → Line) : (s.setLine z f).store = s.store := rfl
@[simp] theorem setLine_queue (s : State) (z : ZoneId) (f : Line → Line) : (s.setLine z f).queue = s.queue := rfl
@[simp] theorem setLine_claims (s : State) (z : ZoneId) (f : Line → Line) : (s.setLine z f).claims = s.claims := rfl
@[simp] theorem setLine_chans (s : State) (z : ZoneId) (f : Line → Line) : (s.setLine z f).chans = s.chans := rfl
@[simp] theorem setLine_port (s : State) (z : ZoneId) (f : Line → Line) : (s.setLine z f).port = s.port := rfl
@[simp] theorem setLine_zones (s : State) (z : ZoneId) (f : Line → Line) : (s.setLine z f).zones = s.zones := rfl
@[simp] theorem setLine_levels (s : State) (z : ZoneId) (f : Line → Line) : (s.setLine z f).levels = s.levels := rfl
@[simp] theorem setLine_evac (s : State) (z : ZoneId) (f : Line → Line) : (s.setLine z f).evac = s.evac := rfl
@[simp] theorem setLine_faults (s : State) (z : ZoneId) (f : Line → Line) : (s.setLine z f).faults = s.faults := rfl
@[simp] theorem setLine_counters (s : State) (z : ZoneId) (f : Line → Line) : (s.setLine z f).counters = s.counters := rfl

/-! ### setScan -/

@[simp] theorem setScan_pending (s : State) (f : Scan → Scan) : (s.setScan f).pending = s.pending := rfl
@[simp] theorem setScan_startup (s : State) (f : Scan → Scan) : (s.setScan f).startup = s.startup := rfl
@[simp] theorem setScan_link (s : State) (f : Scan → Scan) : (s.setScan f).link = s.link := rfl
@[simp] theorem setScan_clock (s : State) (f : Scan → Scan) : (s.setScan f).clock = s.clock := rfl
@[simp] theorem setScan_calls (s : State) (f : Scan → Scan) : (s.setScan f).calls = s.calls := rfl
@[simp] theorem setScan_store (s : State) (f : Scan → Scan) : (s.setScan f).store = s.store := rfl
@[simp] theorem setScan_queue (s : State) (f : Scan → Scan) : (s.setScan f).queue = s.queue := rfl
@[simp] theorem setScan_claims (s : State) (f : Scan → Scan) : (s.setScan f).claims = s.claims := rfl
@[simp] theorem setScan_chans (s : State) (f : Scan → Scan) : (s.setScan f).chans = s.chans := rfl
@[simp] theorem setScan_port (s : State) (f : Scan → Scan) : (s.setScan f).port = s.port := rfl
@[simp] theorem setScan_zones (s : State) (f : Scan → Scan) : (s.setScan f).zones = s.zones := rfl
@[simp] theorem setScan_levels (s : State) (f : Scan → Scan) : (s.setScan f).levels = s.levels := rfl
@[simp] theorem setScan_evac (s : State) (f : Scan → Scan) : (s.setScan f).evac = s.evac := rfl
@[simp] theorem setScan_faults (s : State) (f : Scan → Scan) : (s.setScan f).faults = s.faults := rfl
@[simp] theorem setScan_counters (s : State) (f : Scan → Scan) : (s.setScan f).counters = s.counters := rfl

/-! ### setChan -/

@[simp] theorem setChan_pending (s : State) (c : ChanId) (i : Option ChanInst) : (s.setChan c i).pending = s.pending := rfl
@[simp] theorem setChan_startup (s : State) (c : ChanId) (i : Option ChanInst) : (s.setChan c i).startup = s.startup := rfl
@[simp] theorem setChan_link (s : State) (c : ChanId) (i : Option ChanInst) : (s.setChan c i).link = s.link := rfl
@[simp] theorem setChan_clock (s : State) (c : ChanId) (i : Option ChanInst) : (s.setChan c i).clock = s.clock := rfl
@[simp] theorem setChan_calls (s : State) (c : ChanId) (i : Option ChanInst) : (s.setChan c i).calls = s.calls := rfl
@[simp] theorem setChan_store (s : State) (c : ChanId) (i : Option ChanInst) : (s.setChan c i).store = s.store := rfl
@[simp] theorem setChan_queue (s : State) (c : ChanId) (i : Option ChanInst) : (s.setChan c i).queue = s.queue := rfl
@[simp] theorem setChan_claims (s : State) (c : ChanId) (i : Option ChanInst) : (s.setChan c i).claims = s.claims := rfl
@[simp] theorem setChan_port (s : State) (c : ChanId) (i : Option ChanInst) : (s.setChan c i).port = s.port := rfl
@[simp] theorem setChan_zones (s : State) (c : ChanId) (i : Option ChanInst) : (s.setChan c i).zones = s.zones := rfl
@[simp] theorem setChan_levels (s : State) (c : ChanId) (i : Option ChanInst) : (s.setChan c i).levels = s.levels := rfl
@[simp] theorem setChan_evac (s : State) (c : ChanId) (i : Option ChanInst) : (s.setChan c i).evac = s.evac := rfl
@[simp] theorem setChan_sup (s : State) (c : ChanId) (i : Option ChanInst) : (s.setChan c i).sup = s.sup := rfl
@[simp] theorem setChan_faults (s : State) (c : ChanId) (i : Option ChanInst) : (s.setChan c i).faults = s.faults := rfl
@[simp] theorem setChan_counters (s : State) (c : ChanId) (i : Option ChanInst) : (s.setChan c i).counters = s.counters := rfl

/-! ### setClaim -/

@[simp] theorem setClaim_pending (s : State) (c : ChanId) (r : Option OwnClaim) : (s.setClaim c r).pending = s.pending := rfl
@[simp] theorem setClaim_startup (s : State) (c : ChanId) (r : Option OwnClaim) : (s.setClaim c r).startup = s.startup := rfl
@[simp] theorem setClaim_link (s : State) (c : ChanId) (r : Option OwnClaim) : (s.setClaim c r).link = s.link := rfl
@[simp] theorem setClaim_clock (s : State) (c : ChanId) (r : Option OwnClaim) : (s.setClaim c r).clock = s.clock := rfl
@[simp] theorem setClaim_calls (s : State) (c : ChanId) (r : Option OwnClaim) : (s.setClaim c r).calls = s.calls := rfl
@[simp] theorem setClaim_store (s : State) (c : ChanId) (r : Option OwnClaim) : (s.setClaim c r).store = s.store := rfl
@[simp] theorem setClaim_queue (s : State) (c : ChanId) (r : Option OwnClaim) : (s.setClaim c r).queue = s.queue := rfl
@[simp] theorem setClaim_chans (s : State) (c : ChanId) (r : Option OwnClaim) : (s.setClaim c r).chans = s.chans := rfl
@[simp] theorem setClaim_port (s : State) (c : ChanId) (r : Option OwnClaim) : (s.setClaim c r).port = s.port := rfl
@[simp] theorem setClaim_zones (s : State) (c : ChanId) (r : Option OwnClaim) : (s.setClaim c r).zones = s.zones := rfl
@[simp] theorem setClaim_levels (s : State) (c : ChanId) (r : Option OwnClaim) : (s.setClaim c r).levels = s.levels := rfl
@[simp] theorem setClaim_evac (s : State) (c : ChanId) (r : Option OwnClaim) : (s.setClaim c r).evac = s.evac := rfl
@[simp] theorem setClaim_sup (s : State) (c : ChanId) (r : Option OwnClaim) : (s.setClaim c r).sup = s.sup := rfl
@[simp] theorem setClaim_faults (s : State) (c : ChanId) (r : Option OwnClaim) : (s.setClaim c r).faults = s.faults := rfl
@[simp] theorem setClaim_counters (s : State) (c : ChanId) (r : Option OwnClaim) : (s.setClaim c r).counters = s.counters := rfl

/-! ### setCont -/

@[simp] theorem setCont_pending (s : State) (c : ChanId) (k : Option Continuation) : (s.setCont c k).pending = s.pending := rfl
@[simp] theorem setCont_startup (s : State) (c : ChanId) (k : Option Continuation) : (s.setCont c k).startup = s.startup := rfl
@[simp] theorem setCont_link (s : State) (c : ChanId) (k : Option Continuation) : (s.setCont c k).link = s.link := rfl
@[simp] theorem setCont_clock (s : State) (c : ChanId) (k : Option Continuation) : (s.setCont c k).clock = s.clock := rfl
@[simp] theorem setCont_calls (s : State) (c : ChanId) (k : Option Continuation) : (s.setCont c k).calls = s.calls := rfl
@[simp] theorem setCont_store (s : State) (c : ChanId) (k : Option Continuation) : (s.setCont c k).store = s.store := rfl
@[simp] theorem setCont_claims (s : State) (c : ChanId) (k : Option Continuation) : (s.setCont c k).claims = s.claims := rfl
@[simp] theorem setCont_chans (s : State) (c : ChanId) (k : Option Continuation) : (s.setCont c k).chans = s.chans := rfl
@[simp] theorem setCont_port (s : State) (c : ChanId) (k : Option Continuation) : (s.setCont c k).port = s.port := rfl
@[simp] theorem setCont_zones (s : State) (c : ChanId) (k : Option Continuation) : (s.setCont c k).zones = s.zones := rfl
@[simp] theorem setCont_levels (s : State) (c : ChanId) (k : Option Continuation) : (s.setCont c k).levels = s.levels := rfl
@[simp] theorem setCont_evac (s : State) (c : ChanId) (k : Option Continuation) : (s.setCont c k).evac = s.evac := rfl
@[simp] theorem setCont_sup (s : State) (c : ChanId) (k : Option Continuation) : (s.setCont c k).sup = s.sup := rfl
@[simp] theorem setCont_faults (s : State) (c : ChanId) (k : Option Continuation) : (s.setCont c k).faults = s.faults := rfl
@[simp] theorem setCont_counters (s : State) (c : ChanId) (k : Option Continuation) : (s.setCont c k).counters = s.counters := rfl

/-! ### setEntries -/

@[simp] theorem setEntries_pending (s : State) (l : List Entry) : (s.setEntries l).pending = s.pending := rfl
@[simp] theorem setEntries_startup (s : State) (l : List Entry) : (s.setEntries l).startup = s.startup := rfl
@[simp] theorem setEntries_link (s : State) (l : List Entry) : (s.setEntries l).link = s.link := rfl
@[simp] theorem setEntries_clock (s : State) (l : List Entry) : (s.setEntries l).clock = s.clock := rfl
@[simp] theorem setEntries_calls (s : State) (l : List Entry) : (s.setEntries l).calls = s.calls := rfl
@[simp] theorem setEntries_store (s : State) (l : List Entry) : (s.setEntries l).store = s.store := rfl
@[simp] theorem setEntries_claims (s : State) (l : List Entry) : (s.setEntries l).claims = s.claims := rfl
@[simp] theorem setEntries_chans (s : State) (l : List Entry) : (s.setEntries l).chans = s.chans := rfl
@[simp] theorem setEntries_port (s : State) (l : List Entry) : (s.setEntries l).port = s.port := rfl
@[simp] theorem setEntries_zones (s : State) (l : List Entry) : (s.setEntries l).zones = s.zones := rfl
@[simp] theorem setEntries_levels (s : State) (l : List Entry) : (s.setEntries l).levels = s.levels := rfl
@[simp] theorem setEntries_evac (s : State) (l : List Entry) : (s.setEntries l).evac = s.evac := rfl
@[simp] theorem setEntries_sup (s : State) (l : List Entry) : (s.setEntries l).sup = s.sup := rfl
@[simp] theorem setEntries_faults (s : State) (l : List Entry) : (s.setEntries l).faults = s.faults := rfl
@[simp] theorem setEntries_counters (s : State) (l : List Entry) : (s.setEntries l).counters = s.counters := rfl

/-! ### setContact -/

@[simp] theorem setContact_pending (s : State) (c : ContactId) (d : Debouncer) : (s.setContact c d).pending = s.pending := rfl
@[simp] theorem setContact_startup (s : State) (c : ContactId) (d : Debouncer) : (s.setContact c d).startup = s.startup := rfl
@[simp] theorem setContact_link (s : State) (c : ContactId) (d : Debouncer) : (s.setContact c d).link = s.link := rfl
@[simp] theorem setContact_clock (s : State) (c : ContactId) (d : Debouncer) : (s.setContact c d).clock = s.clock := rfl
@[simp] theorem setContact_calls (s : State) (c : ContactId) (d : Debouncer) : (s.setContact c d).calls = s.calls := rfl
@[simp] theorem setContact_store (s : State) (c : ContactId) (d : Debouncer) : (s.setContact c d).store = s.store := rfl
@[simp] theorem setContact_queue (s : State) (c : ContactId) (d : Debouncer) : (s.setContact c d).queue = s.queue := rfl
@[simp] theorem setContact_claims (s : State) (c : ContactId) (d : Debouncer) : (s.setContact c d).claims = s.claims := rfl
@[simp] theorem setContact_chans (s : State) (c : ContactId) (d : Debouncer) : (s.setContact c d).chans = s.chans := rfl
@[simp] theorem setContact_port (s : State) (c : ContactId) (d : Debouncer) : (s.setContact c d).port = s.port := rfl
@[simp] theorem setContact_zones (s : State) (c : ContactId) (d : Debouncer) : (s.setContact c d).zones = s.zones := rfl
@[simp] theorem setContact_levels (s : State) (c : ContactId) (d : Debouncer) : (s.setContact c d).levels = s.levels := rfl
@[simp] theorem setContact_evac (s : State) (c : ContactId) (d : Debouncer) : (s.setContact c d).evac = s.evac := rfl
@[simp] theorem setContact_faults (s : State) (c : ContactId) (d : Debouncer) : (s.setContact c d).faults = s.faults := rfl
@[simp] theorem setContact_counters (s : State) (c : ContactId) (d : Debouncer) : (s.setContact c d).counters = s.counters := rfl

/-! ### mapQueue -/

@[simp] theorem mapQueue_pending (s : State) (f : TxFrame → TxFrame) : (s.mapQueue f).pending = s.pending := rfl
@[simp] theorem mapQueue_startup (s : State) (f : TxFrame → TxFrame) : (s.mapQueue f).startup = s.startup := rfl
@[simp] theorem mapQueue_clock (s : State) (f : TxFrame → TxFrame) : (s.mapQueue f).clock = s.clock := rfl
@[simp] theorem mapQueue_calls (s : State) (f : TxFrame → TxFrame) : (s.mapQueue f).calls = s.calls := rfl
@[simp] theorem mapQueue_store (s : State) (f : TxFrame → TxFrame) : (s.mapQueue f).store = s.store := rfl
@[simp] theorem mapQueue_queue (s : State) (f : TxFrame → TxFrame) : (s.mapQueue f).queue = s.queue := rfl
@[simp] theorem mapQueue_claims (s : State) (f : TxFrame → TxFrame) : (s.mapQueue f).claims = s.claims := rfl
@[simp] theorem mapQueue_chans (s : State) (f : TxFrame → TxFrame) : (s.mapQueue f).chans = s.chans := rfl
@[simp] theorem mapQueue_port (s : State) (f : TxFrame → TxFrame) : (s.mapQueue f).port = s.port := rfl
@[simp] theorem mapQueue_zones (s : State) (f : TxFrame → TxFrame) : (s.mapQueue f).zones = s.zones := rfl
@[simp] theorem mapQueue_levels (s : State) (f : TxFrame → TxFrame) : (s.mapQueue f).levels = s.levels := rfl
@[simp] theorem mapQueue_evac (s : State) (f : TxFrame → TxFrame) : (s.mapQueue f).evac = s.evac := rfl
@[simp] theorem mapQueue_sup (s : State) (f : TxFrame → TxFrame) : (s.mapQueue f).sup = s.sup := rfl
@[simp] theorem mapQueue_faults (s : State) (f : TxFrame → TxFrame) : (s.mapQueue f).faults = s.faults := rfl
@[simp] theorem mapQueue_counters (s : State) (f : TxFrame → TxFrame) : (s.mapQueue f).counters = s.counters := rfl

/-! ### mapOccupancy -/

@[simp] theorem mapOccupancy_pending (s : State) (f : OccSlot → OccSlot) : (s.mapOccupancy f).pending = s.pending := rfl
@[simp] theorem mapOccupancy_startup (s : State) (f : OccSlot → OccSlot) : (s.mapOccupancy f).startup = s.startup := rfl
@[simp] theorem mapOccupancy_link (s : State) (f : OccSlot → OccSlot) : (s.mapOccupancy f).link = s.link := rfl
@[simp] theorem mapOccupancy_clock (s : State) (f : OccSlot → OccSlot) : (s.mapOccupancy f).clock = s.clock := rfl
@[simp] theorem mapOccupancy_calls (s : State) (f : OccSlot → OccSlot) : (s.mapOccupancy f).calls = s.calls := rfl
@[simp] theorem mapOccupancy_store (s : State) (f : OccSlot → OccSlot) : (s.mapOccupancy f).store = s.store := rfl
@[simp] theorem mapOccupancy_queue (s : State) (f : OccSlot → OccSlot) : (s.mapOccupancy f).queue = s.queue := rfl
@[simp] theorem mapOccupancy_chans (s : State) (f : OccSlot → OccSlot) : (s.mapOccupancy f).chans = s.chans := rfl
@[simp] theorem mapOccupancy_port (s : State) (f : OccSlot → OccSlot) : (s.mapOccupancy f).port = s.port := rfl
@[simp] theorem mapOccupancy_zones (s : State) (f : OccSlot → OccSlot) : (s.mapOccupancy f).zones = s.zones := rfl
@[simp] theorem mapOccupancy_levels (s : State) (f : OccSlot → OccSlot) : (s.mapOccupancy f).levels = s.levels := rfl
@[simp] theorem mapOccupancy_evac (s : State) (f : OccSlot → OccSlot) : (s.mapOccupancy f).evac = s.evac := rfl
@[simp] theorem mapOccupancy_sup (s : State) (f : OccSlot → OccSlot) : (s.mapOccupancy f).sup = s.sup := rfl
@[simp] theorem mapOccupancy_faults (s : State) (f : OccSlot → OccSlot) : (s.mapOccupancy f).faults = s.faults := rfl
@[simp] theorem mapOccupancy_counters (s : State) (f : OccSlot → OccSlot) : (s.mapOccupancy f).counters = s.counters := rfl

/-! ### advanceTo -/

@[simp] theorem advanceTo_pending (s : State) (d : Nat) : (s.advanceTo d).pending = s.pending := rfl
@[simp] theorem advanceTo_startup (s : State) (d : Nat) : (s.advanceTo d).startup = s.startup := rfl
@[simp] theorem advanceTo_link (s : State) (d : Nat) : (s.advanceTo d).link = s.link := rfl
@[simp] theorem advanceTo_calls (s : State) (d : Nat) : (s.advanceTo d).calls = s.calls := rfl
@[simp] theorem advanceTo_store (s : State) (d : Nat) : (s.advanceTo d).store = s.store := rfl
@[simp] theorem advanceTo_queue (s : State) (d : Nat) : (s.advanceTo d).queue = s.queue := rfl
@[simp] theorem advanceTo_claims (s : State) (d : Nat) : (s.advanceTo d).claims = s.claims := rfl
@[simp] theorem advanceTo_chans (s : State) (d : Nat) : (s.advanceTo d).chans = s.chans := rfl
@[simp] theorem advanceTo_port (s : State) (d : Nat) : (s.advanceTo d).port = s.port := rfl
@[simp] theorem advanceTo_zones (s : State) (d : Nat) : (s.advanceTo d).zones = s.zones := rfl
@[simp] theorem advanceTo_levels (s : State) (d : Nat) : (s.advanceTo d).levels = s.levels := rfl
@[simp] theorem advanceTo_evac (s : State) (d : Nat) : (s.advanceTo d).evac = s.evac := rfl
@[simp] theorem advanceTo_sup (s : State) (d : Nat) : (s.advanceTo d).sup = s.sup := rfl
@[simp] theorem advanceTo_faults (s : State) (d : Nat) : (s.advanceTo d).faults = s.faults := rfl
@[simp] theorem advanceTo_counters (s : State) (d : Nat) : (s.advanceTo d).counters = s.counters := rfl

/-! ### count -/

@[simp] theorem count_pending (s : State) (k : Counter) : (s.count k).pending = s.pending := rfl
@[simp] theorem count_startup (s : State) (k : Counter) : (s.count k).startup = s.startup := rfl
@[simp] theorem count_link (s : State) (k : Counter) : (s.count k).link = s.link := rfl
@[simp] theorem count_clock (s : State) (k : Counter) : (s.count k).clock = s.clock := rfl
@[simp] theorem count_calls (s : State) (k : Counter) : (s.count k).calls = s.calls := rfl
@[simp] theorem count_store (s : State) (k : Counter) : (s.count k).store = s.store := rfl
@[simp] theorem count_queue (s : State) (k : Counter) : (s.count k).queue = s.queue := rfl
@[simp] theorem count_claims (s : State) (k : Counter) : (s.count k).claims = s.claims := rfl
@[simp] theorem count_chans (s : State) (k : Counter) : (s.count k).chans = s.chans := rfl
@[simp] theorem count_port (s : State) (k : Counter) : (s.count k).port = s.port := rfl
@[simp] theorem count_zones (s : State) (k : Counter) : (s.count k).zones = s.zones := rfl
@[simp] theorem count_levels (s : State) (k : Counter) : (s.count k).levels = s.levels := rfl
@[simp] theorem count_evac (s : State) (k : Counter) : (s.count k).evac = s.evac := rfl
@[simp] theorem count_sup (s : State) (k : Counter) : (s.count k).sup = s.sup := rfl
@[simp] theorem count_faults (s : State) (k : Counter) : (s.count k).faults = s.faults := rfl

/-! ### putCall -/

@[simp] theorem putCall_pending (s : State) (r : CallRecord) : (s.putCall r).pending = s.pending := rfl
@[simp] theorem putCall_startup (s : State) (r : CallRecord) : (s.putCall r).startup = s.startup := rfl
@[simp] theorem putCall_link (s : State) (r : CallRecord) : (s.putCall r).link = s.link := rfl
@[simp] theorem putCall_clock (s : State) (r : CallRecord) : (s.putCall r).clock = s.clock := rfl
@[simp] theorem putCall_store (s : State) (r : CallRecord) : (s.putCall r).store = s.store := rfl
@[simp] theorem putCall_queue (s : State) (r : CallRecord) : (s.putCall r).queue = s.queue := rfl
@[simp] theorem putCall_claims (s : State) (r : CallRecord) : (s.putCall r).claims = s.claims := rfl
@[simp] theorem putCall_chans (s : State) (r : CallRecord) : (s.putCall r).chans = s.chans := rfl
@[simp] theorem putCall_port (s : State) (r : CallRecord) : (s.putCall r).port = s.port := rfl
@[simp] theorem putCall_zones (s : State) (r : CallRecord) : (s.putCall r).zones = s.zones := rfl
@[simp] theorem putCall_levels (s : State) (r : CallRecord) : (s.putCall r).levels = s.levels := rfl
@[simp] theorem putCall_evac (s : State) (r : CallRecord) : (s.putCall r).evac = s.evac := rfl
@[simp] theorem putCall_sup (s : State) (r : CallRecord) : (s.putCall r).sup = s.sup := rfl
@[simp] theorem putCall_faults (s : State) (r : CallRecord) : (s.putCall r).faults = s.faults := rfl
@[simp] theorem putCall_counters (s : State) (r : CallRecord) : (s.putCall r).counters = s.counters := rfl

/-! ### disown -/

@[simp] theorem disown_pending (s : State) (c : ChanId) : (s.disown c).pending = s.pending := rfl
@[simp] theorem disown_startup (s : State) (c : ChanId) : (s.disown c).startup = s.startup := rfl
@[simp] theorem disown_link (s : State) (c : ChanId) : (s.disown c).link = s.link := rfl
@[simp] theorem disown_clock (s : State) (c : ChanId) : (s.disown c).clock = s.clock := rfl
@[simp] theorem disown_calls (s : State) (c : ChanId) : (s.disown c).calls = s.calls := rfl
@[simp] theorem disown_store (s : State) (c : ChanId) : (s.disown c).store = s.store := rfl
@[simp] theorem disown_queue (s : State) (c : ChanId) : (s.disown c).queue = s.queue := rfl
@[simp] theorem disown_claims (s : State) (c : ChanId) : (s.disown c).claims = s.claims := rfl
@[simp] theorem disown_chans (s : State) (c : ChanId) : (s.disown c).chans = s.chans := rfl
@[simp] theorem disown_zones (s : State) (c : ChanId) : (s.disown c).zones = s.zones := rfl
@[simp] theorem disown_levels (s : State) (c : ChanId) : (s.disown c).levels = s.levels := rfl
@[simp] theorem disown_evac (s : State) (c : ChanId) : (s.disown c).evac = s.evac := rfl
@[simp] theorem disown_sup (s : State) (c : ChanId) : (s.disown c).sup = s.sup := rfl
@[simp] theorem disown_faults (s : State) (c : ChanId) : (s.disown c).faults = s.faults := rfl
@[simp] theorem disown_counters (s : State) (c : ChanId) : (s.disown c).counters = s.counters := rfl

/-! ### endTransaction -/

@[simp] theorem endTransaction_pending (s : State) : (s.endTransaction).pending = s.pending := rfl
@[simp] theorem endTransaction_startup (s : State) : (s.endTransaction).startup = s.startup := rfl
@[simp] theorem endTransaction_link (s : State) : (s.endTransaction).link = s.link := rfl
@[simp] theorem endTransaction_clock (s : State) : (s.endTransaction).clock = s.clock := rfl
@[simp] theorem endTransaction_calls (s : State) : (s.endTransaction).calls = s.calls := rfl
@[simp] theorem endTransaction_store (s : State) : (s.endTransaction).store = s.store := rfl
@[simp] theorem endTransaction_queue (s : State) : (s.endTransaction).queue = s.queue := rfl
@[simp] theorem endTransaction_claims (s : State) : (s.endTransaction).claims = s.claims := rfl
@[simp] theorem endTransaction_chans (s : State) : (s.endTransaction).chans = s.chans := rfl
@[simp] theorem endTransaction_zones (s : State) : (s.endTransaction).zones = s.zones := rfl
@[simp] theorem endTransaction_levels (s : State) : (s.endTransaction).levels = s.levels := rfl
@[simp] theorem endTransaction_evac (s : State) : (s.endTransaction).evac = s.evac := rfl
@[simp] theorem endTransaction_sup (s : State) : (s.endTransaction).sup = s.sup := rfl
@[simp] theorem endTransaction_faults (s : State) : (s.endTransaction).faults = s.faults := rfl
@[simp] theorem endTransaction_counters (s : State) : (s.endTransaction).counters = s.counters := rfl

/-! ### endOfFrame -/

@[simp] theorem endOfFrame_pending (s : State) : (s.endOfFrame).pending = s.pending := rfl
@[simp] theorem endOfFrame_startup (s : State) : (s.endOfFrame).startup = s.startup := rfl
@[simp] theorem endOfFrame_clock (s : State) : (s.endOfFrame).clock = s.clock := rfl
@[simp] theorem endOfFrame_calls (s : State) : (s.endOfFrame).calls = s.calls := rfl
@[simp] theorem endOfFrame_store (s : State) : (s.endOfFrame).store = s.store := rfl
@[simp] theorem endOfFrame_queue (s : State) : (s.endOfFrame).queue = s.queue := rfl
@[simp] theorem endOfFrame_claims (s : State) : (s.endOfFrame).claims = s.claims := rfl
@[simp] theorem endOfFrame_chans (s : State) : (s.endOfFrame).chans = s.chans := rfl
@[simp] theorem endOfFrame_port (s : State) : (s.endOfFrame).port = s.port := rfl
@[simp] theorem endOfFrame_zones (s : State) : (s.endOfFrame).zones = s.zones := rfl
@[simp] theorem endOfFrame_levels (s : State) : (s.endOfFrame).levels = s.levels := rfl
@[simp] theorem endOfFrame_evac (s : State) : (s.endOfFrame).evac = s.evac := rfl
@[simp] theorem endOfFrame_sup (s : State) : (s.endOfFrame).sup = s.sup := rfl
@[simp] theorem endOfFrame_faults (s : State) : (s.endOfFrame).faults = s.faults := rfl
@[simp] theorem endOfFrame_counters (s : State) : (s.endOfFrame).counters = s.counters := rfl

/-! ### goodFrame -/

@[simp] theorem goodFrame_pending (s : State) : (s.goodFrame).pending = s.pending := rfl
@[simp] theorem goodFrame_startup (s : State) : (s.goodFrame).startup = s.startup := rfl
@[simp] theorem goodFrame_clock (s : State) : (s.goodFrame).clock = s.clock := rfl
@[simp] theorem goodFrame_calls (s : State) : (s.goodFrame).calls = s.calls := rfl
@[simp] theorem goodFrame_store (s : State) : (s.goodFrame).store = s.store := rfl
@[simp] theorem goodFrame_queue (s : State) : (s.goodFrame).queue = s.queue := rfl
@[simp] theorem goodFrame_claims (s : State) : (s.goodFrame).claims = s.claims := rfl
@[simp] theorem goodFrame_chans (s : State) : (s.goodFrame).chans = s.chans := rfl
@[simp] theorem goodFrame_port (s : State) : (s.goodFrame).port = s.port := rfl
@[simp] theorem goodFrame_zones (s : State) : (s.goodFrame).zones = s.zones := rfl
@[simp] theorem goodFrame_levels (s : State) : (s.goodFrame).levels = s.levels := rfl
@[simp] theorem goodFrame_evac (s : State) : (s.goodFrame).evac = s.evac := rfl
@[simp] theorem goodFrame_sup (s : State) : (s.goodFrame).sup = s.sup := rfl
@[simp] theorem goodFrame_faults (s : State) : (s.goodFrame).faults = s.faults := rfl
@[simp] theorem goodFrame_counters (s : State) : (s.goodFrame).counters = s.counters := rfl

/-! ### tookTag -/

@[simp] theorem tookTag_pending (s : State) : (s.tookTag).pending = s.pending := rfl
@[simp] theorem tookTag_startup (s : State) : (s.tookTag).startup = s.startup := rfl
@[simp] theorem tookTag_link (s : State) : (s.tookTag).link = s.link := rfl
@[simp] theorem tookTag_clock (s : State) : (s.tookTag).clock = s.clock := rfl
@[simp] theorem tookTag_calls (s : State) : (s.tookTag).calls = s.calls := rfl
@[simp] theorem tookTag_store (s : State) : (s.tookTag).store = s.store := rfl
@[simp] theorem tookTag_claims (s : State) : (s.tookTag).claims = s.claims := rfl
@[simp] theorem tookTag_chans (s : State) : (s.tookTag).chans = s.chans := rfl
@[simp] theorem tookTag_port (s : State) : (s.tookTag).port = s.port := rfl
@[simp] theorem tookTag_zones (s : State) : (s.tookTag).zones = s.zones := rfl
@[simp] theorem tookTag_levels (s : State) : (s.tookTag).levels = s.levels := rfl
@[simp] theorem tookTag_evac (s : State) : (s.tookTag).evac = s.evac := rfl
@[simp] theorem tookTag_sup (s : State) : (s.tookTag).sup = s.sup := rfl
@[simp] theorem tookTag_faults (s : State) : (s.tookTag).faults = s.faults := rfl
@[simp] theorem tookTag_counters (s : State) : (s.tookTag).counters = s.counters := rfl

/-! ### zeroCounters -/

@[simp] theorem zeroCounters_pending (s : State) : (s.zeroCounters).pending = s.pending := rfl
@[simp] theorem zeroCounters_startup (s : State) : (s.zeroCounters).startup = s.startup := rfl
@[simp] theorem zeroCounters_link (s : State) : (s.zeroCounters).link = s.link := rfl
@[simp] theorem zeroCounters_clock (s : State) : (s.zeroCounters).clock = s.clock := rfl
@[simp] theorem zeroCounters_calls (s : State) : (s.zeroCounters).calls = s.calls := rfl
@[simp] theorem zeroCounters_store (s : State) : (s.zeroCounters).store = s.store := rfl
@[simp] theorem zeroCounters_queue (s : State) : (s.zeroCounters).queue = s.queue := rfl
@[simp] theorem zeroCounters_claims (s : State) : (s.zeroCounters).claims = s.claims := rfl
@[simp] theorem zeroCounters_chans (s : State) : (s.zeroCounters).chans = s.chans := rfl
@[simp] theorem zeroCounters_port (s : State) : (s.zeroCounters).port = s.port := rfl
@[simp] theorem zeroCounters_zones (s : State) : (s.zeroCounters).zones = s.zones := rfl
@[simp] theorem zeroCounters_levels (s : State) : (s.zeroCounters).levels = s.levels := rfl
@[simp] theorem zeroCounters_evac (s : State) : (s.zeroCounters).evac = s.evac := rfl
@[simp] theorem zeroCounters_sup (s : State) : (s.zeroCounters).sup = s.sup := rfl
@[simp] theorem zeroCounters_faults (s : State) : (s.zeroCounters).faults = s.faults := rfl

/-! ### Reads of what an update wrote -/

@[simp] theorem zone_setZone_self (s : State) (z : ZoneId) (f : Zone → Zone) : (s.setZone z f).zone z = f (s.zone z) := by
  simp [State.zone, State.setZone]

theorem zone_setZone_of_ne (s : State) (z w : ZoneId) (f : Zone → Zone) (h : z ≠ w) : (s.setZone z f).zone w = s.zone w := by
  have h' : z.val ≠ w.val := fun e => h (Fin.ext e)
  simp [State.zone, State.setZone, h']

@[simp] theorem level_setLevel_self (s : State) (z : ZoneId) (f : Level → Level) : (s.setLevel z f).level z = f (s.level z) := by
  simp [State.level, State.setLevel]

theorem level_setLevel_of_ne (s : State) (z w : ZoneId) (f : Level → Level) (h : z ≠ w) : (s.setLevel z f).level w = s.level w := by
  have h' : z.val ≠ w.val := fun e => h (Fin.ext e)
  simp [State.level, State.setLevel, h']

@[simp] theorem chan_setChan_self (s : State) (c : ChanId) (i : Option ChanInst) : (s.setChan c i).chan c = i := by
  simp [State.chan, State.setChan]

theorem chan_setChan_of_ne (s : State) (c d : ChanId) (i : Option ChanInst) (h : c ≠ d) : (s.setChan c i).chan d = s.chan d := by
  have h' : c.val ≠ d.val := fun e => h (Fin.ext e)
  simp [State.chan, State.setChan, h']

@[simp] theorem claimOf_setClaim_self (s : State) (c : ChanId) (r : Option OwnClaim) : (s.setClaim c r).claimOf c = r := by
  simp [State.claimOf, State.setClaim]

theorem claimOf_setClaim_of_ne (s : State) (c d : ChanId) (r : Option OwnClaim) (h : c ≠ d) :
    (s.setClaim c r).claimOf d = s.claimOf d := by
  have h' : c.val ≠ d.val := fun e => h (Fin.ext e)
  simp [State.claimOf, State.setClaim, h']

@[simp] theorem setClaim_occupancy (s : State) (c : ChanId) (r : Option OwnClaim) :
    (s.setClaim c r).claims.occupancy = s.claims.occupancy := rfl

@[simp] theorem setClaim_joinTimer (s : State) (c : ChanId) (r : Option OwnClaim) :
    (s.setClaim c r).claims.joinTimer = s.claims.joinTimer := rfl

@[simp] theorem cont_setCont_self (s : State) (c : ChanId) (k : Option Continuation) : (s.setCont c k).cont c = k := by
  simp [State.cont, State.setCont]

@[simp] theorem setCont_entries (s : State) (c : ChanId) (k : Option Continuation) :
    (s.setCont c k).queue.entries = s.queue.entries := rfl

@[simp] theorem setEntries_entries (s : State) (l : List Entry) : (s.setEntries l).queue.entries = l := rfl

@[simp] theorem putCall_calls_eq (s : State) (r : CallRecord) : (s.putCall r).calls = insertCall r s.calls := rfl

theorem find_insertCall (r : CallRecord) (l : List CallRecord) : (insertCall r l).find? (fun q => q.id = r.id) = some r := by
  induction l with
  | nil => simp [insertCall]
  | cons q rest ih =>
    unfold insertCall
    split
    · simp
    · split
      · simp
      · rename_i h
        have h' : ¬ q.id = r.id := fun e => h e.symm
        simp [h', ih]

/-- Reading back the record that was put. -/
@[simp] theorem call_putCall_self (s : State) (r : CallRecord) : (s.putCall r).call r.id = some r := find_insertCall r s.calls

theorem find_insertCall_of_ne (r : CallRecord) (l : List CallRecord) (id : Nat) (h : id ≠ r.id) :
    (insertCall r l).find? (fun q => q.id = id) = l.find? (fun q => q.id = id) := by
  have h' : ¬ r.id = id := fun e => h e.symm
  induction l with
  | nil => simp [insertCall, h']
  | cons q rest ih =>
    unfold insertCall
    split
    · simp [h']
    · split
      · rename_i e
        have h2 : ¬ q.id = id := fun e2 => h' (e.trans e2)
        simp [h', h2]
      · simp only [List.find?_cons, ih]

/-- A put leaves the records of other calls alone. -/
theorem call_putCall_of_ne (s : State) (r : CallRecord) (id : Nat) (h : id ≠ r.id) : (s.putCall r).call id = s.call id :=
  find_insertCall_of_ne r s.calls id h

/-- A counter after it has counted. -/
theorem count_counter (s : State) (k : Counter) : (s.count k).counters[k.idx] = satInc s.counters[k.idx] := by
  simp [State.count]

/-- The other counters are unchanged. -/
theorem count_other (s : State) (k : Counter) (i : Fin 16) (h : k.idx ≠ i) : (s.count k).counters[i] = s.counters[i] := by
  have h' : k.idx.val ≠ i.val := fun e => h (Fin.ext e)
  simp [State.count, h']

end Sys2Proof.Machine
end

