-- ==== Sys2Proof/Laws/Frames.lean ====
section
/-! SUPPORT. What the shared operations below the Call Table can do: a relation between a state and a later one, and one lemma for each
operation saying that it holds. -/

namespace Sys2Proof.Machine

/-- What every operation of the queue, the claims, the channels, the zones and the fault table leaves alone, and the bounds that it
keeps. -/
structure Keeps (s t : State) : Prop where
  pending : t.pending = s.pending
  startup : t.startup = s.startup
  clock : t.clock = s.clock
  calls : t.calls = s.calls
  store : t.store = s.store
  evac : t.evac = s.evac
  occupancy : t.claims.occupancy = s.claims.occupancy
  joinTimer : t.claims.joinTimer = s.claims.joinTimer
  handedOver : t.port.handedOver = s.port.handedOver
  contacts : t.sup.contacts = s.sup.contacts
  pins : t.sup.pins = s.sup.pins
  sampleAt : t.sup.sampleAt = s.sup.sampleAt
  roundAt : t.sup.scan.roundAt = s.sup.scan.roundAt
  budget : t.link.budget = s.link.budget
  monitor : t.link.monitor = s.link.monitor
  testStep : t.faults.testStep = s.faults.testStep
  txLegal : s.TxQueueLegal → t.TxQueueLegal
  countersFit : s.CountersFit → t.CountersFit

namespace Keeps

theorem refl (s : State) : Keeps s s :=
  ⟨rfl, rfl, rfl, rfl, rfl, rfl, rfl, rfl, rfl, rfl, rfl, rfl, rfl, rfl, rfl, rfl, id, id⟩

theorem trans {s t u : State} (h : Keeps s t) (k : Keeps t u) : Keeps s u :=
  ⟨k.1.trans h.1, k.2.trans h.2, k.3.trans h.3, k.4.trans h.4, k.5.trans h.5, k.6.trans h.6, k.7.trans h.7, k.8.trans h.8,
    k.9.trans h.9, k.10.trans h.10, k.11.trans h.11, k.12.trans h.12, k.13.trans h.13, k.14.trans h.14, k.15.trans h.15,
    k.16.trans h.16, k.17 ∘ h.17, k.18 ∘ h.18⟩

/-- A fold of steps that keep. -/
theorem foldl {α : Type} (f : State → α → State) (hf : ∀ s a, Keeps s (f s a)) (l : List α) (s : State) : Keeps s (l.foldl f s) := by
  induction l generalizing s with
  | nil => exact refl s
  | cons a rest ih => exact (hf s a).trans (ih (f s a))

end Keeps

/-- An update of the parts that a relation `Keeps` does not mention. -/
theorem keeps_of_eq {s t : State} (h1 : t.pending = s.pending) (h2 : t.startup = s.startup) (h3 : t.clock = s.clock)
    (h4 : t.calls = s.calls) (h5 : t.store = s.store) (h6 : t.evac = s.evac) (h7 : t.claims.occupancy = s.claims.occupancy)
    (h8 : t.claims.joinTimer = s.claims.joinTimer) (h9 : t.port.handedOver = s.port.handedOver)
    (h10 : t.sup.contacts = s.sup.contacts) (h11 : t.sup.pins = s.sup.pins) (h12 : t.sup.sampleAt = s.sup.sampleAt)
    (h13 : t.sup.scan.roundAt = s.sup.scan.roundAt) (h14 : t.link = s.link) (h15 : t.faults.testStep = s.faults.testStep)
    (h16 : t.counters = s.counters) : Keeps s t :=
  ⟨h1, h2, h3, h4, h5, h6, h7, h8, h9, h10, h11, h12, h13, by rw [h14], by rw [h14], h15,
    fun h => ⟨by rw [h14]; exact h.size, fun o => by rw [h14]; exact h.offLink (by simpa only [State.onLink, h2] using o),
      by rw [h14]; exact h.oneSending⟩, fun h => by simpa [State.CountersFit, h16] using h⟩

/-! ### Plain updates -/

theorem keeps_setZone (s : State) (z : ZoneId) (f : Zone → Zone) : Keeps s (s.setZone z f) := by
  apply keeps_of_eq <;> rfl

theorem keeps_setLevel (s : State) (z : ZoneId) (f : Level → Level) : Keeps s (s.setLevel z f) := by
  apply keeps_of_eq <;> rfl

theorem keeps_setLine (s : State) (z : ZoneId) (f : Line → Line) : Keeps s (s.setLine z f) := by
  apply keeps_of_eq <;> rfl

theorem keeps_setChan (s : State) (c : ChanId) (i : Option ChanInst) : Keeps s (s.setChan c i) := by
  apply keeps_of_eq <;> rfl

theorem keeps_updChan (s : State) (c : ChanId) (f : ChanInst → ChanInst) : Keeps s (s.updChan c f) := keeps_setChan _ _ _

theorem keeps_setClaim (s : State) (c : ChanId) (r : Option OwnClaim) : Keeps s (s.setClaim c r) := by
  apply keeps_of_eq <;> rfl

theorem keeps_setCont (s : State) (c : ChanId) (k : Option Continuation) : Keeps s (s.setCont c k) := by
  apply keeps_of_eq <;> rfl

theorem keeps_setEntries (s : State) (l : List Entry) : Keeps s (s.setEntries l) := by
  apply keeps_of_eq <;> rfl

theorem keeps_disown (s : State) (c : ChanId) : Keeps s (s.disown c) := by
  apply keeps_of_eq <;> rfl

theorem keeps_endTransaction (s : State) : Keeps s s.endTransaction := by
  apply keeps_of_eq <;> rfl

theorem keeps_tookTag (s : State) : Keeps s s.tookTag := by
  apply keeps_of_eq <;> rfl

theorem keeps_scan (s : State) (f : Scan → Scan) (hf : (f s.sup.scan).roundAt = s.sup.scan.roundAt) : Keeps s (s.setScan f) := by
  apply keeps_of_eq <;> first | rfl | exact hf

/-! ### Counters -/

theorem satInc_le (n : Nat) : satInc n ≤ 65535 := by unfold satInc; omega

theorem countersFit_count {s : State} (k : Counter) (h : s.CountersFit) : (s.count k).CountersFit := by
  intro i
  by_cases e : k.idx = i
  · subst e
    rw [count_counter]
    exact satInc_le _
  · rw [count_other s k i e]
    exact h i

theorem keeps_count (s : State) (k : Counter) : Keeps s (s.count k) :=
  ⟨rfl, rfl, rfl, rfl, rfl, rfl, rfl, rfl, rfl, rfl, rfl, rfl, rfl, rfl, rfl, rfl, fun h => ⟨h.size, h.offLink, h.oneSending⟩,
   countersFit_count k⟩

/-! ### The transmit queue (R11 to R15) -/

theorem insertFrame_length (f : TxFrame) (l : List TxFrame) : (insertFrame f l).length = l.length + 1 := by
  induction l with
  | nil => rfl
  | cons g rest ih =>
    unfold insertFrame
    split <;> simp [ih]

theorem insertFrame_sending (f : TxFrame) (hf : f.sending = false) (l : List TxFrame) :
    ((insertFrame f l).filter TxFrame.sending).length = (l.filter TxFrame.sending).length := by
  induction l with
  | nil => simp [insertFrame, hf]
  | cons g rest ih =>
    unfold insertFrame
    split
    · simp only [List.filter_cons]
      split <;> simp [ih]
    · simp [List.filter_cons, hf]

/-- What a change of the transmit queue and the counters keeps, while the node is on the link. -/
theorem keeps_queue {s t : State} (on : s.onLink = true) (h : t = { s with link := t.link, counters := t.counters })
    (hm : t.link.monitor = s.link.monitor) (hb : t.link.budget = s.link.budget)
    (hq : s.link.queue.length ≤ 8 → t.link.queue.length ≤ 8)
    (ho : (t.link.queue.filter TxFrame.sending).length ≤ (s.link.queue.filter TxFrame.sending).length)
    (hc : s.CountersFit → t.CountersFit) : Keeps s t := by
  have hs : t.startup = s.startup := by rw [h]
  refine ⟨by rw [h], hs, by rw [h], by rw [h], by rw [h], by rw [h], by rw [h], by rw [h], by rw [h], by rw [h], by rw [h], by rw [h],
    by rw [h], hb, hm, by rw [h], ?_, hc⟩
  intro k
  refine ⟨hq k.size, fun off => ?_, Nat.le_trans ho k.oneSending⟩
  simp [State.onLink, hs] at off
  simp [State.onLink, off] at on

theorem keeps_txInsert (s : State) (f : TxFrame) (on : s.onLink = true) (hf : f.sending = false) : Keeps s (s.txInsert f) := by
  unfold State.txInsert
  split
  · refine keeps_queue on rfl rfl rfl ?_ ?_ id
    · intro _
      simp only [Link.join, insertFrame_length]
      omega
    · exact Nat.le_of_eq (insertFrame_sending { f with seq := s.link.seqCounter } hf s.link.queue)
  · split
    · rename_i h1 h2
      refine Keeps.trans (t := { s with link := ({ s.link with queue := s.link.queue.eraseP TxFrame.evictable }).join f })
        (keeps_queue on rfl rfl rfl ?_ ?_ id) (keeps_count _ _)
      · intro h
        obtain ⟨g, hg, hp⟩ := List.any_eq_true.mp h2
        simp only [Link.join, insertFrame_length, List.length_eraseP_of_mem hg hp]
        omega
      · exact Nat.le_trans (Nat.le_of_eq (insertFrame_sending { f with seq := s.link.seqCounter } hf (s.link.queue.eraseP TxFrame.evictable)))
          (List.eraseP_sublist.filter _).length_le
    · exact keeps_count _ _

theorem filter_map_sending (f : TxFrame → TxFrame) (hf : ∀ g, (f g).sending = g.sending) (l : List TxFrame) :
    ((l.map f).filter TxFrame.sending).length = (l.filter TxFrame.sending).length := by
  induction l with
  | nil => rfl
  | cons g rest ih =>
    simp only [List.map_cons, List.filter_cons, hf]
    split <;> simp [ih]

theorem keeps_mapQueue (s : State) (f : TxFrame → TxFrame) (on : s.onLink = true) (hf : ∀ g, (f g).sending = g.sending) :
    Keeps s (s.mapQueue f) :=
  keeps_queue on rfl rfl rfl (by simp [State.mapQueue]) (Nat.le_of_eq (filter_map_sending f hf _)) id

theorem keeps_eraseP (s : State) (p : TxFrame → Bool) (on : s.onLink = true) :
    Keeps s { s with link := { s.link with queue := s.link.queue.eraseP p } } :=
  keeps_queue on rfl rfl rfl (fun h => Nat.le_trans List.length_eraseP_le h) (List.eraseP_sublist.filter _).length_le id

theorem keeps_txClaim (s : State) (f : TxFrame) (on : s.onLink = true) (hf : f.sending = false) : Keeps s (s.txClaim f) := by
  unfold State.txClaim
  split
  · refine keeps_mapQueue _ _ on fun g => ?_
    split
    · split <;> rfl
    · rfl
  · exact keeps_txInsert _ _ on hf

theorem keeps_txRelease (s : State) (f : TxFrame) (on : s.onLink = true) (hf : f.sending = false) : Keeps s (s.txRelease f) := by
  unfold State.txRelease
  split
  · exact keeps_txInsert _ _ on hf
  · split
    · refine (keeps_mapQueue s _ on fun g => ?_).trans (keeps_txInsert _ _ on hf)
      split <;> rfl
    · dsimp only
      split
      · exact keeps_eraseP s _ on
      · exact (keeps_eraseP s _ on).trans (keeps_txInsert _ _ on hf)

theorem keeps_txEvacStart (s : State) (f : TxFrame) (on : s.onLink = true) (hf : f.sending = false) : Keeps s (s.txEvacStart f) := by
  unfold State.txEvacStart
  split
  · refine keeps_mapQueue _ _ on fun g => ?_
    split <;> rfl
  · exact keeps_txInsert _ _ on hf

/-- A frame offered (R11). -/
theorem keeps_txOffer (s : State) (f : TxFrame) (hf : f.sending = false) : Keeps s (s.txOffer f) := by
  unfold State.txOffer
  split
  · rename_i on
    split
    · exact keeps_txClaim _ _ on hf
    · exact keeps_txRelease _ _ on hf
    · exact keeps_txEvacStart _ _ on hf
    · exact keeps_txInsert _ _ on hf
  · exact Keeps.refl s

theorem keeps_faults (s : State) (t : FaultTable) (h : t.testStep = s.faults.testStep) : Keeps s { s with faults := t } := by
  apply keeps_of_eq <;> first | rfl | exact h

theorem keeps_report (s : State) (i : Fin 16) : Keeps s (s.report i) := by
  unfold State.report
  dsimp only
  refine Keeps.trans ?_ (keeps_txOffer _ _ rfl)
  apply keeps_of_eq <;> rfl

theorem keeps_pumpN (n : Nat) (s : State) : Keeps s (pumpN n s) := by
  induction n generalizing s with
  | zero => exact Keeps.refl s
  | succ n ih =>
    unfold pumpN
    split
    · split
      · exact (keeps_report s _).trans (ih _)
      · exact Keeps.refl s
    · exact Keeps.refl s

theorem keeps_pump (s : State) : Keeps s s.pump := keeps_pumpN 16 s

/-- A frame offered by a block (R11, R176). -/
theorem keeps_offer (s : State) (f : TxFrame) (hf : f.sending = false) : Keeps s (s.offer f) :=
  (keeps_txOffer s f hf).trans (keeps_pump _)

/-! ### Faults (R173, R174) -/

theorem raise_testStep {t u : FaultTable} {k : FaultKind} {subject : Option Nat} {sim : Bool} {stamp : Option Stamp} {now : Nat}
    (h : t.raise k subject sim stamp now = some u) : u.testStep = t.testStep := by
  unfold FaultTable.raise at h
  split at h
  · cases h; rfl
  · split at h
    · cases h; rfl
    · cases h

theorem clear_testStep (t : FaultTable) (k : FaultKind) (subject : Option Nat) (stamp : Option Stamp) (now : Nat) :
    (t.clear k subject stamp now).testStep = t.testStep := by
  unfold FaultTable.clear
  split
  · split
    · split <;> rfl
    · rfl
  · rfl

/-- A raise (R173, R174). -/
theorem keeps_raiseAs (s : State) (k : FaultKind) (subject : Option Nat) (sim : Bool) : Keeps s (s.raiseAs k subject sim) := by
  unfold State.raiseAs
  split
  · rename_i t h
    exact (keeps_faults s t (raise_testStep h)).trans (keeps_pump _)
  · exact keeps_count _ _

theorem keeps_raise (s : State) (k : FaultKind) (subject : Option Nat) : Keeps s (s.raise k subject) := keeps_raiseAs _ _ _ _

/-- A clear (R173). -/
theorem keeps_clear (s : State) (k : FaultKind) (subject : Option Nat) : Keeps s (s.clear k subject) :=
  (keeps_faults s _ (clear_testStep _ _ _ _ _)).trans (keeps_pump _)

/-! ### Claims, tails and fetch (R109, R112, R130 to R134) -/

theorem keeps_offerClaim (s : State) (c : ChanId) : Keeps s (s.offerClaim c) := by
  unfold State.offerClaim
  split
  · exact Keeps.refl s
  · exact (keeps_setClaim _ _ _).trans (keeps_offer _ _ rfl)

theorem keeps_makeClaim (s : State) (c : ChanId) (tag cls : Nat) (d : Option Nat) : Keeps s (s.makeClaim c tag cls d) := by
  unfold State.makeClaim
  dsimp only
  split
  · exact Keeps.refl s
  · exact (keeps_setClaim _ _ _).trans (keeps_offerClaim _ _)

theorem keeps_establish (s : State) (c : ChanId) : Keeps s (s.establish c) := by
  unfold State.establish
  split
  · exact Keeps.refl s
  · exact (keeps_setClaim _ _ _).trans (keeps_offerClaim _ _)

theorem keeps_dropClaim (s : State) (c : ChanId) (o : Ending) : Keeps s (s.dropClaim c o) := by
  unfold State.dropClaim
  split
  · exact Keeps.refl s
  · exact (keeps_setClaim _ _ _).trans (keeps_offer _ _ rfl)

/-- An entry to TAIL (R130). -/
theorem keeps_enterTail (s : State) (c : ChanId) (o : Ending) : Keeps s (s.enterTail c o) := by
  unfold State.enterTail
  split
  · exact Keeps.refl s
  · split
    · exact Keeps.refl s
    · exact ((keeps_setChan _ _ _).trans (keeps_disown _ _)).trans (keeps_dropClaim _ _ _)

theorem keeps_arbitrate (s : State) : Keeps s s.arbitrate := by
  unfold State.arbitrate
  split
  · split
    · exact Keeps.refl s
    · apply keeps_of_eq <;> rfl
  · exact Keeps.refl s

theorem keeps_stopInstance (s : State) (c : ChanId) (o : Ending) : Keeps s (s.stopInstance c o) := by
  unfold State.stopInstance
  split
  · exact Keeps.refl s
  · split
    · exact Keeps.refl s
    · split <;> first | exact keeps_enterTail _ _ _ | exact keeps_setChan _ _ _ | exact Keeps.refl s

/-! ### Gates and line tests (R143, R144, R167, R169) -/

theorem keeps_settleGate (s : State) (z : ZoneId) : Keeps s (s.settleGate z) := by
  unfold State.settleGate
  dsimp only
  split <;> split
  · exact (keeps_setLevel _ _ _).trans (keeps_setLevel _ _ _)
  · exact keeps_setLevel _ _ _
  · exact keeps_setLevel _ _ _
  · exact Keeps.refl s

/-- R143 and R144 at the end of an event. -/
theorem keeps_settleGates (s : State) : Keeps s s.settleGates := Keeps.foldl _ keeps_settleGate _ s

theorem keeps_fallSilent (s : State) (z : ZoneId) : Keeps s (s.fallSilent z) := (keeps_setZone s _ _).trans (keeps_setLevel _ _ _)

theorem keeps_skipZone (s : State) (z : ZoneId) : Keeps s (s.skipZone z) := by
  unfold State.skipZone
  dsimp only
  split
  · exact (keeps_setLine _ _ _).trans (keeps_raise _ _ _)
  · exact keeps_setLine _ _ _

theorem keeps_abortTest (s : State) (z : ZoneId) : Keeps s (s.abortTest z) := by
  unfold State.abortTest
  split
  · exact ((keeps_fallSilent s z).trans (keeps_setLevel _ _ _)).trans (keeps_skipZone _ _)
  · exact Keeps.refl s

theorem keeps_endRound (s : State) : Keeps s s.endRound := keeps_scan _ _ rfl

theorem keeps_groupEnded (s : State) : Keeps s s.groupEnded := by
  unfold State.groupEnded
  split
  · split
    · exact Keeps.refl s
    · split
      · exact keeps_endRound s
      · exact keeps_scan _ _ rfl
  · split
    · exact Keeps.refl s
    · split
      · exact keeps_endRound s
      · exact keeps_scan _ _ rfl
  · exact Keeps.refl s

/-! ### The queue (R91 to R106) -/

theorem keeps_give (s : State) (k : Key) (r : Result) : Keeps s (s.give k r) := by
  cases k
  · exact keeps_count _ _
  · exact (keeps_count _ _).trans (keeps_offer _ _ rfl)
  · exact (keeps_count _ _).trans (keeps_offer _ _ rfl)

theorem keeps_removeEntry (s : State) (k : Key) (r : Result) : Keeps s (s.removeEntry k r) :=
  (keeps_setEntries s _).trans (keeps_give _ _ _)

theorem keeps_insertNew (s : State) (e : Entry) : Keeps s (s.insertNew e) := by
  apply keeps_of_eq <;> rfl

theorem keeps_hold (s : State) (c : ChanId) (zs : ZoneSet) : Keeps s (s.hold c zs) := Keeps.foldl _ (fun _ _ => keeps_setZone _ _ _) _ s

theorem keeps_assemble {s t : State} {n : Nat} {x : Inputs} {l : Option (List Nat)} (h : s.assemble n x = (t, l)) : Keeps s t := by
  unfold State.assemble at h
  split at h <;> cases h
  · exact Keeps.refl s
  · exact keeps_raise _ _ _

theorem keeps_words {s t : State} {e : Entry} {l : Option (List Nat)} (h : s.words e = (t, l)) : Keeps s t := by
  unfold State.words at h
  split at h
  · cases h
    exact Keeps.refl s
  · exact keeps_assemble h

theorem keeps_launch (s : State) (e : Entry) (c : ChanId) (zs : ZoneSet) (l : List Nat) : Keeps s (s.launch e c zs l) := by
  unfold State.launch
  dsimp only
  have h1 := Keeps.foldl (fun s d => s.enterTail d .preempted) (fun s d => keeps_enterTail s d .preempted) (s.preempted e.cls zs) s
  have h2 := fun u => Keeps.foldl State.abortTest keeps_abortTest (zs.filter (State.inTest u)) u
  exact ((((((h1.trans (h2 _)).trans (keeps_hold _ c zs)).trans (keeps_groupEnded _)).trans (keeps_setChan _ _ _)).trans
    (keeps_setCont _ _ _)).trans (keeps_setEntries _ _)).trans (keeps_makeClaim _ _ _ _ _)

theorem keeps_dispatch (s : State) (e : Entry) (c : ChanId) (zs : ZoneSet) : Keeps s (s.dispatch e c zs) := by
  unfold State.dispatch
  split
  · rename_i h
    exact (keeps_words h).trans (keeps_removeEntry _ _ _)
  · rename_i h
    exact (keeps_words h).trans (keeps_launch _ _ _ _ _)

theorem keeps_pass (l : List Entry) (s : State) : Keeps s (State.pass l s).1 := by
  induction l generalizing s with
  | nil => exact Keeps.refl s
  | cons e rest ih =>
    unfold State.pass
    split
    · exact ih s
    · exact (keeps_removeEntry _ _ _).trans (ih _)
    · exact keeps_dispatch _ _ _ _

theorem keeps_walkN (n : Nat) (s : State) : Keeps s (State.walkN n s) := by
  induction n generalizing s with
  | zero => exact Keeps.refl s
  | succ n ih =>
    unfold State.walkN
    split
    · rename_i t h
      have k := keeps_pass s.queue.entries s
      rw [h] at k
      exact k.trans (ih t)
    · rename_i t h
      have k := keeps_pass s.queue.entries s
      rw [h] at k
      exact k

/-- A walk (R96). -/
theorem keeps_walkedAt (s : State) (n : Nat) : Keeps s { s with queue := { s.queue with walkedAt := n } } := by
  apply keeps_of_eq <;> rfl

theorem keeps_walk (s : State) : Keeps s s.walk := by
  unfold State.walk
  exact (((keeps_walkN _ s).trans (keeps_walkedAt _ _)).trans (keeps_arbitrate _)).trans (keeps_settleGates _)

theorem keeps_offerNew (s : State) (e : Entry) : Keeps s (s.offerNew e) := by
  unfold State.offerNew
  split
  · exact (keeps_insertNew s e).trans (keeps_walk _)
  · split
    · split
      · exact ((keeps_removeEntry s _ _).trans (keeps_insertNew _ e)).trans (keeps_walk _)
      · exact keeps_give _ _ _
    · exact keeps_give _ _ _

/-- An entry offered (R91, R92). -/
theorem keeps_offerEntry (s : State) (e : Entry) : Keeps s (s.offerEntry e) := by
  unfold State.offerEntry
  split
  · exact ((keeps_setEntries s _).trans (keeps_setEntries _ _)).trans (keeps_walk _)
  · split
    · exact keeps_offerNew _ _
    · split
      · exact (keeps_setCont _ _ _).trans (keeps_walk _)
      · exact Keeps.refl s
      · exact Keeps.refl s

/-- A stop by key (R65, R95, R131). -/
theorem keeps_stopKey (s : State) (k : Key) (m : StopMark) : Keeps s (s.stopKey k m) := by
  unfold State.stopKey
  split
  · exact keeps_removeEntry _ _ _
  · split
    · exact Keeps.refl s
    · split
      · exact keeps_setCont _ _ _
      · exact keeps_stopInstance _ _ _

theorem keeps_offerRenewal (s : State) (k : Continuation) : Keeps s (s.offerRenewal k) := by
  unfold State.offerRenewal
  split
  · exact Keeps.refl s
  · exact keeps_offerEntry _ _

theorem keeps_offerNext (s : State) (k : Continuation) : Keeps s (s.offerNext k) := by
  unfold State.offerNext
  split
  · exact keeps_offerRenewal _ _
  · split
    · exact Keeps.refl s
    · split
      · exact keeps_offerEntry _ _
      · exact Keeps.refl s

/-- A withdrawn or preempted announcement returns exactly when no row of the table of R104 holds. -/
theorem State.requeueBar_eq_none_iff (s : State) (k : Continuation) (o : Ending) :
    s.requeueBar k o = none ↔
      ¬(k.entry.key.isLive = true ∧ o = .preempted) ∧ (∀ x, k.entry.expiry = some x → s.now < x)
        ∧ (k.entry.key.isCue = true → (k.entry.boundCall.bind s.call).isSome = true) ∧ (k.entry.cls ≤ 2 ∨ k.entry.attempts ≤ 6) := by
  unfold State.requeueBar
  generalize k.entry.boundCall.bind s.call = call
  cases call <;> cases hx : k.entry.expiry <;> simp <;> grind

theorem keeps_requeue (s : State) (k : Continuation) (o : Ending) : Keeps s (s.requeue k o) := by
  unfold State.requeue
  split
  · exact keeps_give _ _ _
  · exact keeps_offerEntry _ _

theorem keeps_settleEnd (s : State) (k : Continuation) (o : Ending) : Keeps s (s.settleEnd k o) := by
  unfold State.settleEnd
  dsimp only
  split <;> first
    | exact keeps_give _ _ _
    | exact keeps_requeue _ _ _
    | exact (keeps_give _ _ _).trans (keeps_offerNext _ _)
    | exact (keeps_give _ _ _).trans (keeps_offerRenewal _ _)

/-- A channel reports its instance (R103). -/
theorem keeps_reportEnd (s : State) (c : ChanId) (i : ChanInst) : Keeps s (s.reportEnd c i) := by
  unfold State.reportEnd
  split
  · exact (keeps_setCont _ _ _).trans (keeps_settleEnd _ _ _)
  · exact Keeps.refl s

end Sys2Proof.Machine
end

