-- ==== Sys2Proof/WellFormed.lean ====
section
/-! DEFINITION. Which commands are well formed: operands that the line and the memories can give. -/

namespace Sys2Proof

/-- A payload of at most 60 bytes (R16, R184). -/
def payloadFits (payload : List Byte) : Bool := decide (payload.length ≤ 60)

/-- A kind code that the frame-kind table does not name (R17). -/
def unknownCode (kind : Byte) : Bool := (Machine.kindOfCode kind.toNat).isNone

/-- The header has its sixteen bytes and the template store its 6208 (R188). -/
def headerFits (header store : List Byte) : Bool := decide (header.length = 16) && decide (store.length = 6208)

/-- The template store has its 6208 bytes (R188). -/
def storeFits (store : List Byte) : Bool := decide (store.length = 6208)

/-- An audio block has its 512 samples (R133). -/
def blockFits (samples : List (BitVec 16)) : Bool := decide (samples.length = 512)

/-- A configuration image with its header of four bytes and a body whose length the header can carry (R181). -/
def imageFits (image : List Byte) : Bool := decide (image.length ≤ 4 + 65535)

/-- A command with operands that can occur. -/
def wellFormed : Instr → Bool
  | .configImageRead image => imageFits image
  | .phraseHeaderRead header store => headerFits header store
  | .templateStoreRead store => storeFits store
  | .badFrame raw => !Machine.check1 raw
  | .unknownKind _ _ kind payload => unknownCode kind && payloadFits payload
  | .time _ _ payload => payloadFits payload
  | .callPost _ _ payload => payloadFits payload
  | .callAmend _ _ payload => payloadFits payload
  | .callCancel _ _ payload => payloadFits payload
  | .callMove _ _ payload => payloadFits payload
  | .trainEvent _ _ payload => payloadFits payload
  | .callHandover _ _ payload => payloadFits payload
  | .callAdopt _ _ payload => payloadFits payload
  | .callRefuse _ _ payload => payloadFits payload
  | .announce _ _ payload => payloadFits payload
  | .announceStop _ _ payload => payloadFits payload
  | .liveOpen _ _ payload => payloadFits payload
  | .liveKeep _ _ payload => payloadFits payload
  | .liveClose _ _ payload => payloadFits payload
  | .claim _ _ payload => payloadFits payload
  | .release _ _ payload => payloadFits payload
  | .evacStart _ _ payload => payloadFits payload
  | .evacStop _ _ payload => payloadFits payload
  | .faultAck _ _ payload => payloadFits payload
  | .testStep _ _ payload => payloadFits payload
  | .statusQuery _ _ payload => payloadFits payload
  | .faultReport _ _ payload => payloadFits payload
  | .nodeStatus _ _ payload => payloadFits payload
  | .announceResult _ _ payload => payloadFits payload
  | .blockReadComplete samples => blockFits samples
  | .coldStart => true
  | .resetAssert => true
  | .resetRelease => true
  | .enterJoining => true
  | .joinTimerExpiry => true
  | .characterReceived _ _ => true
  | .nonIdleRunLimit => true
  | .unknownIdleLimit => true
  | .lineQuiet => true
  | .disturbanceEnd => true
  | .disturbanceTimerExpiry => true
  | .discardSpanEnd => true
  | .slotReached => true
  | .echoMismatch => true
  | .transmissionComplete => true
  | .secondAdvance => true
  | .doubtTimerExpiry => true
  | .lingerExpiry _ => true
  | .moveTimerExpiry _ => true
  | .notBeforeReached _ => true
  | .entryExpiry _ => true
  | .occupancyExpiry _ => true
  | .refreshDeadlineExpiry _ => true
  | .claimSendTimeout _ => true
  | .wakeEnd _ => true
  | .listenWindowEnd _ => true
  | .primingDeadline _ => true
  | .directoryReadComplete _ => true
  | .blockPlayed _ => true
  | .gapEnd _ => true
  | .keepTimerExpiry _ => true
  | .tailEnd _ => true
  | .gateEnd _ => true
  | .quietDeadlineExpiry _ => true
  | .evacRepeatExpiry => true
  | .tonePlayingEnd => true
  | .evacPauseEnd => true
  | .acceptedLevelChange _ _ => true
  | .roundDeadlineExpiry => true
  | .settleEnd => true
  | .lineGateEnd => true
  | .spacingEnd => true
  | .contactSample _ => true
  | .risingPulseEdge _ _ => true

end Sys2Proof
end

