-- ==== Sys2Proof/Tests/Slice0.lean ====
section
/-! SUPPORT. Tests: figures worked in the manual, one ill-formed command for each check of WellFormed, and for each statement with hypotheses
a concrete state and operands that meet them. -/

namespace Sys2Proof.Tests

open Sys2Proof.Machine

set_option Elab.async false

/-! ### Figures worked in the manual -/

/-- R16: the check of "123456789". -/
theorem test_crc_check_value : crc16 [0x31#8, 0x32#8, 0x33#8, 0x34#8, 0x35#8, 0x36#8, 0x37#8, 0x38#8, 0x39#8] = 0x29B1#16 := by
  decide +kernel

/-- R7, Slot figures: the retries of nodes 5 and 11 at access class 2. -/
theorem test_slot_figures :
    ([0, 1, 2, 3].map fun r => frameSlot 5 { plainFrame 0 .claim [] 2 with retry := r }) = [9, 21, 24, 11]
      ∧ ([0, 1, 2, 3].map fun r => frameSlot 11 { plainFrame 0 .claim [] 2 with retry := r }) = [11, 21, 24, 11] := by
  decide +kernel

/-- R23, Service-time figures: 14:32:00 and 00:20:00 with H0 = 3. -/
theorem test_service_time :
    serviceSecond 3 52320 = 41520 ∧ serviceMinute 3 52320 = 692 ∧ clockMinute 3 692 = 872 ∧ serviceSecond 3 1200 = 76800 := by
  decide +kernel

/-- R80: 14:32, 18:00, 00:00 and 00:05. -/
theorem test_spoken_times :
    speakTime 3 692 = [14, 32] ∧ speakTime 0 1080 = [18, 61] ∧ speakTime 0 0 = [0, 0, 61] ∧ speakTime 3 1265 = [0, 0, 60, 5] := by
  decide +kernel

/-- R82: delays of 1, 9, 60, 61 and 180 minutes. -/
theorem test_spoken_delays :
    speakDelay 1 = [1, 64] ∧ speakDelay 9 = [9, 65] ∧ speakDelay 60 = [1, 62] ∧ speakDelay 61 = [1, 62, 1, 64] ∧ speakDelay 180 = [68] := by
  decide +kernel

/-- R83: two points, and the same list truncated. -/
theorem test_spoken_points : speakPoints false [200, 201] = [200, 66, 201] ∧ speakPoints true [200, 201] = [200, 201, 67] := by
  decide +kernel

/-- Three gates and a SERVICE announcement: M and A after each gate of 200 ms. -/
theorem test_three_gates :
    measured 400 200 = 280 ∧ newAmbient 260 280 = 270 ∧ measured 480 200 = 312 ∧ newAmbient 270 312 = 291 ∧ measured 300 200 = 240
      ∧ newAmbient 291 240 = 285 := by
  decide +kernel

/-- Three gates and a SERVICE announcement: T and G of class 3, and with zone_full at 300. -/
theorem test_gain_figures : clampTo 260 420 (285 + 40) = 325 ∧ gainCode 460 325 = 135 ∧ gainCode 300 325 = 0 := by
  decide +kernel

/-- A gate broken by a neighbour: 1500 pulses over 400 ms. -/
theorem test_long_gate : measured 1500 400 = 420 ∧ newAmbient 285 420 = 353 := by
  decide +kernel

/-- R184: a pair of twelve-bit values takes three bytes. -/
theorem test_run_of_two : run12 [0xABC, 0x123] = [0xAB#8, 0xC1#8, 0x23#8] ∧ unrun12 2 [0xAB#8, 0xC1#8, 0x23#8] = [0xABC, 0x123] := by
  decide +kernel

/-! ### Well-formedness -/

/-- A payload of 61 bytes. -/
theorem test_long_payload_refused : wellFormed (.time 0 0 (List.replicate 61 0#8)) = false := by
  decide +kernel

/-- A kind code that the table names. -/
theorem test_known_kind_refused : wellFormed (.unknownKind 0 0 0x10#8 []) = false := by
  decide +kernel

/-- A header of 15 bytes. -/
theorem test_short_header_refused : wellFormed (.phraseHeaderRead (List.replicate 15 0#8) []) = false := by
  decide +kernel

/-- An empty template store. -/
theorem test_short_store_refused : wellFormed (.templateStoreRead []) = false := by
  decide +kernel

/-- A block of 511 samples. -/
theorem test_short_block_refused : wellFormed (.blockReadComplete (List.replicate 511 0#16)) = false := by
  decide +kernel

/-- An image of more bytes than its header can tell. -/
theorem test_long_image_refused : wellFormed (.configImageRead (List.replicate 65540 0#8)) = false := by
  simp only [wellFormed, imageFits, List.length_replicate]
  decide

/-- A good frame as a bad one. -/
theorem test_good_frame_refused : wellFormed (.badFrame (frameBytes 5#8 1#8 0x58#8 [0#8])) = false := by
  decide +kernel

/-- A good frame of a known kind, and one of an unknown kind. -/
theorem test_frames_accepted : wellFormed (.statusQuery 5 1 [0#8]) = true ∧ wellFormed (.unknownKind 5 1 0x77#8 []) = true := by
  decide +kernel

/-! ### States for the tests -/

/-- The state that a command gives. -/
def after (c : Instr) (s : State) : State :=
  match exec c s with
  | .next t => t
  | .refused _ => State.reset

/-- Zone Z0 of node 5 on platform 1, facing zone 48 of node 6; Z1 beside it. -/
def tZone (neighbours : List Nat) : ZoneConfig :=
  { present := true, slot := some 0, neighbours := neighbours, zoneMin := 260, zoneMax := 420, zoneFull := 460, defaultAmbient := 260,
    sensor := true, lo := 10, hi := 100 }

/-- Node 5: platforms 1 and 2, two zones, every station admitted by every mask. -/
def tCfg : NodeConfig :=
  { noConfig with
    nodeId := 5, h0 := 3, linger := 5, margin := #v[60, 50, 40, 30], errorBudget := 50, roundPeriod := 2, platforms := #v[1, 2, 0, 0],
    zones := (((Vector.replicate 8 blankZone).set 0 (tZone [48])).set 1 (tZone [])), amplifiers := #v[[0], [], [], []],
    contacts := #v[{ role := .evacTrigger, activeHigh := false }, { role := .spareAlarm, activeHigh := true },
      { role := .mainsBattery, activeHigh := true }, { role := .ampFault 0, activeHigh := true }, { role := .unused, activeHigh := true },
      { role := .unused, activeHigh := true }, { role := .unused, activeHigh := true }, { role := .unused, activeHigh := true }],
    timetable := 0xFFFFFFFF, describer := 0xFFFFFFFF, desk := 0xFFFFFFFF, evac := 0xFFFFFFFF, timesrc := 0xFFFFFFFF, peer := 0xFFFFFFFF }

/-- A zone that is present and idle. -/
def tIdle : Zone := { Zone.reset with present := true }

/-- Node 5 in RUN on a quiet line, one second after midnight of its running count, with an empty slot for zone 48. -/
def tRun : State :=
  { State.reset with
    startup := { phase := .run, step := .ended, resetHeld := false, config := some tCfg },
    link := { Link.reset with monitor := .quiet, budget := some 50 },
    clock := { Clock.reset with now := 1000 },
    claims := { Claims.reset with occupancy := [{ zone := 48, occupant := none }] },
    port := { handedOver := true, transaction := none },
    zones := (((Vector.replicate 8 { Zone.reset with state := .off }).set 0 tIdle).set 1 tIdle) }

/-- The same node in a step of START. -/
def tStart (x : StartStep) (c : Option NodeConfig) : State :=
  { State.reset with startup := { phase := .start, step := x, resetHeld := false, config := c } }

/-- `State.Reaches` from its parts. -/
theorem reaches_of {s : State} {k : FrameKind} {dst src : Byte}
    (h : s.startup.resetHeld = false ∧ s.hears = true ∧ s.onLink = true ∧ (dst.toNat = 0 ∨ dst.toNat = s.cfg.nodeId)
      ∧ src.toNat ≠ s.cfg.nodeId ∧ s.cfg.admits k src.toNat = true) : s.Reaches k dst src :=
  ⟨h.1, h.2.1, h.2.2.1, h.2.2.2.1, h.2.2.2.2.1, h.2.2.2.2.2⟩

/-- Every kind from station 1 reaches its owner at node 5 in RUN. -/
theorem reaches_tRun (k : FrameKind) : tRun.Reaches k 5#8 1#8 := by
  cases k <;> exact reaches_of (by decide +kernel)

/-- What a good frame needs of a state, in a form that changes of the other blocks keep. -/
theorem reaches_congr {s t : State} {k : FrameKind} {dst src : Byte} (h : s.Reaches k dst src) (h1 : t.startup = s.startup)
    (h2 : t.link = s.link) : t.Reaches k dst src := by
  obtain ⟨a, b, c, d, e, f⟩ := h
  constructor <;> simp only [State.Awake, State.hears, State.sendingFrame, State.onLink, State.cfg, h1, h2] at * <;> assumption

/-- A call record of a departure from platform 1. -/
def tCall (st : CallState) : CallRecord :=
  { id := 2301, platform := 1, kind := .departure, scheduled := 692, expected := none, destination := 200, origin := none,
    carriages := some 8, points := [201, 202], posted := 2, truncated := false, state := st, events := Vector.replicate 4 .absent,
    lastDelay := none, moving := none, linger := none, slots := clearSlots }

/-- The record while it moves to platform 9 of another node. -/
def tMoving : CallRecord := { tCall .moving with moving := some { prior := .planned, target := 9, deadline := 11000 } }

/-- Node 5 in RUN with one call. -/
def tCalls (r : CallRecord) : State := { tRun with calls := [r] }

/-- A desk entry. -/
def tEntry (k : Key) : Entry :=
  { tag := 7, seq := 3, key := k, cls := 3, mask := [0], template := some 1, params := [], notBefore := 2000, expiry := some 9000,
    repetition := .once, attempts := 0, boundCall := none }

/-- An instance of desk 1's tag 4 on zone 0, in a state. -/
def tInst (st : ChanState) : ChanInst := { ChanInst.new 3 (some (.desk 1 4)) 7 none [200] with state := st }

/-- Node 5 in RUN with an instance on channel 1 that holds zone 0 under an own claim. -/
def tPlay (i : ChanInst) : State :=
  { tRun with
    chans := (Vector.replicate 4 none).set 1 (some i),
    zones := tRun.zones.set 0 { tIdle with state := .held 1 },
    claims := { tRun.claims with
      own := (Vector.replicate 4 none).set 1 (some
        { tag := 7, cls := 3, zones := [40], established := false, transmitted := false, refreshAt := 9000, sendDeadline := some 4000 }) } }

/-! ### Witnesses: the machine, start-up and resets -/

theorem test_witness_StepRunsFront :
    ({ tRun with pending := [.lineQuiet] } : State).pending = .lineQuiet :: []
      ∧ ({ tRun with startup := { tRun.startup with resetHeld := true } } : State).pending = []
      ∧ tRun.pending = [] ∧ tRun.Awake ∧ tRun.due = none ∧ tRun.link.rxFrame = [] ∧ tRun.driverEnable = false ∧ tRun.link.nonIdleRun = 0
      ∧ ({ tRun with link := { tRun.link with nonIdleRun := 20 } } : State).due = some .nonIdleRunLimit
      ∧ ({ tRun with link := { tRun.link with nonIdleRun := 7 } } : State).due = none := by
  refine ⟨rfl, rfl, rfl, rfl, ?_, ?_, ?_, ?_, ?_, ?_⟩ <;> decide +kernel

/-- R1: of 25 character times, the last one moves the running count. -/
theorem test_character_time :
    step { tRun with clock := { tRun.clock with charPhase := 24 } }
      = .next { tRun with clock := { tRun.clock with now := 1001 }, link := { tRun.link with idleRun := 1, slotCount := 1 } } := by
  rfl

theorem tRun_startOrder : tRun.StartOrder := by constructor <;> decide +kernel

theorem test_witness_StepKeepsStartOrder : tRun.StartOrder ∧ ∃ t, step tRun = .next t := ⟨tRun_startOrder, _, rfl⟩

theorem test_witness_ConfigurationFixed :
    tRun.StartOrder ∧ tRun.startup.config.isSome = true ∧ tRun.pending.head? = none ∧ (∃ t, step tRun = .next t)
      ∧ ({ tRun with pending := [.lineQuiet] } : State).pending.head? = some .lineQuiet ∧ Instr.lineQuiet ≠ .coldStart
      ∧ Instr.lineQuiet ≠ .resetAssert ∧ Instr.lineQuiet ≠ .resetRelease :=
  ⟨tRun_startOrder, rfl, rfl, ⟨_, rfl⟩, rfl, by decide, by decide, by decide⟩

/-- `State.KeysApart` in a form that can be decided. -/
theorem keysApart_of {s : State} (h : s.queue.entries.Pairwise fun a b => a.key ≠ b.key)
    (hp : ∀ c d : ChanId, c ≠ d →
      (s.chan c).bind ChanInst.key = none ∨ (s.chan c).bind ChanInst.key ≠ (s.chan d).bind ChanInst.key)
    (hb : ∀ e ∈ s.queue.entries, ∀ c : ChanId, (s.chan c).bind ChanInst.key ≠ some e.key) : s.KeysApart where
  waiting := h
  playing c d i j hi hj hk e := by
    by_contra hn
    have := hp c d hn
    simp [hi, hj, e] at this
    simp [e, this] at hk
  both e he c i hi hk := hb e he c (by simp [hi, hk])

theorem tPlay_keysApart (i : ChanInst) : (tPlay i).KeysApart := by
  have h : ∀ c : ChanId, c ≠ 1 → (tPlay i).chan c = none
    | 0, _ | 2, _ | 3, _ => rfl
    | 1, h => absurd rfl h
  refine keysApart_of List.Pairwise.nil (fun c d hn => ?_) (fun e he => by simp [tPlay, tRun, State.reset, Queue.reset] at he)
  by_cases hc : c = 1
  · subst hc
    rw [h d (Ne.symm hn)]
    cases ((tPlay i).chan 1).bind ChanInst.key <;> simp
  · simp [h c hc]

theorem tRun_ownersAgree : tRun.OwnersAgree where
  absent _ := by decide +kernel
  held z c h := absurd h (by revert z c; decide +kernel)
  evacuation h := by simp [tRun, State.reset, Evac.reset] at h
  claims c r h := by
    have e : ∀ c : ChanId, tRun.claimOf c = none := by decide +kernel
    rw [e c] at h
    cases h

theorem test_witness_StepKeepsOwners :
    tRun.StartOrder ∧ tRun.OwnersAgree ∧ (∃ t, step tRun = .next t) ∧ (tPlay (tInst .speaking)).KeysApart
      ∧ ∃ t, step (tPlay (tInst .speaking)) = .next t :=
  ⟨tRun_startOrder, tRun_ownersAgree, ⟨_, rfl⟩, tPlay_keysApart _, _, rfl⟩

/-- Node 5 with a frame of 8 on the line. -/
def tFull : State :=
  { tRun with
    link := { tRun.link with
      monitor := .active,
      queue := { plainFrame 0 .nodeStatus [] 3 with sending := true } :: List.replicate 7 (plainFrame 0 .callAdopt [] 2) } }

theorem tFull_legal : tFull.TxQueueLegal := by constructor <;> decide +kernel

theorem test_witness_StepKeepsTxQueue : tFull.TxQueueLegal ∧ ∃ t, step tFull = .next t := ⟨tFull_legal, _, rfl⟩

theorem tRun_faultsDistinct : tRun.FaultsDistinct := by
  intro i j a b h
  have e : ∀ i : Fin 16, (tRun.faults.slots[i]).record = none := by decide +kernel
  rw [e i] at h
  cases h

theorem test_witness_StepKeepsCounters :
    tRun.CountersFit ∧ tRun.FaultsDistinct ∧ tRun.TestStepLegal ∧ ∃ t, step tRun = .next t :=
  ⟨by unfold State.CountersFit; decide +kernel, tRun_faultsDistinct, by unfold State.TestStepLegal; decide +kernel, _, rfl⟩

theorem test_witness_StepKeepsTables :
    (tCalls (tCall .planned)).CallsFit ∧ (tCalls (tCall .planned)).EntriesFit ∧ ∃ t, step (tCalls (tCall .planned)) = .next t :=
  ⟨by constructor <;> decide +kernel, by unfold State.EntriesFit; decide +kernel, _, rfl⟩

theorem test_witness_WarmResetKeeps :
    ({ tRun with startup := { tRun.startup with resetHeld := true } } : State).startup.resetHeld = true
      ∧ Instr.lineQuiet ≠ .coldStart ∧ Instr.lineQuiet ≠ .resetAssert ∧ Instr.lineQuiet ≠ .resetRelease :=
  ⟨rfl, by decide, by decide, by decide⟩

/-- The body of an image: node 5, no zone, no platform, and every other field in range. -/
def tBody : List Byte :=
  [5, 3, 20, 0, 200, 2, 88, 2, 5, 5, 5, 60, 50, 40, 30, 0, 40, 2, 5, 50, 0, 100, 9, 15, 255, 15, 255, 15, 255, 15, 255, 15, 255, 0, 0, 0, 0].map byte
    ++ (List.replicate 8 ([0, 1, 0, 0, 0, 0, 0, 0, 1, 4, 1, 164, 1, 204, 1, 4, 0, 0, 10, 0, 100].map byte)).flatten
    ++ List.replicate 4 0#8 ++ List.replicate 16 0#8 ++ List.replicate 24 0xFF#8
    ++ (List.replicate 14 ([1, 0, 1, 10, 1, 3, 1, 0, 0, 3, 5, 4].map byte)).flatten

/-- The image with its header (R189). -/
def tImage : List Byte := word16 417 ++ word16 (crc16 tBody).toNat ++ tBody

theorem u16_at_two (a n : Nat) (h : n < 65536) (b : List Byte) : u16 (word16 a ++ word16 n ++ b) 2 = n := by
  simp [u16, u8, word16, byte]
  omega

theorem u16_at_seven (a c d n : Nat) (x : Byte) (h : n < 65536) (b : List Byte) :
    u16 (word16 a ++ word16 c ++ [x] ++ word16 d ++ word16 n ++ b) 7 = n := by
  simp [u16, u8, word16, byte]
  omega

/-- A body of the right length with a sound header passes the structural check, whatever its check is. -/
theorem image_read (b : List Byte) (hl : b.length = 417)
    (hs : 1 ≤ (readBody b).1.nodeId ∧ (readBody b).1.nodeId ≤ 31 ∧ (readBody b).1.platforms.toList.all (fun p => decide (p ≤ 40)) = true
      ∧ allZones.all (fun z => decide (u8 b (37 + 21 * z.val + 3) ≤ 4)) = true ∧ (readBody b).1.remoteZones.length ≤ 32) :
    readImage (word16 417 ++ word16 (crc16 b).toNat ++ b) = some (readBody b) := by
  have h1 : ((word16 417 ++ word16 (crc16 b).toNat ++ b).drop 4).take 417 = b := List.take_of_length_le (Nat.le_of_eq hl)
  have h2 : u16 (word16 417 ++ word16 (crc16 b).toNat ++ b) 2 = (crc16 b).toNat := u16_at_two _ _ (crc16 b).isLt b
  have h3 : u16 (word16 417 ++ word16 (crc16 b).toNat ++ b) 0 = 417 := by simp [u16, u8, word16, byte]
  have h4 : 4 ≤ (word16 417 ++ word16 (crc16 b).toNat ++ b).length := by simp [word16]
  unfold readImage
  simp only [h1]
  rw [if_pos ⟨h4, h3, hl, h2, hs⟩]

theorem tBody_length : tBody.length = 417 := by
  rw [tBody]
  simp only [List.length_append, List.length_map, List.length_replicate, List.length_flatten, List.length_cons, List.length_nil,
    List.map_replicate, List.sum_replicate, smul_eq_mul]

theorem tImage_read : readImage tImage = some ((readBody tBody).1, false) :=
  (image_read tBody tBody_length (by decide +kernel)).trans (congrArg some (Prod.ext rfl (by decide +kernel)))

/-- The same body with zone_max of Z7 at 500 (R181). -/
def tHighBody : List Byte := (tBody.set (37 + 21 * 7 + 10) 1#8).set (37 + 21 * 7 + 11) 244#8

theorem tHigh_read : readImage (word16 417 ++ word16 (crc16 tHighBody).toNat ++ tHighBody) = some ((readBody tHighBody).1, true) :=
  (image_read tHighBody (by rw [tHighBody, List.length_set, List.length_set, tBody_length]) (by decide +kernel)).trans
    (congrArg some (Prod.ext rfl (by decide +kernel)))

theorem test_witness_ConfigurationImageRead :
    (tStart .readConfig none).Awake ∧ (tStart .readConfig none).StartOrder ∧ (tStart .readConfig none).inStep .readConfig = true
      ∧ readImage [] = none ∧ (∃ c, readImage tImage = some (c, false))
      ∧ ∃ c, readImage (word16 417 ++ word16 (crc16 tHighBody).toNat ++ tHighBody) = some (c, true) :=
  ⟨rfl, by constructor <;> decide +kernel, by decide +kernel, by decide +kernel, ⟨_, tImage_read⟩, _, tHigh_read⟩

/-- R181: zone_max of Z7 at 500 is applied as 480 and counts as clamped. -/
theorem test_clamped_zone_max :
    ((readBody tHighBody).1.zones[(7 : Fin 8)]).zoneMax = 480 ∧ (readBody tHighBody).2 = true := by
  decide +kernel

theorem test_witness_AppliedConfigurationInRange : ∃ c, readImage tImage = some (c, false) := ⟨_, tImage_read⟩

/-- A template store of undefined templates, and its header (R188). -/
def tStore : List Byte := List.replicate 6208 0#8

/-- The header of that store. -/
def tHeader : List Byte := word16 0x5A38 ++ word16 4095 ++ [0#8] ++ word16 16396 ++ word16 (crc16 tStore).toNat ++ List.replicate 7 0#8

/-- A header made for a store of the right size is valid, whatever its check is. -/
theorem header_valid (b l : List Byte) (h : b.length = 6208) :
    headerValid (word16 0x5A38 ++ word16 4095 ++ [0#8] ++ word16 16396 ++ word16 (crc16 b).toNat ++ l) b = true := by
  have h1 : (List.range 6208).map (fun i => b.getD i 0xFF#8) = b := by
    refine List.ext_getElem (by rw [List.length_map, List.length_range, h]) fun i _ hi => ?_
    rw [List.getElem_map, List.getElem_range, List.getD_eq_getElem?_getD, List.getElem?_eq_getElem hi, Option.getD_some]
  have h2 := u16_at_seven 0x5A38 4095 16396 _ 0#8 (crc16 b).isLt l
  unfold headerValid
  rw [h1]
  rw [h2]
  simp [u24, u16, u8, word16, byte]

theorem tHeader_valid : headerValid tHeader tStore = true := header_valid tStore _ (by rw [tStore, List.length_replicate])

theorem test_witness_PhraseImageRead :
    (tStart .readHeader (some tCfg)).Awake ∧ (tStart .readHeader (some tCfg)).inStep .readHeader = true
      ∧ headerValid tHeader tStore = true ∧ headerValid [] [] = false
      ∧ (tStart .readTemplates (some tCfg)).Awake ∧ (tStart .readTemplates (some tCfg)).inStep .readTemplates = true := by
  refine ⟨rfl, ?_, tHeader_valid, ?_, rfl, ?_⟩ <;> decide +kernel

/-- Node 5 waiting for the line, which is quiet. -/
def tWait : State := { tStart .waitLine (some tCfg) with link := tRun.link, port := { handedOver := true, transaction := none } }

/-- Node 5 in JOINING. -/
def tJoin : State :=
  { tRun with startup := { tRun.startup with phase := .joining }, claims := { tRun.claims with joinTimer := some 11000 } }

theorem test_witness_JoiningEntered :
    tWait.Awake ∧ tWait.inStep .waitLine = true ∧ tWait.link.monitor ≠ .unknown ∧ tWait.queue.entries = []
      ∧ State.reset.link.monitor = .unknown
      ∧ tJoin.Awake ∧ tJoin.startup.phase = .joining ∧ tJoin.claims.joinTimer = some 11000 ∧ tJoin.queue.entries = []
      ∧ tJoin.link.queue.length < 7 := by
  refine ⟨rfl, ?_, ?_, ?_, ?_, rfl, ?_, ?_, ?_, ?_⟩ <;> decide +kernel

/-! ### Witnesses: the Concourse Link -/

/-- Node 5 with three framing errors on an active line. -/
def tNoisy : State := { tRun with link := { tRun.link with monitor := .active, framingErrors := 3 } }

/-- Node 5 in a disturbance. -/
def tDisturbed : State := { tRun with link := { tRun.link with monitor := .disturbed, disturbTimer := some 2500 } }

theorem test_witness_CharacterReceived :
    tRun.Awake ∧ tRun.driverEnable = false ∧ tRun.link.rxFrame = [] ∧ tRun.link.discarding = false ∧ tRun.link.framingErrors < 3
      ∧ State.reset.Awake ∧ State.reset.link.monitor = .unknown ∧ tNoisy.Awake ∧ tNoisy.link.monitor = .active ∧ tNoisy.sendingFrame = none
      ∧ tNoisy.link.rxFrame = [] ∧ tDisturbed.Awake ∧ tDisturbed.link.monitor = .disturbed ∧ tDisturbed.link.rxFrame = []
      ∧ ({ tRun with link := { tRun.link with discarding := true } } : State).link.discarding = true := by
  refine ⟨rfl, ?_, ?_, ?_, ?_, rfl, ?_, rfl, ?_, ?_, ?_, rfl, ?_, ?_, rfl⟩ <;> decide +kernel

theorem test_witness_DisturbedEntered :
    tNoisy.Awake ∧ tNoisy.link.monitor ≠ .disturbed ∧ tNoisy.link.framingErrors = 3 ∧ tNoisy.driverEnable = false
      ∧ tNoisy.link.discarding = false ∧ tNoisy.link.rxFrame = [] ∧ tFull.Awake ∧ tFull.link.monitor ≠ .disturbed ∧ tFull.TxQueueLegal
      ∧ ({ tRun with link := { tRun.link with nonIdleRun := 20 } } : State).link.monitor ≠ .disturbed
      ∧ tDisturbed.Awake ∧ tDisturbed.link.monitor = .disturbed ∧ tDisturbed.link.disturbTimer = some 2500
      ∧ tNoisy.link.budget = some 50 ∧ tFull.link.budget = some 50
      ∧ ∀ s ∈ [tNoisy, tFull], ({ s with link := { s.link with budget := some 1 } } : State).link.budget = some 1 := by
  refine ⟨rfl, ?_, ?_, ?_, ?_, ?_, rfl, ?_, tFull_legal, ?_, rfl, ?_, ?_, ?_, ?_, fun _ _ => rfl⟩ <;> decide +kernel

/-- Node 5 on a quiet line with a frame waiting. -/
def tReady : State := { tRun with link := { tRun.link with queue := [plainFrame 0 .nodeStatus [] 3] } }

theorem test_witness_HeadFrameSent :
    tReady.Awake ∧ tReady.link.monitor = .quiet ∧ tReady.onLink = true ∧ tReady.driverEnable = false
      ∧ tReady.link.queue = plainFrame 0 .nodeStatus [] 3 :: [] ∧ (plainFrame 0 .nodeStatus [] 3).access ≤ 3
      ∧ (plainFrame 0 .nodeStatus [] 3).retry = 0 := by
  refine ⟨rfl, ?_, ?_, ?_, ?_, ?_, ?_⟩ <;> decide +kernel

/-- Node 5 sending a frame with a retry count. -/
def tSending (f : TxFrame) : State :=
  { tRun with link := { tRun.link with monitor := .active, queue := [{ f with sending := true }] } }

theorem tSending_legal (f : TxFrame) : (tSending f).TxQueueLegal :=
  ⟨by simp [tSending], by simp [State.onLink, tSending, tRun], by simp [tSending]⟩

/-- The bytes of the frame that `tSending (plainFrame 0 .callAdopt [] 2)` sends. -/
def tSent : List Byte := frameBytes 0#8 5#8 (byte FrameKind.callAdopt.code) []

theorem test_witness_CollisionRetriesOrDrops :
    (∀ r ∈ [7, 8], (tSending { plainFrame 0 .callAdopt [] 2 with retry := r }).Awake
      ∧ (tSending { plainFrame 0 .callAdopt [] 2 with retry := r }).TxQueueLegal
      ∧ (tSending { plainFrame 0 .callAdopt [] 2 with retry := r }).sendingFrame
        = some { plainFrame 0 .callAdopt [] 2 with retry := r, sending := true }
      ∧ (tSending { plainFrame 0 .callAdopt [] 2 with retry := r }).link.queue.length < 8
      ∧ (tSending { plainFrame 0 .callAdopt [] 2 with retry := r }).faults.firstMarked = none)
      ∧ (plainFrame 0 .callAdopt [] 2).released = false ∧ tSent[0]? ≠ some 0x7E#8
      ∧ 2 ≤ ({ (tSending (plainFrame 0 .callAdopt [] 2)).link with echoAge := 2 } : Link).echoAge :=
  ⟨fun _ _ => ⟨rfl, tSending_legal _, rfl, by simp [tSending], show tRun.faults.firstMarked = none by decide +kernel⟩, rfl, by decide +kernel,
    by decide⟩

/-- R9: an echo as sent moves the transmission on; another, or none in a character time, is a collision. -/
theorem test_echo :
    (after (.characterReceived tSent.head! false) (tSending (plainFrame 0 .callAdopt [] 2))).link.echoed = 1
      ∧ (after (.characterReceived (tSent.head! + 1#8) false) (tSending (plainFrame 0 .callAdopt [] 2))).link.discarding = true
      ∧ ({ tSending (plainFrame 0 .callAdopt [] 2) with
            link := { (tSending (plainFrame 0 .callAdopt [] 2)).link with echoAge := 2 } } : State).due = some .echoMismatch := by
  decide +kernel

/-- The first CLAIM of the instance on channel 1, with a successor. -/
def tClaimFrame : TxFrame := { plainFrame 0 .claim [7#8, 3#8, 0#8, 1#8, 40#8] 2 with tag := some 7, firstMark := true, successor := some [7#8] }

/-- Channel 1's instance in CLAIMING while its CLAIM is on the line. -/
def tClaiming : State := { tPlay (tInst .claiming) with link := (tSending tClaimFrame).link }

theorem test_witness_TransmissionCompletes :
    (tSending (plainFrame 0 .callAdopt [] 2)).Awake ∧ (tSending (plainFrame 0 .callAdopt [] 2)).TxQueueLegal
      ∧ (tSending (plainFrame 0 .callAdopt [] 2)).sendingFrame = some { plainFrame 0 .callAdopt [] 2 with sending := true }
      ∧ (tSending (plainFrame 0 .callAdopt [] 2)).faults.firstMarked = none
      ∧ (∀ k ∈ [0, 5], (tSent[k]?).isSome = true) ∧ (5 + 1 = ([] : List Byte).length + 6)
      ∧ tClaiming.Awake ∧ tClaiming.TxQueueLegal ∧ tClaiming.sendingFrame = some { tClaimFrame with sending := true }
      ∧ tClaiming.claimWithTag (some 7) = some 1 ∧ (tClaiming.claimOf 1).isSome = true ∧ tClaiming.chan 1 = some (tInst .claiming)
      ∧ (tInst .claiming).state = .claiming :=
  ⟨rfl, tSending_legal _, rfl, by decide +kernel, by decide +kernel, rfl, rfl,
    ⟨by decide +kernel, by decide +kernel, by decide +kernel⟩, rfl, by decide +kernel, by decide +kernel, by decide +kernel, rfl⟩

/-- R110: the CLAIM sent takes channel 1 to LEAD_IN; the gain is that of "Three gates and a SERVICE announcement". -/
theorem test_claim_sent :
    ((after .transmissionComplete { tClaiming with levels := tClaiming.levels.set 0 { Level.reset with ambient := 285 } }).chan 1).map
      (fun i => (i.state, i.gains)) = some (.leadIn, [(0, 135)]) := by
  decide +kernel

/-- A queue of 8 frames that wait, the last of class 3. -/
def tPacked : State :=
  { tRun with
    link := { tRun.link with queue := List.replicate 7 (plainFrame 0 .callAdopt [] 2) ++ [plainFrame 0 .nodeStatus [] 3] } }

/-- A RELEASE of tag 7. -/
def tReleaseFrame : TxFrame := { plainFrame 0 .release [7#8, 0#8] 2 with tag := some 7 }

/-- Node 5 with frames in its transmit queue. -/
def tHolding (l : List TxFrame) : State := { tRun with link := { tRun.link with queue := l } }

theorem test_witness_FramesOffered :
    State.reset.onLink = false ∧ tReady.onLink = true ∧ tReady.link.queue.length < 8 ∧ 8 ≤ tFull.link.queue.length
      ∧ (∀ g ∈ tFull.link.queue, g.access = 3 → g.sending = true) ∧ 8 ≤ tPacked.link.queue.length
      ∧ tPacked.link.queue = List.replicate 7 (plainFrame 0 .callAdopt [] 2) ++ plainFrame 0 .nodeStatus [] 3 :: []
      ∧ (∀ g ∈ List.replicate 7 (plainFrame 0 .callAdopt [] 2), g.access = 3 → g.sending = true)
      ∧ (∀ g ∈ [tClaimFrame, { tClaimFrame with firstMark := false }, { tClaimFrame with sending := true }],
        (tHolding [g]).onLink = true ∧ (tHolding [g]).link.queue = [] ++ g :: [] ∧ g.kind = .claim ∧ g.tag = tReleaseFrame.tag
          ∧ (tHolding [g]).link.queue.length < 8)
      ∧ (tHolding [plainFrame 0 .evacStart [] 0]).link.queue = [] ++ plainFrame 0 .evacStart [] 0 :: []
      ∧ (∀ m ∈ [true, false],
        (tHolding [{ tClaimFrame with sending := true, released := true, firstMark := m }, tReleaseFrame]).sendingFrame
            = some { tClaimFrame with sending := true, released := true, firstMark := m }
          ∧ ((tHolding [{ tClaimFrame with sending := true, released := true, firstMark := m }, tReleaseFrame]).link.queue.filter
              TxFrame.sending).length = 1
          ∧ (tHolding [{ tClaimFrame with sending := true, released := true, firstMark := m }, tReleaseFrame]).link.queue.Pairwise
              (fun a b => a ≠ b))
      ∧ (tHolding []).Awake ∧ (tHolding []).faults.firstMarked = none := by
  refine ⟨?_, ?_, ?_, ?_, ?_, ?_, ?_, ?_, ?_, ?_, ?_, rfl, ?_⟩ <;> decide +kernel

/-- A receiver that has gathered an EVAC_STOP for node 5, one character time before the frame's end. -/
def tGathered (faulty : Bool) : State :=
  { tRun with
    link := { tRun.link with
      monitor := .active, idleRun := 2, rxFaulty := faulty, rxFrame := frameBytes 5#8 1#8 (byte FrameKind.evacStart.code) [] } }

theorem test_witness_SentFrameReadsBack :
    ([] : List Byte).length ≤ 60 ∧ (List.replicate 60 0#8).length ≤ 60 ∧ ∀ f ∈ [true, false], (tGathered f).pending = [] ∧ (tGathered f).Awake
      ∧ (tGathered f).due = none ∧ (tGathered f).hears = true ∧ (tGathered f).onLink = true ∧ (tGathered f).link.idleRun = 2
      ∧ (tGathered f).link.nonIdleRun = 0
      ∧ (tGathered f).link.rxFrame = frameBytes 5#8 1#8 (byte FrameKind.evacStart.code) [] := by
  refine ⟨by decide, by decide, fun f h => ⟨rfl, rfl, ?_, ?_, ?_, rfl, rfl, rfl⟩⟩ <;> revert f <;> decide +kernel

/-- R3, R4: at the idle run of 3 the frame acts, and one with a framing error counts as bad. -/
theorem test_frame_end :
    (match step (tGathered false) with | .next t => t.evac.active | _ => false) = true
      ∧ (match step (tGathered true) with | .next t => !t.evac.active && decide (t.counters[(1 : Fin 16)] = 1) | _ => false) = true := by
  decide +kernel

theorem test_witness_BadFrameCounted :
    (tRun.Awake ∧ tRun.hears = true ∧ tRun.onLink = true ∧ tRun.link.budget = some 50 ∧ check1 [1#8, 2#8] = false
      ∧ ({ tRun with link := { tRun.link with budget := some 1 } } : State).hears = true)
      ∧ (({ tStart .waitLine none with link := tRun.link } : State).hears = true
        ∧ ({ tStart .waitLine none with link := tRun.link } : State).onLink = false
        ∧ (6#8 : Byte).toNat ≠ 0 ∧ (6#8 : Byte).toNat ≠ tRun.cfg.nodeId)
      ∧ ((5#8 : Byte).toNat = tRun.cfg.nodeId ∧ (0#8 : Byte).toNat ≠ tRun.cfg.nodeId ∧ tRun.cfg.admits .time (0#8 : Byte).toNat = false)
      ∧ ((1#8 : Byte).toNat ≠ tRun.cfg.nodeId ∧ tRun.cfg.admits .time (1#8 : Byte).toNat = true ∧ FrameKind.time.Ignores [])
      ∧ tRun.Reaches .faultReport 5#8 1#8 ∧ tRun.Reaches .nodeStatus 5#8 1#8 ∧ tRun.Reaches .announceResult 5#8 1#8
      ∧ (kindOfCode (0x77#8 : Byte).toNat).isNone = true := by
  refine ⟨⟨rfl, ?_, ?_, ?_, ?_, ?_⟩, ⟨?_, ?_, ?_, ?_⟩, ⟨?_, ?_, ?_⟩, ⟨?_, ?_, Or.inl (by decide)⟩, reaches_tRun _, reaches_tRun _,
    reaches_tRun _, ?_⟩ <;> decide +kernel

/-- R17: an own source raises NODE_ID_CLASH, and a payload that the layout ignores counts RX_BAD. -/
theorem test_frames_discarded :
    ((after (.time 5#8 5#8 [0#8, 10#8, 0#8, 0#8, 1#8]) tRun).faults.find .nodeIdClash (some 5) false).isSome = true
      ∧ (after (.time 5#8 1#8 [0#8]) tRun).counters[(1 : Fin 16)] = 1 ∧ (after (.time 5#8 1#8 [0#8]) tRun).link.budget = some 50 := by
  decide +kernel

/-! ### Witnesses: time and calls -/

/-- Node 5 with a time known, at the last second of its service day. -/
def tTimed : State :=
  { tRun with clock := { tRun.clock with timeState := .set, clockSecond := 10799, serviceDay := 9, secondStart := 500, doubtTimer := some 1500 } }

theorem test_witness_TimeFrameSetsClock :
    tTimed.Reaches .time 5#8 1#8 ∧ (readTime [0#8, 10#8, 0#8, 0#8, 1#8]).isSome = true ∧ tTimed.clock.timeState ≠ .unset
      ∧ (10 : Nat) ≠ tTimed.clock.serviceDay ∧ tTimed.CallsFit ∧ tTimed.calls = [] ∧ tTimed.queue.entries = []
      ∧ (readTime [0#8, 9#8, 1#8, 0x51#8, 0x7F#8]).isSome = true ∧ tRun.Awake ∧ tRun.clock.timeState = .unset ∧ tTimed.Awake
      ∧ tTimed.clock.timeState = .set ∧ tTimed.clock.doubtTimer = some 1500
      ∧ serviceSecond tTimed.cfg.h0 ((tTimed.clock.clockSecond + 1) % 86400) = 0 :=
  ⟨reaches_congr (reaches_tRun _) rfl rfl, by decide, by decide, by decide, by constructor <;> decide +kernel, rfl, rfl, by decide, rfl, rfl,
    rfl, rfl, rfl, by decide +kernel⟩

/-- R24: the second after 02:59:59 with H0 = 3 begins the next service day. -/
theorem test_day_advances : (after .secondAdvance tTimed).clock.serviceDay = 10 ∧ (after .secondAdvance tTimed).clock.clockSecond = 10800 := by
  decide +kernel

/-- Bytes of a CALL_POST for call 2301, platform `p`, DEPARTURE at minute 692. -/
def tPost (p : Nat) : List Byte :=
  word16 2301 ++ [byte p, 1#8] ++ word16 692 ++ word16 0xFFFF ++ word16 200 ++ word16 4095 ++ [8#8, 2#8] ++ word16 201 ++ word16 202

/-- A table full of live calls. -/
def tCrowd (st : CallState) (linger : Option Nat) : State :=
  { tRun with calls := (List.range 48).map fun k => { tCall st with id := k, points := [], linger := linger } }

theorem test_witness_CallPosted :
    tRun.Reaches .callPost 5#8 1#8 ∧ (readPost (tPost 1)).isSome = true ∧ (readPost (tPost 40)).isSome = true
      ∧ tRun.cfg.ownPlatform 1 = true ∧ tRun.cfg.ownPlatform 40 = false ∧ tRun.call 2301 = none ∧ tRun.calls.length < 48
      ∧ (tCrowd .planned none).Reaches .callPost 5#8 1#8 ∧ (tCrowd .planned none).call 2301 = none
      ∧ 48 ≤ (tCrowd .planned none).calls.length ∧ ((tCrowd .planned none).calls.all fun r => r.state.isLive) = true
      ∧ (tCalls (tCall .cancelled)).Reaches .callPost 5#8 1#8 ∧ (tCalls (tCall .cancelled)).call 2301 = some (tCall .cancelled)
      ∧ (tCalls tMoving).Reaches .callPost 5#8 1#8 ∧ (tCalls tMoving).call 2301 = some tMoving := by
  refine ⟨reaches_tRun _, ?_, ?_, ?_, ?_, ?_, ?_, reaches_congr (reaches_tRun _) rfl rfl, ?_, ?_, ?_,
    reaches_congr (reaches_tRun _) rfl rfl, ?_, reaches_congr (reaches_tRun _) rfl rfl, ?_⟩ <;> decide +kernel

/-- R37: the post makes a PLANNED record with its points. -/
theorem test_post_makes_record :
    ((after (.callPost 5#8 1#8 (tPost 1)) tRun).call 2301).map (fun r => (r.state, r.scheduled, r.points)) = some (.planned, 692, [201, 202]) := by
  decide +kernel

/-- R40: a full table with ended records makes room. -/
theorem test_post_evicts :
    ((after (.callPost 5#8 1#8 (tPost 1)) (tCrowd .departed (some 9000))).call 0).isNone = true
      ∧ ((after (.callPost 5#8 1#8 (tPost 1)) (tCrowd .departed (some 9000))).call 2301).isSome = true := by
  decide +kernel

/-- A full table of ended records: the earliest linger deadline is that of call 0, the lowest of equals. -/
theorem test_witness_CallPosted_eviction :
    let s := tCrowd .departed (some 9000)
    s.Reaches .callPost 5#8 1#8 ∧ s.call 2301 = none ∧ s.calls.length = 48 ∧ s.CallsFit
      ∧ ({ tCall .departed with id := 0, points := [], linger := some 9000 } : CallRecord) ∈ s.calls ∧ (tCall .departed).state.isLive = false
      ∧ (∀ r ∈ s.calls, ∃ e, r.linger = some e ∧ (9000 < e ∨ (9000 = e ∧ 0 ≤ r.id))) ∧ s.link.queue.length < 8
      ∧ (tCrowd .planned none).link.queue.length < 8 := by
  refine ⟨reaches_congr (reaches_tRun _) rfl rfl, ?_, ?_, ?_, ?_, rfl, fun r h => ⟨9000, ?_, Or.inr ⟨rfl, Nat.zero_le _⟩⟩, ?_, ?_⟩
  iterate 2 decide +kernel
  · constructor <;> decide +kernel
  · decide +kernel
  · simp only [tCrowd, List.mem_map] at h
    obtain ⟨k, -, rfl⟩ := h
    rfl
  all_goals decide +kernel

/-- A record in MOVING that a post changes, with room for the frame of R51, and the frame that joins the queue. -/
theorem test_witness_CallPosted_moving :
    (tCalls tMoving).Reaches .callPost 5#8 1#8 ∧ (tCalls tMoving).call 2301 = some tMoving ∧ tMoving.state = .moving
      ∧ tMoving.moving = some { prior := .planned, target := 9, deadline := 11000 } ∧ (tCalls tMoving).link.queue.length ≤ 5
      ∧ (readPost (tPost 1)).map (fun p => (p.id, p.scheduled, p.points)) = some (2301, 692, tMoving.points)
      ∧ (tMoving.scheduled, tMoving.posted) = (692, 2)
      ∧ (readPost (word16 2301 ++ [1#8, 1#8] ++ word16 700 ++ word16 0xFFFF ++ word16 200 ++ word16 4095 ++ [8#8, 0#8])).map
        (fun p => p.scheduled) = some 700 := by
  refine ⟨reaches_congr (reaches_tRun _) rfl rfl, ?_⟩
  decide +kernel

/-- R40, R51: a full table of live calls refuses, and a changed record in MOVING is sent again to its target. -/
theorem test_call_frames :
    ((after (.callPost 5#8 1#8 (tPost 1)) (tCrowd .planned none)).link.queue.map fun f => (f.kind, f.payload))
        = [(.callRefuse, [0x08#8, 0xFD#8, 1#8, 1#8])]
      ∧ ((after (.callPost 5#8 1#8 (word16 2301 ++ [1#8, 1#8] ++ word16 700 ++ word16 0xFFFF ++ word16 200 ++ word16 4095 ++ [8#8, 0#8]))
          (tCalls tMoving)).link.queue.map fun f => (f.kind, f.payload.take 4)) = [(.callHandover, [0x08#8, 0xFD#8, 1#8, 9#8])]
      ∧ (after (.callPost 5#8 1#8 (tPost 1)) (tCalls tMoving)).link.queue = [] := by
  decide +kernel

theorem test_witness_CallAmended :
    (tCalls (tCall .closing)).Reaches .callAmend 5#8 1#8 ∧ (readAmend (word16 2301 ++ word16 700)).isSome = true
      ∧ (tCalls (tCall .closing)).call 2301 = some (tCall .closing) ∧ (tCall .closing).state.isLive = true
      ∧ (tCall .closing).expected ≠ some 700 ∧ (tCalls (tCall .closing)).Reaches .callCancel 5#8 1#8
      ∧ readCancel (word16 2301) = some 2301 ∧ (tCalls tMoving).call 2301 = some tMoving ∧ tMoving.state.isLive = true
      ∧ (tCall .departed).state.isLive = false ∧ tRun.call 2301 = none := by
  refine ⟨reaches_congr (reaches_tRun _) rfl rfl, ?_, ?_, ?_, ?_, reaches_congr (reaches_tRun _) rfl rfl, ?_, ?_, ?_, ?_, ?_⟩ <;> decide +kernel

/-- A record in MOVING, amended or cancelled, with room for the frame of R51. -/
theorem test_witness_CallAmended_moving :
    (tCalls tMoving).Reaches .callAmend 5#8 1#8 ∧ (tCalls tMoving).Reaches .callCancel 5#8 1#8
      ∧ (readAmend (word16 2301 ++ word16 700)).map (fun a => (a.id, a.expected)) = some (2301, some 700)
      ∧ (tCalls tMoving).call 2301 = some tMoving ∧ tMoving.state = .moving ∧ tMoving.expected ≠ some 700
      ∧ tMoving.moving = some { prior := .planned, target := 9, deadline := 11000 } ∧ (tCalls tMoving).link.queue.length ≤ 5
      ∧ (tCall .closing).moving = none := by
  refine ⟨reaches_congr (reaches_tRun _) rfl rfl, reaches_congr (reaches_tRun _) rfl rfl, ?_⟩
  decide +kernel

theorem test_witness_TrainEventTaken :
    (tCalls (tCall .approaching)).Reaches .trainEvent 5#8 1#8
      ∧ readEvent (word16 2301 ++ [4#8]) = some { id := 2301, event := .departed }
      ∧ readEvent (word16 2301 ++ [1#8]) = some { id := 2301, event := .approaching }
      ∧ (tCalls (tCall .approaching)).call 2301 = some (tCall .approaching) ∧ (tCall .approaching).state.running = true
      ∧ eventTarget .departure .departed = some .departed ∧ CallState.approaching.earlier .departed = true
      ∧ eventTarget .departure .approaching = some .approaching ∧ CallState.approaching.earlier .approaching = false
      ∧ tMoving.state.running = false := by
  refine ⟨reaches_congr (reaches_tRun _) rfl rfl, ?_, ?_, ?_, ?_, ?_, ?_, ?_, ?_, ?_⟩ <;> decide +kernel

theorem test_witness_CallMoves :
    (tCalls (tCall .planned)).Reaches .callMove 5#8 1#8 ∧ (tCalls (tCall .planned)).call 2301 = some (tCall .planned)
      ∧ (tCall .planned).state.running = true ∧ (tCalls tMoving).Reaches .callMove 5#8 1#8 ∧ (tCalls tMoving).call 2301 = some tMoving
      ∧ tMoving.moving = some { prior := .planned, target := 9, deadline := 11000 }
      ∧ (∀ p ∈ [1, 2, 40], readCallPlatform (word16 2301 ++ [byte p]) = some { id := 2301, platform := p })
      ∧ tRun.cfg.ownPlatform 2 = true ∧ tRun.cfg.ownPlatform 40 = false ∧ (tCall .moved).state.isLive = false
      ∧ (tCalls (tCall .planned)).link.queue.length < 8 ∧ (tCalls tMoving).link.queue.length < 8 := by
  refine ⟨reaches_congr (reaches_tRun _) rfl rfl, ?_, ?_, reaches_congr (reaches_tRun _) rfl rfl, ?_, ?_, ?_, ?_, ?_, ?_, ?_, ?_⟩ <;>
    decide +kernel

/-- R47, R48: the first move and the next are told to their targets, which the fourth byte names. -/
theorem test_moves_told :
    ([tCall .planned, tMoving].map fun r =>
      (after (.callMove 5#8 1#8 (word16 2301 ++ [40#8])) (tCalls r)).link.queue.map fun f => (f.kind, f.payload.take 4))
      = [[(.callHandover, [0x08#8, 0xFD#8, 1#8, 40#8])], [(.callHandover, [0x08#8, 0xFD#8, 1#8, 40#8])]] := by
  decide +kernel

theorem test_witness_MoveAnswered :
    (tCalls tMoving).Reaches .callAdopt 5#8 1#8 ∧ (tCalls tMoving).Reaches .callRefuse 5#8 1#8
      ∧ readCallPlatform (word16 2301 ++ [9#8]) = some { id := 2301, platform := 9 }
      ∧ readRefuse (word16 2301 ++ [9#8, 1#8]) = some { id := 2301, platform := 9 }
      ∧ (tCalls tMoving).call 2301 = some tMoving ∧ tMoving.state = .moving ∧ (tCalls tMoving).Awake ∧ (2301#16 : BitVec 16).toNat = 2301
      ∧ (tCrowd .departed (some 9000)).Awake
      ∧ ((tCrowd .departed (some 9000)).call (47#16 : BitVec 16).toNat).bind CallRecord.linger = some 9000 := by
  refine ⟨reaches_congr (reaches_tRun _) rfl rfl, reaches_congr (reaches_tRun _) rfl rfl, ?_, ?_, ?_, ?_, rfl, ?_, rfl, ?_⟩ <;> decide +kernel

/-- A hand-over of call 2301 to a platform, in a state. -/
def tHand (target : Nat) (st : CallState) : Handover :=
  { id := 2301, oldPlatform := 9, target := target, kind := .departure, state := st, carriages := some 8, posted := 3, scheduled := 692,
    expected := some 700, destination := 200, origin := none, events := #v[some 690, none, none, none], lastDelay := none,
    slots := clearSlots.set 0 { state := .fired, next := none, firedBase := some 692 }, points := [201, 202] }

theorem tHand_fits : (tHand 1 .approaching).Fits := by constructor <;> decide +kernel

theorem test_witness_HandoverTaken :
    tRun.Reaches .callHandover 5#8 1#8
      ∧ (∀ x ∈ [(1, CallState.approaching), (1, .cancelled), (40, .planned)],
        readHandover (handoverPayload (tHand x.1 x.2)) = some (tHand x.1 x.2))
      ∧ tRun.cfg.ownPlatform 1 = true ∧ tRun.cfg.ownPlatform 40 = false ∧ tRun.call 2301 = none ∧ tRun.calls.length < 48
      ∧ (tCalls (tCall .closing)).Reaches .callHandover 5#8 1#8 ∧ (tCalls (tCall .closing)).call 2301 = some (tCall .closing)
      ∧ (tCall .closing).state.running = true := by
  refine ⟨reaches_tRun _, ?_, ?_, ?_, ?_, ?_, reaches_congr (reaches_tRun _) rfl rfl, ?_, ?_⟩ <;> decide +kernel

/-- A hand-over into a full table of live calls, and into one of ended calls, with a FIRED slot carried for c1 and an IDLE one for c2. -/
theorem test_witness_HandoverTaken_full :
    (tCrowd .planned none).Reaches .callHandover 5#8 1#8 ∧ (tCrowd .planned none).call 2301 = none ∧ (tCrowd .planned none).calls.length = 48
      ∧ ((tCrowd .planned none).calls.all fun r => r.state.isLive) = true
      ∧ (tCrowd .departed (some 9000)).Reaches .callHandover 5#8 1#8 ∧ (tCrowd .departed (some 9000)).call 2301 = none
      ∧ ((tCrowd .departed (some 9000)).calls.all fun r => decide (r.linger = some 9000)) = true
      ∧ (tCrowd .departed (some 9000)).link.queue.length < 8 ∧ (tHand 1 .approaching).slots[CueName.c1.idx].state = .fired
      ∧ (tHand 1 .approaching).slots[CueName.c2.idx].state = .idle := by
  refine ⟨reaches_congr (reaches_tRun _) rfl rfl, ?_, ?_, ?_, reaches_congr (reaches_tRun _) rfl rfl, ?_, ?_, ?_, ?_, ?_⟩ <;> decide +kernel

/-- R52, R53: an adoption is answered, and a refusal by a full table. -/
theorem test_handover_answers :
    ([tRun, tCrowd .planned none, tCrowd .departed (some 9000)].map fun s =>
      (after (.callHandover 5#8 1#8 (handoverPayload (tHand 1 .approaching))) s).link.queue.map fun f => (f.kind, f.payload))
      = [[(.callAdopt, [0x08#8, 0xFD#8, 1#8])], [(.callRefuse, [0x08#8, 0xFD#8, 1#8, 1#8])], [(.callAdopt, [0x08#8, 0xFD#8, 1#8])]] := by
  decide +kernel

theorem test_witness_HandoverUpdates :
    ∀ r ∈ [tCall .planned, tMoving, tCall .departed, tCall .cancelled], (tCalls r).Reaches .callHandover 5#8 1#8
      ∧ readHandover (handoverPayload (tHand 1 .approaching)) = some (tHand 1 .approaching) ∧ (tCalls r).cfg.ownPlatform 1 = true
      ∧ (tCalls r).call 2301 = some r := by
  intro r h
  simp only [List.mem_cons, List.not_mem_nil, or_false] at h
  rcases h with rfl | rfl | rfl | rfl <;>
    refine ⟨reaches_congr (reaches_tRun _) rfl rfl, ?_, ?_, ?_⟩ <;> decide +kernel

theorem test_witness_HandoverReadsBack : (tHand 1 .approaching).Fits ∧ ∀ n ∈ [0, 4095], n < 4096 := ⟨tHand_fits, by decide⟩

/-- R53: the later state is taken and the carried firing is kept. -/
theorem test_handover_moves_forward :
    ((after (.callHandover 5#8 1#8 (handoverPayload (tHand 1 .approaching))) (tCalls (tCall .planned))).call 2301).map
      (fun r => (r.state, r.expected, (r.slot .c1).state)) = some (.approaching, some 700, .fired) := by
  decide +kernel

/-! ### Witnesses: the Cue Engine -/

/-- A cue of the plans: class 3, template 1, on the platform's zones, open from PLANNED to AT_PLATFORM. -/
def tCue (t : Trigger) (p : Option Nat) : Cue :=
  { used := true, trigger := t, template := 1, cls := 3, platformZones := true, concourse := [1],
    window := [.planned, .approaching, .atPlatform], repeatEvery := p, validity := 5 }

/-- Node 5 with one call and every departure cue as given, just before a clock second. -/
def tCued (q : Cue) (r : CallRecord) (second : Nat) : State :=
  { tRun with
    startup := { tRun.startup with
      config := some { tCfg with departurePlan := Vector.replicate 7 q, lateLimit := 2, delayThreshold := 5, rearmThreshold := 3 } },
    clock := { tRun.clock with timeState := .set, clockSecond := second - 1, secondStart := 500 }, calls := [r] }

/-- A record with the slot of its first cue as given. -/
def tSlot (st : CallState) (x : CueSlot) : CallRecord := { tCall st with slots := clearSlots.set 0 x }

/-- An ARMED slot, and one FIRED on the base 692. -/
def tArmed : CueSlot := { state := .armed, next := none, firedBase := none }

/-- A FIRED slot with its next instant. -/
def tFired (next : Option Nat) : CueSlot := { state := .fired, next := next, firedBase := some 692 }

/-- One cue in each case of the second event, with the clock second at which it is examined: minute 682 begins at 51720. -/
def tCues : List (Cue × CallRecord × Nat) :=
  [(tCue (.beforeTime 10) none, tSlot .planned tArmed, 51719), (tCue (.beforeTime 10) none, tSlot .planned tArmed, 51720),
   (tCue (.beforeTime 10) none, tSlot .planned tArmed, 51899), (tCue (.beforeTime 10) none, tSlot .planned tArmed, 51900),
   (tCue (.onEvent .arrived) none, tSlot .planned tArmed, 51720), (tCue (.afterEvent .arrived 3) none, tSlot .planned tArmed, 51720),
   (tCue (.afterEvent .arrived 3) none, { tSlot .planned tArmed with events := (tCall .planned).events.set 1 (.minute 679) }, 51720),
   (tCue (.beforeTime 10) none, tSlot .planned (tFired none), 51720), (tCue (.beforeTime 10) (some 5), tSlot .closing (tFired none), 51720),
   (tCue (.beforeTime 10) (some 5), tSlot .planned (tFired none), 51720),
   (tCue (.beforeTime 10) (some 5), tSlot .planned (tFired (some 683)), 51720),
   (tCue (.beforeTime 10) (some 5), tSlot .planned (tFired (some 680)), 51720),
   (tCue (.beforeTime 10) (some 5), tSlot .planned (tFired (some 679)), 51720)]

theorem test_witness_CuesExamined :
    ∀ x ∈ tCues, (tCued x.1 x.2.1 x.2.2).Awake ∧ (tCued x.1 x.2.1 x.2.2).clock.timeState ≠ .unset ∧ (tCued x.1 x.2.1 x.2.2).calls = [x.2.1]
      ∧ x.1 = (tCued x.1 x.2.1 x.2.2).cue x.2.1 .c1 ∧ x.1.used = true
      ∧ (∀ k : CueName, k ≠ .c1 → (x.2.1.slot k).state = .idle ∨ (x.2.1.slot k).state = .missed)
      ∧ serviceSecond (tCued x.1 x.2.1 x.2.2).cfg.h0 (((tCued x.1 x.2.1 x.2.2).clock.clockSecond + 1) % 86400) ≠ 0
      ∧ (tCued x.1 x.2.1 x.2.2).queue.entries.length < 24 ∧ (tCued x.1 x.2.1 x.2.2).chanOfKey (.cue 2301 .c1) = none := by
  have h : ∀ x ∈ tCues, x.1 = (tCued x.1 x.2.1 x.2.2).cue x.2.1 .c1 ∧ x.1.used = true
      ∧ (∀ k ∈ [CueName.c2, .c3, .c4, .delay, .cancel, .alteration], (x.2.1.slot k).state = .idle)
      ∧ serviceSecond (tCued x.1 x.2.1 x.2.2).cfg.h0 (((tCued x.1 x.2.1 x.2.2).clock.clockSecond + 1) % 86400) ≠ 0
      ∧ (tCued x.1 x.2.1 x.2.2).chanOfKey (.cue 2301 .c1) = none := by decide +kernel
  intro x hx
  obtain ⟨a, b, c, d, e⟩ := h x hx
  refine ⟨rfl, by simp [tCued], rfl, a, b, fun k hk => Or.inl ?_, d, by simp [tCued, tRun, State.reset, Queue.reset], e⟩
  cases k <;> first | exact absurd rfl hk | exact c _ (by simp)

/-- R61, R62, R64: at the instant the cue fires, after K = 2 minutes it is missed, and a repeat at 680 fires again at 682. -/
theorem test_cue_fires :
    (tCues.map fun x => (after .secondAdvance (tCued x.1 x.2.1 x.2.2)).calls.map fun r => (r.slot .c1).state)
        = [[.armed], [.fired], [.fired], [.missed], [.armed], [.armed], [.fired], [.fired], [.fired], [.fired], [.fired], [.fired], [.fired]]
      ∧ (after .secondAdvance (tCued (tCue (.beforeTime 10) (some 5)) (tSlot .planned (tFired (some 680))) 51720)).calls.map
          (fun r => (r.slot .c1).next) = [some 687] := by
  decide +kernel

/-- Bytes of a TIME frame of day 0 at a clock second. -/
def tTimeBytes (second : Nat) : List Byte := word16 0 ++ [byte (second / 65536), byte (second / 256), byte second]

/-- The hypotheses of TimeFrameSetsClock on a table of one record: minutes 681, 682, 684 and 685 against an instant of 682 with K = 2. -/
theorem test_witness_TimeFrameSetsClock_cue :
    let q := tCue (.beforeTime 10) none
    let r := tSlot .planned tArmed
    (tCued q r 100).Reaches .time 5#8 1#8 ∧ (tCued q r 100).calls = [r] ∧ ((tCued q r 100).cue r .c1).used = true
      ∧ ((tCued q r 100).cue r .c1).trigger = .beforeTime 10 ∧ (r.slot .c1).state = .armed
      ∧ (∀ k : CueName, k ≠ .c1 → (r.slot k).state = .idle ∨ (r.slot k).state = .missed)
      ∧ (tCued q r 100).chanOfKey (.cue 2301 .c1) = none
      ∧ (∀ x ∈ [51660, 51720, 51840, 51900],
        (readTime (tTimeBytes x)).map (fun f => (f.day, f.second)) = some ((tCued q r 100).clock.serviceDay, x))
      ∧ ([51660, 51720, 51840, 51900].map (serviceMinute (tCued q r 100).cfg.h0), r.base - 10, (tCued q r 100).cfg.lateLimit)
        = ([681, 682, 684, 685], 682, 2) := by
  refine ⟨reaches_of (by decide +kernel), rfl, ?_, ?_, rfl, fun k hk => Or.inl ?_, ?_, ?_, ?_⟩
  iterate 2 decide +kernel
  · cases k <;> first | exact absurd rfl hk | rfl
  all_goals decide +kernel

/-- R26, R61: the time set, the cue waits, fires, fires and is missed. -/
theorem test_time_examines :
    ([51660, 51720, 51840, 51900].map fun x =>
      (after (.time 5#8 1#8 (tTimeBytes x)) (tCued (tCue (.beforeTime 10) none) (tSlot .planned tArmed) 100)).calls.map
        fun r => (r.slot .c1).state) = [[.armed], [.fired], [.fired], [.missed]] := by
  decide +kernel

theorem test_witness_CuesFollowWindows :
    (∀ x ∈ [(tCue (.beforeTime 10) none, { tArmed with state := .idle }), (tCue (.onEvent .approaching) none, tArmed),
        ({ tCue (.beforeTime 10) none with window := [.planned] }, { tArmed with state := .idle }),
        ({ tCue (.beforeTime 10) none with window := [.planned] }, tArmed), (tCue (.beforeTime 10) none, tFired none),
        ({ tCue (.beforeTime 10) none with window := [.planned] }, tFired (some 700))],
      (tCued x.1 (tSlot .planned x.2) 51720).Reaches .trainEvent 5#8 1#8
        ∧ (tCued x.1 (tSlot .planned x.2) 51720).call 2301 = some (tSlot .planned x.2)
        ∧ x.1 = (tCued x.1 (tSlot .planned x.2) 51720).cue (tSlot .planned x.2) .c1 ∧ x.1.used = true
        ∧ (tCued x.1 (tSlot .planned x.2) 51720).KeysApart ∧ (tCued x.1 (tSlot .planned x.2) 51720).Reaches .callMove 5#8 1#8)
      ∧ readEvent (word16 2301 ++ [1#8]) = some { id := 2301, event := .approaching }
      ∧ eventTarget .departure .approaching = some .approaching ∧ CallState.planned.earlier .approaching = true
      ∧ readCallPlatform (word16 2301 ++ [9#8]) = some { id := 2301, platform := 9 } ∧ tRun.cfg.ownPlatform 9 = false := by
  refine ⟨fun x hx => ?_, ?_, ?_, ?_, ?_, ?_⟩
  · refine ⟨reaches_of ?_, ?_, ?_, ?_, keysApart_of List.Pairwise.nil ?_ (fun e he => by simp [tCued, tRun, State.reset, Queue.reset] at he),
      reaches_of ?_⟩ <;> revert x <;> decide +kernel
  all_goals decide +kernel

/-- R59, R65: an event out of the window takes ARMED back to IDLE, and one of an ON_EVENT cue fires it. -/
theorem test_window_left :
    (((after (.trainEvent 5#8 1#8 (word16 2301 ++ [1#8]))
        (tCued { tCue (.beforeTime 10) none with window := [.planned] } (tSlot .planned tArmed) 51720)).call 2301).map
          fun r => (r.slot .c1).state) = some .idle
      ∧ (((after (.trainEvent 5#8 1#8 (word16 2301 ++ [1#8])) (tCued (tCue (.onEvent .approaching) none) (tSlot .planned tArmed) 51720)).call
          2301).map fun r => (r.slot .c1).state) = some .fired := by
  decide +kernel

/-- R56: an update that makes an ARMED departure an ARRIVAL, whose plan uses no cue, leaves its slot IDLE. -/
theorem test_unused_slot_idle :
    let s := tCued (tCue (.beforeTime 10) none) (tSlot .planned tArmed) 51720
    let h : Handover := { tHand 1 .planned with kind := .arrival, slots := clearSlots }
    s.Reaches .callHandover 5#8 1#8 ∧ readHandover (handoverPayload h) = some h ∧ s.cfg.ownPlatform h.target = true
      ∧ (s.call 2301).map (fun r => ((r.slot .c1).state, (s.cue r .c1).used)) = some (.armed, true)
      ∧ ((after (.callHandover 5#8 1#8 (handoverPayload h)) s).call 2301).map
          (fun r => (r.kind, (r.slot .c1).state, (s.cue r .c1).used)) = some (.arrival, .idle, false) := by
  refine ⟨reaches_of ?_, ?_⟩ <;> decide +kernel

theorem test_witness_CueOccasions :
    (∀ x ∈ [(none, 700), (some 2, 700), (some 6, 700), (some 20, 700), (some 8, 700), (some 8, 695)],
      (tCued (tCue (.beforeTime 10) none) { tSlot .planned (tFired none) with lastDelay := x.1 } 40000).Reaches .callAmend 5#8 1#8
        ∧ (tCued (tCue (.beforeTime 10) none) { tSlot .planned (tFired none) with lastDelay := x.1 } 40000).call 2301
          = some { tSlot .planned (tFired none) with lastDelay := x.1 }
        ∧ (readAmend (word16 2301 ++ word16 x.2)).map (fun a => (a.id, a.expected)) = some (2301, some x.2)
        ∧ (tCued (tCue (.beforeTime 10) none) { tSlot .planned (tFired none) with lastDelay := x.1 } 40000).minuteNow = some 486
        ∧ (tCued (tCue (.beforeTime 10) none) { tSlot .planned (tFired none) with lastDelay := x.1 } 40000).Reaches .callCancel 5#8 1#8
        ∧ (tCued (tCue (.beforeTime 10) none) { tSlot .planned (tFired none) with lastDelay := x.1 } 40000).Reaches .callMove 5#8 1#8)
      ∧ (∀ n : CueName, (tCued (tCue (.beforeTime 10) none) (tSlot .planned (tFired none)) 40000).chanOfKey (.cue 2301 n) = none)
      ∧ readCancel (word16 2301) = some 2301
      ∧ ∀ p ∈ [2, 9], readCallPlatform (word16 2301 ++ [byte p]) = some { id := 2301, platform := p } := by
  refine ⟨fun x hx => ⟨reaches_of ?_, ?_, ?_, ?_, reaches_of ?_, reaches_of ?_⟩, fun n => ?_, ?_, ?_⟩
  iterate 6 (revert x; decide +kernel)
  · cases n <;> decide +kernel
  all_goals decide +kernel

/-- R68, R71, R72: an amendment to 8 minutes late fires DELAY, a cancellation CANCEL, and a move to the other platform ALTERATION. -/
theorem test_occasions :
    (((after (.callAmend 5#8 1#8 (word16 2301 ++ word16 700)) (tCued (tCue (.beforeTime 10) none) (tCall .planned) 40000)).call 2301).map
        fun r => ((r.slot .delay).state, r.lastDelay)) = some (.fired, some 8)
      ∧ (((after (.callCancel 5#8 1#8 (word16 2301)) (tCued (tCue (.beforeTime 10) none) (tCall .planned) 40000)).call 2301).map
        fun r => (r.slot .cancel).state) = some .fired
      ∧ (((after (.callMove 5#8 1#8 (word16 2301 ++ [2#8])) (tCued (tCue (.beforeTime 10) none) (tCall .planned) 40000)).call 2301).map
        fun r => (r.slot .alteration).state) = some .fired := by
  decide +kernel

/-! ### Witnesses: the announcement queue -/

/-- Node 5 with a waiting entry. -/
def tQueued (k : Key) : State := { tRun with queue := { Queue.reset with entries := [tEntry k] } }

/-- Bytes of an ANNOUNCE of desk tag 4, class 3, template 1, valid 2 minutes, once, for zones. -/
def tAnnounce (zones : List Nat) : List Byte :=
  [4#8, 3#8, 1#8, 2#8, 0#8, 0#8, 0#8] ++ (List.replicate 4 (word16 4095)).flatten ++ [byte zones.length] ++ zones.map byte

/-- The instance of desk 1's live announcement on channel 1. -/
def tLive (st : ChanState) : ChanInst := { ChanInst.new 2 (some (.live 1)) 7 none [] with state := st }

/-- Node 5 with the queue full of entries of other desks' tags, all of one class. -/
def tBusy (cls : Nat) : State :=
  { tRun with
    queue := { Queue.reset with
      entries := (List.range 24).map fun k => { tEntry (.desk 2 k) with tag := k, seq := k, cls := cls }, tagCounter := 24, seqCounter := 24 } }

theorem test_witness_AnnounceOffered :
    (∀ cls ∈ [3, 4], (tBusy cls).Reaches .announce 5#8 1#8 ∧ (tBusy cls).entryOf (.desk 1 4) = none
      ∧ (tBusy cls).chanOfKey (.desk 1 4) = none ∧ 24 ≤ (tBusy cls).queue.entries.length
      ∧ ((tBusy cls).queue.entries.getLast?).map Entry.cls = some cls ∧ (tBusy cls).faults.firstMarked = none) ∧
    tRun.Reaches .announce 5#8 1#8 ∧ (readAnnounce (tAnnounce [40])).isSome = true ∧ (readAnnounce (tAnnounce [48])).isSome = true
      ∧ tRun.cfg.deskMask [40] ≠ [] ∧ tRun.cfg.deskMask [48] = [] ∧ tRun.entryOf (.desk 1 4) = none ∧ tRun.chanOfKey (.desk 1 4) = none
      ∧ tRun.queue.entries.length < 24
      ∧ (tPlay (tInst .speaking)).Reaches .announce 5#8 1#8 ∧ (tPlay (tInst .speaking)).chanOfKey (.desk 1 4) = some 1
      ∧ (tPlay (tInst .speaking)).entryOf (.desk 1 4) = none
      ∧ (tQueued (.desk 1 4)).Reaches .announce 5#8 1#8 ∧ (tQueued (.desk 1 4)).entryOf (.desk 1 4) = some (tEntry (.desk 1 4)) := by
  refine ⟨fun cls hc => ⟨reaches_congr (reaches_tRun _) rfl rfl, ?_, ?_, ?_, ?_, ?_⟩, reaches_tRun _, ?_, ?_, ?_, ?_, ?_, ?_, ?_,
    reaches_congr (reaches_tRun _) rfl rfl, ?_, ?_, reaches_congr (reaches_tRun _) rfl rfl, ?_⟩
  iterate 5 (revert cls; decide +kernel)
  all_goals decide +kernel

/-- R92: in a full queue class 3 is refused by class 3 and evicts class 4. -/
theorem test_full_queue :
    ([3, 4].map fun cls => ((after (.announce 5#8 1#8 (tAnnounce [40])) (tBusy cls)).entryOf (.desk 2 23)).isSome) = [true, false]
      ∧ (after (.announce 5#8 1#8 (tAnnounce [40])) (tBusy 3)).counters[(7 : Fin 16)] = 1 := by
  decide +kernel

theorem test_witness_LiveOpened :
    tRun.Reaches .liveOpen 5#8 1#8 ∧ readLiveOpen [1#8, 40#8] = some [40] ∧ readLiveOpen [1#8, 48#8] = some [48]
      ∧ tRun.cfg.deskMask [40] ≠ [] ∧ tRun.cfg.deskMask [48] = [] ∧ tRun.entryOf (.live 1) = none ∧ tRun.chanOfKey (.live 1) = none
      ∧ tRun.queue.entries.length < 24
      ∧ (tPlay (tLive .live)).Reaches .liveOpen 5#8 1#8 ∧ (tPlay (tLive .live)).chanOfKey (.live 1) = some 1
      ∧ (tPlay (tLive .live)).entryOf (.live 1) = none ∧ (tPlay (tLive .live)).Reaches .liveKeep 5#8 1#8
      ∧ (tPlay (tLive .live)).chan 1 = some (tLive .live) ∧ (tPlay (tLive .leadIn)).chanOfKey (.live 1) = some 1 := by
  refine ⟨reaches_tRun _, ?_, ?_, ?_, ?_, ?_, ?_, ?_, reaches_congr (reaches_tRun _) rfl rfl, ?_, ?_,
    reaches_congr (reaches_tRun _) rfl rfl, ?_, ?_⟩ <;> decide +kernel

/-- R94, R100: a live announcement is let out at once, on channel 0. -/
theorem test_live_dispatched :
    ((after (.liveOpen 5#8 1#8 [1#8, 40#8]) tRun).chan 0).map (fun i => (i.key, i.state)) = some (some (.live 1), .claiming) := by
  decide +kernel

theorem test_witness_AnnouncementStopped :
    tRun.Reaches .announceStop 5#8 1#8 ∧ readStop [4#8] = some 4 ∧ tRun.entryOf (.desk 1 4) = none ∧ tRun.chanOfKey (.desk 1 4) = none
      ∧ (tQueued (.desk 1 4)).Reaches .announceStop 5#8 1#8 ∧ ((tQueued (.desk 1 4)).entryOf (.desk 1 4)).isSome = true
      ∧ (tQueued (.desk 1 4)).chanOfKey (.desk 1 4) = none
      ∧ (tPlay (tInst .speaking)).Reaches .announceStop 5#8 1#8 ∧ (tPlay (tInst .speaking)).entryOf (.desk 1 4) = none
      ∧ (tPlay (tInst .speaking)).chanOfKey (.desk 1 4) = some 1 ∧ (tPlay (tInst .speaking)).chan 1 = some (tInst .speaking)
      ∧ (tInst .speaking).outcome = none := by
  refine ⟨reaches_tRun _, ?_, ?_, ?_, reaches_congr (reaches_tRun _) rfl rfl, ?_, ?_, reaches_congr (reaches_tRun _) rfl rfl, ?_, ?_, ?_,
    ?_⟩ <;> decide +kernel

/-- The other rows of R131: CLAIMING, LEAD_IN at each stage, TAIL, and an outcome fixed before. -/
theorem test_witness_AnnouncementStopped_rows :
    ∀ i ∈ [tInst .claiming, { tInst .leadIn with stage := .wake }, { tInst .leadIn with stage := .chime }, { tInst .leadIn with stage := .hold },
        tInst .tail, { tInst .speaking with outcome := some .obsolete, stopPending := true }],
      (tPlay i).Reaches .announceStop 5#8 1#8 ∧ (tPlay i).entryOf (.desk 1 4) = none ∧ (tPlay i).chanOfKey (.desk 1 4) = some 1
        ∧ (tPlay i).chan 1 = some i ∧ (i.outcome = none ∨ i.state = .speaking) := by
  intro i h
  simp only [List.mem_cons, List.not_mem_nil, or_false] at h
  rcases h with rfl | rfl | rfl | rfl | rfl | rfl <;> refine ⟨reaches_congr (reaches_tRun _) rfl rfl, ?_, ?_, ?_, ?_⟩ <;> decide +kernel

theorem test_witness_LiveClosed :
    (∀ st ∈ [ChanState.claiming, .leadIn, .live, .tail], (tPlay (tLive st)).Reaches .liveClose 5#8 1#8
      ∧ (tPlay (tLive st)).chanOfKey (.live 1) = some 1 ∧ (tPlay (tLive st)).chan 1 = some (tLive st) ∧ (tLive st).outcome = none)
      ∧ (tQueued (.live 1)).Reaches .liveClose 5#8 1#8 ∧ (tQueued (.live 1)).chanOfKey (.live 1) = none
      ∧ ((tQueued (.live 1)).entryOf (.live 1)).isSome = true := by
  refine ⟨fun st h => ?_, reaches_congr (reaches_tRun _) rfl rfl, by decide +kernel, by decide +kernel⟩
  simp only [List.mem_cons, List.not_mem_nil, or_false] at h
  rcases h with rfl | rfl | rfl | rfl <;> refine ⟨reaches_congr (reaches_tRun _) rfl rfl, ?_, ?_, ?_⟩ <;> decide +kernel

theorem test_witness_EntryInstants :
    (tQueued (.live 1)).Awake ∧ (tQueued (.live 1)).entryTagged (7#8 : Byte).toNat = some (tEntry (.live 1))
      ∧ (tEntry (.live 1)).expiry = some 9000 ∧ (tQueued (.live 1)).faults.firstMarked = none
      ∧ (tQueued (.live 1)).link.queue.length < 8 ∧ (tQueued (.live 1)).onLink = true := by
  refine ⟨rfl, ?_, ?_, ?_, ?_, ?_⟩ <;> decide +kernel

/-- A live entry, due. -/
def tOpen : Entry := { tEntry (.live 1) with cls := 2, notBefore := 0, template := none }

/-- Node 5 with that entry alone in the queue. -/
def tDue : State := { tRun with queue := { Queue.reset with entries := [tOpen] } }

/-- Node 5 on battery, with zone Z0 behind a faulty amplifier, and in JOINING. -/
def tBattery : State := tRun.setContact 2 { level := .active, candidate := 0, previous := some true }

/-- An entry of class 4, due. -/
def tLow : Entry := { tEntry (.desk 1 5) with cls := 4, notBefore := 0 }

theorem tDue_passes : tDue.Passes tOpen 0 [0] where
  due := by decide
  calm := rfl
  phase := Or.inl rfl
  power := Or.inr (by decide)
  effective := by decide +kernel
  some := by decide
  free := ⟨by decide +kernel, by decide, fun d h => absurd h (by revert d; decide)⟩
  live _ := by decide +kernel
  own z hz := Or.inl (by revert z; decide +kernel)
  near _ _ n _ := Or.inr fun d h =>
    absurd h ((by decide +kernel : ∀ (n : ZoneId) (d : ChanId), (tDue.zone n).state ≠ .held d) n d)
  far z hz g hg o h := by
    have e : ∀ z ∈ [(0 : ZoneId)], ∀ g ∈ tDue.cfg.remoteNeighbours z, tDue.occupant g = none := by decide +kernel
    rw [e z hz g hg] at h
    cases h

theorem test_witness_DispatchTests :
    tDue.Passes tOpen 0 [0] ∧ tDue.queue.entries = [tOpen] ∧ (tDue.words tOpen).2.isSome = true
      ∧ (∀ (c : ChanId) (zs : ZoneSet), ¬(tQueued (.desk 1 4)).Passes (tEntry (.desk 1 4)) c zs)
      ∧ (tQueued (.desk 1 4)).now < (tEntry (.desk 1 4)).notBefore
      ∧ (∀ (c : ChanId) (zs : ZoneSet), ¬tBattery.Passes tLow c zs) ∧ tBattery.battery = true ∧ tLow.cls = 4
      ∧ (∀ (c : ChanId) (zs : ZoneSet),
        ¬({ tRun with zones := tRun.zones.set 0 { tIdle with ampFault := true } } : State).Passes { tLow with cls := 3 } c zs)
      ∧ (∀ (c : ChanId) (zs : ZoneSet), ¬(tPlay (tInst .speaking)).Passes { tLow with cls := 3 } c zs)
      ∧ ((tPlay (tInst .speaking)).zone 0).state ≠ .off := by
  refine ⟨tDue_passes, rfl, rfl, fun c zs h => ?_, by decide, fun c zs h => ?_, by decide +kernel, rfl, fun c zs h => ?_, fun c zs h => ?_,
    by decide +kernel⟩
  · exact absurd h.due (by decide)
  · exact absurd h.power (by decide +kernel)
  · exact h.some (h.effective.trans (by decide +kernel))
  · have e := h.effective.trans (show _ = [(0 : ZoneId)] by decide +kernel)
    subst e
    exact absurd (h.own 0 (by simp)) (by
      intro p
      obtain p | p | ⟨d, hd, i, hi, hq⟩ := p
      · exact absurd p (by decide +kernel)
      · exact absurd p.1 (by decide +kernel)
      · exact absurd hq.1 (by decide))

/-! ### Witnesses: zone claims -/

/-- Bytes of a CLAIM on zone 48, class 3, tag 14. -/
def tClaimBytes (cls : Nat) (established : Bool) : List Byte := claimPayload 14 cls established [48]

/-- The own claim of the instance on channel 1. -/
def tOwn : OwnClaim :=
  { tag := 7, cls := 3, zones := [40], established := false, transmitted := false, refreshAt := 9000, sendDeadline := some 4000 }

/-- Node 5 with zone 48 held by node 6's claim of class 3, tag 14. -/
def tOccupied : State := after (.claim 5#8 6#8 (tClaimBytes 3 false)) tRun

/-- The occupant of zone 48 there. -/
def tHolder : Occupant := { owner := 6, cls := 3, tag := 14, established := false, lastHeard := 1000, expiry := 21000 }

theorem test_witness_ClaimTaken :
    tRun.Reaches .claim 5#8 6#8 ∧ (readClaim (tClaimBytes 3 false)).isSome = true ∧ (∀ c : ChanId, tRun.claimOf c = none)
      ∧ tRun.Reaches .release 5#8 6#8 ∧ readRelease [14#8, 0#8] = some 14
      ∧ (∀ o ∈ tRun.claims.occupancy, o.occupant = none)
      ∧ tOccupied.Awake ∧ tOccupied.occupant (48#8 : Byte).toNat = some tHolder
      ∧ tOccupied.claims.occupancy = [{ zone := 48, occupant := some tHolder }] ∧ tHolder.owner = (6#8 : Byte).toNat ∧ tHolder.tag = 14
      ∧ tOccupied.Reaches .release 5#8 6#8 := by
  refine ⟨reaches_of (by decide +kernel), ?_, ?_, reaches_of (by decide +kernel), ?_, ?_, ?_, ?_, ?_, rfl, rfl,
      reaches_of (by decide +kernel)⟩ <;> first | decide +kernel | (unfold State.Awake; decide +kernel)

/-- "Two class-3 claims cross": node 5 asserts against node 6's unestablished claim, and node 6 withdraws. -/
theorem test_crossing_claims :
    judgeEarly { tag := 14, cls := 3, established := false, zones := [48] } 6 3 5 = .assert
      ∧ judgeEarly { tag := 22, cls := 3, established := false, zones := [43] } 5 3 6 = .withdraw := by
  decide +kernel

/-- The claim of node 6 on zone 48 that a test sends. -/
def tTheirs (cls : Nat) (established : Bool) : ClaimFields := { tag := 14, cls := cls, established := established, zones := [48] }

/-- Channel 1 in each state, with a claim that it meets there. -/
def tMet : List (ChanState × Nat × Bool) :=
  [(.claiming, 2, false), (.leadIn, 3, true), (.claiming, 3, false), (.speaking, 2, false), (.live, 3, true), (.speaking, 3, false)]

theorem test_witness_ClaimJudged :
    (∀ x ∈ tMet, (tPlay (tInst x.1)).Reaches .claim 5#8 6#8 ∧ readClaim (tClaimBytes x.2.1 x.2.2) = some (tTheirs x.2.1 x.2.2)
        ∧ (tPlay (tInst x.1)).claimOf 1 = some tOwn ∧ (tPlay (tInst x.1)).chan 1 = some (tInst x.1)
        ∧ (tPlay (tInst x.1)).Conflict (tTheirs x.2.1 x.2.2) 1 tOwn.cls ∧ (tInst x.1).outcome = none
        ∧ (∀ d : ChanId, d ≠ 1 → (tPlay (tInst x.1)).claimOf d = none) ∧ (tPlay (tInst x.1)).ClaimsOpen)
      ∧ YieldsEarly (tTheirs 2 false) 6 3 5 ∧ YieldsEarly (tTheirs 3 true) 6 3 5 ∧ ¬YieldsEarly (tTheirs 3 false) 6 3 5
      ∧ Preempts 2 3 ∧ ¬Preempts 3 3 ∧ (5 : Nat) ≠ 6 := by
  refine ⟨fun x h => ⟨reaches_congr (reaches_of (s := tRun) (by decide +kernel)) rfl rfl, ?_, ?_, ?_, ⟨?_, 0, ?_, 48, ?_, ?_⟩, ?_, ?_,
    ⟨?_, ?_, ?_⟩⟩, ?_, ?_, ?_, ?_, ?_, by decide⟩
  iterate 12 (revert x; decide +kernel)
  all_goals simp [YieldsEarly, Preempts, tTheirs]

/-- The decisions of those six. -/
theorem test_decisions :
    judgeEarly { tag := 14, cls := 2, established := false, zones := [48] } 6 3 5 = .withdraw
      ∧ judgeEarly { tag := 14, cls := 3, established := true, zones := [48] } 6 3 5 = .withdraw
      ∧ judgeLate { tag := 14, cls := 2, established := false, zones := [48] } 3 = .preempted
      ∧ judgeLate { tag := 14, cls := 3, established := true, zones := [48] } 3 = .contested
      ∧ judgeLate { tag := 14, cls := 3, established := false, zones := [48] } 3 = .assert := by
  decide +kernel

theorem test_witness_ClaimDeadlines :
    ((tPlay (tInst .claiming)).Awake ∧ (tPlay (tInst .claiming)).claimOf 1 = some tOwn ∧ tOwn.sendDeadline = some 4000
      ∧ (tPlay (tInst .claiming)).chan 1 = some (tInst .claiming) ∧ (tInst .claiming).outcome = none
      ∧ (tPlay (tInst .claiming)).ClaimsOpen)
      ∧ ((tPlay (tLive .claiming)).setClaim 1 (some { tOwn with cls := 2 })).claimOf 1 = some { tOwn with cls := 2 }
      ∧ ∃ g ∈ tClaiming.link.queue, g.kind = .claim ∧ g.tag = some tOwn.tag := by
  refine ⟨⟨rfl, ?_, ?_, ?_, ?_, ⟨?_, ?_, ?_⟩⟩, ?_, ?_⟩ <;> decide +kernel

/-- R111: the same deadline for a class of 2 goes into LEAD_IN. -/
theorem test_send_deadline :
    ((after (.claimSendTimeout 1) (tPlay (tInst .claiming))).chan 1).map ChanInst.state = some .tail
      ∧ ((after (.claimSendTimeout 1) ((tPlay (tLive .claiming)).setClaim 1 (some { tOwn with cls := 2 }))).chan 1).map ChanInst.state
        = some .leadIn := by
  decide +kernel

/-! ### Witnesses: channels and the memory port -/

/-- Block 0 of a phrase, as buffered. -/
def tBlock (p b : Nat) : Block := { place := { phrase := p, block := b }, samples := [] }

/-- An instance in LEAD_IN at a stage, with its first speech block buffered or not. -/
def tLead (stage : Stage) (chime : Option Nat) (buffer : List Block) : ChanInst :=
  { tInst .leadIn with
    stage := stage, chime := chime, buffer := buffer, wakeEnd := if stage = .wake then some 1500 else none, listenEnd := some 1300,
    dirs := [{ phrase := 1, firstBlock := 5, count := 2 }] }

theorem test_witness_LeadInDeadlines :
    (∀ i ∈ [tLead .wake (some 300) [tBlock 0 0], tLead .wake (some 300) [], tLead .wake none []],
      (tPlay i).Awake ∧ (tPlay i).chan 1 = some i ∧ i.state = .leadIn ∧ i.stage = .wake ∧ i.wakeEnd = some 1500 ∧ i.listenEnd = some 1300)
      ∧ (∀ i ∈ [tLead .hold none [tBlock 1 0], tLead .hold none []],
        (tPlay i).Awake ∧ (tPlay i).chan 1 = some i ∧ i.state = .leadIn ∧ i.stage = .hold ∧ i.key = some (.desk 1 4) ∧ i.evac = none
          ∧ i.stopPending = false ∧ i.playableFrom 1 = some 1 ∧ i.priming = none ∧ i.listenEnd = some 1300)
      ∧ (tLead .hold none [tBlock 1 0]).buffered { phrase := 1, block := 0 } = true
      ∧ ({ tLead .hold none [] with key := some (.live 1) } : ChanInst).state = .leadIn
      ∧ ({ tLead .hold none [] with priming := some 2000 } : ChanInst).priming = some 2000 := by
  refine ⟨fun i h => ?_, fun i h => ?_, by decide +kernel, rfl, rfl⟩ <;>
    simp only [List.mem_cons, List.not_mem_nil, or_false] at h
  · rcases h with rfl | rfl | rfl <;> refine ⟨rfl, ?_, ?_, ?_, ?_, ?_⟩ <;> decide +kernel
  · rcases h with rfl | rfl <;> refine ⟨rfl, ?_, ?_, ?_, ?_, ?_, ?_, ?_, ?_, ?_⟩ <;> decide +kernel

/-- The evacuation instance in LEAD_IN, its message of one phrase. -/
def tAlert (stage : Stage) (chosen : Playing) (count : Nat) (buffer : List Block) : ChanInst :=
  { tLead stage (some 300) buffer with
    key := none, priming := some 2000, evac := some { chosen := chosen, toneEnd := none, pauseEnd := none },
    dirs := [{ phrase := 1, firstBlock := 5, count := count }] }

/-- Its exits: a tone, a message with its first block and without, a message missing; and a wait for a chime or for speech. -/
theorem test_witness_LeadInDeadlines_evacuation :
    (∀ i ∈ [tAlert .hold .tone 2 [], tAlert .hold .message 2 [tBlock 1 0], { tAlert .hold .message 2 [] with priming := none },
        tAlert .hold .message 0 [], tAlert .wake .message 2 []],
      (tPlay i).Awake ∧ (tPlay i).chan 1 = some i ∧ i.state = .leadIn ∧ i.evac.isSome = true ∧ i.key = none ∧ i.stopPending = false
        ∧ i.listenEnd = some 1300 ∧ (tPlay i).claimOf 1 = some tOwn)
      ∧ (tAlert .hold .message 2 []).playableFrom 1 = some 1 ∧ (tAlert .hold .message 0 []).playableFrom 1 = none
      ∧ (tAlert .hold .message 2 [tBlock 1 0]).buffered { phrase := 1, block := 0 } = true
      ∧ (tAlert .hold .message 2 []).buffered { phrase := 1, block := 0 } = false
      ∧ (tAlert .wake .message 2 []).priming = some 2000 ∧ (tAlert .hold .tone 2 []).priming = some 2000 := by
  refine ⟨fun i h => ?_, ?_⟩
  · simp only [List.mem_cons, List.not_mem_nil, or_false] at h
    rcases h with rfl | rfl | rfl | rfl | rfl <;> refine ⟨rfl, ?_, ?_, ?_, ?_, ?_, ?_, ?_⟩ <;> decide +kernel
  · decide +kernel

/-- R156: those exits: a tone of 10 s, the message, a wait, a tone for want of the message. -/
theorem test_evacuation_begins :
    ([tAlert .hold .tone 2 [], tAlert .hold .message 2 [tBlock 1 0], { tAlert .hold .message 2 [] with priming := none },
        tAlert .hold .message 0 []].map fun i =>
      ((after (.listenWindowEnd 1) (tPlay i)).chan 1).map fun j => (j.state, j.inPlay, j.evac.bind EvacCycle.toneEnd))
      = [some (.speaking, .nothing, some 11300), some (.speaking, .block, none), some (.leadIn, .nothing, none),
          some (.speaking, .nothing, some 11300)] := by
  decide +kernel

/-- R128: HOLD with the block there goes to SPEAKING when the listen window ends. -/
theorem test_hold_speaks :
    ((after (.listenWindowEnd 1) (tPlay (tLead .hold none [tBlock 1 0]))).chan 1).map (fun i => (i.state, i.play, i.blockEnd))
      = some (.speaking, { phrase := 1, block := 0 }, some 1332) := by
  decide +kernel

/-- The port with a transaction of channel 1. -/
def tRead (i : ChanInst) (r : Request) (wanted : Bool) : State :=
  { tPlay i with port := { handedOver := true, transaction := some { ch := 1, request := r, address := 0, wanted := wanted } } }

theorem test_witness_MemoryReads :
    ∀ q ∈ [Request.directory 1, .block { phrase := 1, block := 0 }], ∀ w ∈ [true, false], (tRead (tInst .speaking) q w).Awake
      ∧ (tRead (tInst .speaking) q w).port.handedOver = true ∧ (tRead (tInst .speaking) q w).chan 1 = some (tInst .speaking)
      ∧ (tInst .speaking).state ≠ .leadIn
      ∧ (tRead (tInst .speaking) q w).port.transaction = some { ch := 1, request := q, address := 0, wanted := w } :=
  fun _ _ _ _ => ⟨rfl, rfl, rfl, by decide, rfl⟩

/-- R188: a directory entry of first block 0x12345 and 0x678 blocks. -/
theorem test_directory_entry :
    ((after (.directoryReadComplete 0x12345678#32) (tRead (tInst .speaking) (.directory 1) true)).chan 1).map ChanInst.dirs
      = some [{ phrase := 1, firstBlock := 0x12345, count := 0x678 }] := by
  decide +kernel

/-- R133: a directory entry of no block raises PHRASE_MISSING for code 200 and passes the phrase over. -/
theorem test_missing_phrase :
    let t := after (.directoryReadComplete 0x12345000#32) (tRead (tInst .speaking) (.directory 1) true)
    (tInst .speaking).code 1 = some 200 ∧ (t.faults.find .phraseMissing (some 200) false).isSome = true
      ∧ (t.chan 1).map ChanInst.fetch = some { phrase := 2, block := 0 } := by
  decide +kernel

/-- An instance in SPEAKING at a block of phrase 1 of 2 blocks. -/
def tSpeak (block : Nat) (play : InPlay) (gaps : Nat) (stop : Bool) (phrases : List Nat) (buffer : List Block) : ChanInst :=
  { tInst .speaking with
    phrases := phrases, play := { phrase := 1, block := block }, inPlay := play, blockEnd := some 1032, gapCount := gaps, stopPending := stop,
    dirs := [{ phrase := 1, firstBlock := 5, count := 2 }], buffer := buffer }

theorem test_witness_PlayGoesOn :
    ∀ i ∈ [tSpeak 0 .block 0 false [200] [tBlock 1 0, tBlock 1 1], tSpeak 0 .block 0 false [200] [tBlock 1 0],
        tSpeak 0 .block 2 false [200] [tBlock 1 0], tSpeak 1 .block 0 true [200] [tBlock 1 1], tSpeak 1 .block 0 false [200] [tBlock 1 1],
        tSpeak 1 .block 0 false [200, 201] [tBlock 1 1, tBlock 2 0], tSpeak 0 (.gap false) 1 false [200] [tBlock 1 1]],
      (tPlay i).Awake ∧ (tPlay i).chan 1 = some i ∧ i.state = .speaking ∧ i.evac = none ∧ i.blockEnd = some 1032
        ∧ (i.dir i.play.phrase).map DirRead.count = some 2 ∧ (i.inPlay = .block ∨ i.inPlay = .gap false) := by
  intro i h
  simp only [List.mem_cons, List.not_mem_nil, or_false] at h
  rcases h with rfl | rfl | rfl | rfl | rfl | rfl | rfl <;> refine ⟨rfl, ?_, ?_, ?_, ?_, ?_, ?_⟩ <;> decide +kernel

/-- The third gap of R135 ends the instance. -/
theorem test_third_gap :
    ((after (.blockPlayed 1) (tPlay (tSpeak 0 .block 2 false [200] [tBlock 1 0]))).chan 1).map ChanInst.outcome = some (some .underrun) := by
  decide +kernel

/-- The continuation record of channel 1. -/
def tCont : Continuation := { entry := tEntry (.desk 1 4), dispatchedAt := 500, renewal := none, stopMark := none }

/-- Channel 1 at the end of its tail. -/
def tTail : State :=
  (tPlay { tInst .tail with outcome := some .done, tailEnd := some 1300 }).setCont 1 (some tCont)

theorem test_witness_InstanceEnds :
    (tPlay { tLive .live with keepAt := some 6000 }).Awake
      ∧ (tPlay { tLive .live with keepAt := some 6000 }).chan 1 = some { tLive .live with keepAt := some 6000 }
      ∧ tTail.Awake ∧ tTail.chan 1 = some { tInst .tail with outcome := some .done, tailEnd := some 1300 }
      ∧ tTail.cont 1 = some tCont ∧ tCont.entry.repetition = .once ∧ tTail.queue.entries = [] := by
  refine ⟨rfl, ?_, rfl, ?_, ?_, ?_, ?_⟩ <;> decide +kernel

/-- Channel 1 after a directory read on a valid store. -/
def tReadNext (entry : BitVec 32) (wanted : Bool) : Option Nat :=
  (after (.directoryReadComplete entry)
    { tRead (tInst .speaking) (.directory 1) wanted with store := { tRun.store with valid := true } }).port.transaction.map Transaction.address

/-- R188: the entry of code 200 is at 816, and the blocks of a phrase lie from 1024 times its first. -/
theorem test_read_addresses : tReadNext 0x00005002#32 false = some 816 ∧ tReadNext 0x00005002#32 true = some 5120 := by
  decide +kernel

/-- Channel 1 at the end of its tail with an outcome and a continuation record. -/
def tEnded (o : Ending) (k : Continuation) : State :=
  (tPlay { tInst .tail with outcome := some o, tailEnd := some 1300 }).setCont 1 (some k)

/-- An ending with the record that it meets: a return, an eighth attempt, an expiry past, a renewal, a repeat, a continuous one, an end. -/
def tEndings : List (Ending × Continuation) :=
  [(.withdrawn, tCont), (.preempted, tCont), (.withdrawn, { tCont with entry := { tCont.entry with attempts := 7 } }),
   (.withdrawn, { tCont with entry := { tCont.entry with expiry := some 1300 } }),
   (.done, { tCont with renewal := some { tEntry (.desk 1 4) with repetition := .continuous 5 } }),
   (.done, { tCont with entry := { tCont.entry with repetition := .every 1 (some 2), expiry := some 99000 } }),
   (.done, { tCont with entry := { tCont.entry with repetition := .continuous 5 } }), (.stopped, tCont)]

theorem test_witness_AnnouncementReturns :
    ∀ x ∈ tEndings, (tEnded x.1 x.2).Awake
      ∧ (tEnded x.1 x.2).chan 1 = some { tInst .tail with outcome := some x.1, tailEnd := some 1300 } ∧ (tEnded x.1 x.2).cont 1 = some x.2
      ∧ (tInst .tail).key = some x.2.entry.key ∧ x.2.stopMark = none ∧ (tEnded x.1 x.2).KeysApart
      ∧ (tEnded x.1 x.2).queue.entries.length < 24 ∧ (tEnded x.1 x.2).queue.entries = []
      ∧ ∀ w, x.2.renewal = some w → w.key = x.2.entry.key := by
  intro x hx
  refine ⟨rfl, rfl, rfl, ?_, ?_, ⟨List.Pairwise.nil, (tPlay_keysApart _).playing, (tPlay_keysApart _).both⟩, by
    simp [tEnded, tPlay, tRun, State.setCont, State.reset, Queue.reset], rfl, ?_⟩
  · revert x; decide +kernel
  · revert x; decide +kernel
  · simp only [tEndings, List.mem_cons, List.not_mem_nil, or_false] at hx
    rcases hx with rfl | rfl | rfl | rfl | rfl | rfl | rfl | rfl <;> intro w h <;> first | (cases h; rfl) | cases h

/-- R103 to R105: the entries that those endings leave: attempts and not-before. -/
theorem test_returns :
    (tEndings.map fun x => ((after (.tailEnd 1) (tEnded x.1 x.2)).entryOf (.desk 1 4)).map fun e => (e.attempts, e.notBefore))
      = [some (1, 2550), none, none, none, some (0, 6300), some (0, 60500), some (0, 6300), none] := by
  decide +kernel

/-- Those endings with a stop mark, with a renewal and without. -/
theorem test_witness_AnnouncementReturns_marked :
    ∀ x ∈ tEndings, ∀ m ∈ [StopMark.stopped, .obsolete], ∀ k, k = { x.2 with stopMark := some m } → (tEnded x.1 k).Awake
      ∧ (tEnded x.1 k).chan 1 = some { tInst .tail with outcome := some x.1, tailEnd := some 1300 } ∧ (tEnded x.1 k).cont 1 = some k
      ∧ (tInst .tail).key = some k.entry.key ∧ k.stopMark = some m ∧ (tEnded x.1 k).KeysApart
      ∧ (tEnded x.1 k).queue.entries = [] ∧ (tEnded x.1 k).onLink = true ∧ (tEnded x.1 k).link.queue.length < 8
      ∧ (tEnded x.1 k).faults.firstMarked = none ∧ k.entry.key = .desk 1 4 := by
  intro x hx m _ k hk
  subst hk
  have h : ∀ y ∈ tEndings, y.2.entry.key = .desk 1 4 := by decide +kernel
  exact ⟨rfl, rfl, rfl, congrArg some (h x hx).symm, rfl, ⟨List.Pairwise.nil, (tPlay_keysApart _).playing, (tPlay_keysApart _).both⟩, rfl, rfl,
    show ([] : List TxFrame).length < 8 by decide, show tRun.faults.firstMarked = none by decide +kernel, h x hx⟩

/-- R103: with a stop mark the withdrawn announcement does not return, and its desk is told STOPPED; a renewal is offered still. -/
theorem test_stop_mark :
    let t := after (.tailEnd 1) (tEnded .withdrawn { tCont with stopMark := some .stopped })
    t.queue.entries = [] ∧ t.link.queue.map (fun f => (f.kind, f.payload)) = [(.announceResult, [0#8, 4#8, 5#8])]
      ∧ ((after (.tailEnd 1) (tEnded .withdrawn
          { tCont with stopMark := some .stopped, renewal := some { tEntry (.desk 1 4) with repetition := .continuous 5 } })).entryOf
            (.desk 1 4)).map Entry.notBefore = some 6300 := by
  decide +kernel

/-! ### Witnesses: amplifiers, noise, evacuation, supervision, faults and sentences -/

theorem test_witness_ZonesSound :
    (tRun.zone 0).state = .idle ∧ (tRun.zone 7).state = .off
      ∧ (∀ x ∈ [(ChanState.claiming, false), (.tail, true), (.leadIn, false), (.speaking, false), (.live, false), (.tail, false)],
        ((tPlay { tInst x.1 with silentTail := x.2 }).zone 0).state = .held 1
          ∧ (tPlay { tInst x.1 with silentTail := x.2 }).chan 1 = some { tInst x.1 with silentTail := x.2 }
          ∧ (tPlay { tInst x.1 with silentTail := x.2 }).ampEnable 0
            = (decide (x.1 ≠ .claiming) && !decide (x.1 = .tail ∧ x.2 = true)))
      ∧ (0 ≤ 300 ∧ 300 ≤ 300 ∧ (300 : Int) ∣ (100#16 : BitVec 16).toInt * (300 - 150))
      ∧ ((1 : Int) ^ 80 * 10 ^ 80 = (10#16 : BitVec 16).toInt ^ 80 ∧ (0 ≤ (1 : Int) ↔ 0 ≤ (10#16 : BitVec 16).toInt)) := by
  refine ⟨?_, ?_, ?_, ⟨?_, ?_, ?_⟩, ?_⟩ <;> decide +kernel

/-- R132, R140: half of 100 half-way through the fade, and a tenth of -10 under the gain code 80. -/
theorem test_samples :
    fadeSample 150 100#16 = 50#16 ∧ fadeSample 0 0x8000#16 = 0x8000#16 ∧ attenuateSample 80 (BitVec.ofInt 16 (-10)) = BitVec.ofInt 16 (-1) := by
  decide +kernel

/-- R157: the sine at its zeros and heights: 16000 / 800 = 20 samples a period, and 3 periods of 600 Hz in 80. -/
theorem test_tone_samples :
    [0, 5, 10, 15, 20].map (toneSample 800) = [0#16, 32767#16, 0#16, BitVec.ofInt 16 (-32767), 0#16]
      ∧ [0, 20, 40, 60, 80].map (toneSample 600) = [0#16, BitVec.ofInt 16 (-32767), 0#16, 32767#16, 0#16] := by
  decide +kernel

/-- Node 5 with a gate of 200 ms on Z0 that counted `n` edges. -/
def tGate (l : Level) (n : Nat) (overflow : Bool) : State :=
  { tRun with
    levels := tRun.levels.set 0
      { l with count := n, overflow := overflow, user := .noise, ambient := 260, gate := some { startAt := 1000, endAt := 1200 } } }

theorem test_witness_AmbientFollowsGoodGate :
    (tGate Level.reset 400 false).Awake ∧ ((tGate Level.reset 400 false).level 0).gate = some { startAt := 1000, endAt := 1200 }
      ∧ gateClass ((tGate Level.reset 400 false).level 0).overflow ((tGate Level.reset 400 false).level 0).count
          (tGate Level.reset 400 false).cfg.gateLength = .good
      ∧ ∀ y : ZoneId, 120 ≤ ((tGate Level.reset 400 false).level y).ambient ∧ ((tGate Level.reset 400 false).level y).ambient ≤ 520 := by
  refine ⟨rfl, ?_, ?_, ?_⟩ <;> decide +kernel

/-- "Three gates and a SERVICE announcement": the first gate. -/
theorem test_first_gate :
    ((after (.gateEnd 0) (tGate Level.reset 400 false)).level 0).ambient = 270
      ∧ ((after (.gateEnd 0) (tGate Level.reset 400 false)).level 0).goodRun = 1 := by
  decide +kernel

theorem test_witness_GatesAndEdges :
    (∀ x ∈ [(1003, false), (4095, true), (0, false), (1002, false)],
      (tGate { Level.reset with highRun := 2, silentRun := 2, goodRun := 2 } x.1 x.2).Awake
        ∧ ((tGate { Level.reset with highRun := 2, silentRun := 2, goodRun := 2 } x.1 x.2).level 0).gate
          = some { startAt := 1000, endAt := 1200 })
      ∧ ({ Level.reset with quietAt := some 1500 } : Level).quietAt = some 1500
      ∧ ((tGate Level.reset 4095 false).level 0).user = .noise := by
  refine ⟨fun x h => ?_, rfl, by decide +kernel⟩
  simp only [List.mem_cons, List.not_mem_nil, or_false] at h
  rcases h with rfl | rfl | rfl | rfl <;> exact ⟨rfl, by decide +kernel⟩

/-- R145, R146: 1002 edges in 200 ms give 520, which is GOOD, and 1003 give 521; a third SILENT gate raises the fault. -/
theorem test_gate_boundaries :
    gateClass false 1002 200 = .good ∧ gateClass false 1003 200 = .high
      ∧ ((after (.gateEnd 0) (tGate { Level.reset with silentRun := 2 } 0 false)).level 0).sensorFault = .silent := by
  decide +kernel

/-- A zone with a sensor fault, or with none, at the gate that ends it, begins it or puts another in its place. -/
theorem test_witness_GatesAndEdges_faults :
    ∀ f ∈ [SensorFault.none, .high, .silent], ∀ n ∈ [0, 400, 1003],
      (tGate { Level.reset with highRun := 2, silentRun := 2, goodRun := 2, sensorFault := f } n false).Awake
        ∧ ((tGate { Level.reset with highRun := 2, silentRun := 2, goodRun := 2, sensorFault := f } n false).level 0).sensorFault = f
        ∧ (tGate { Level.reset with highRun := 2, silentRun := 2, goodRun := 2, sensorFault := f } n false).faults.HasRoom
        ∧ ((after (.gateEnd 0) (tGate { Level.reset with highRun := 2, silentRun := 2, goodRun := 2, sensorFault := f } n false)).level
            0).sensorFault = (if n = 0 then .silent else if n = 400 then .none else .high) := by
  intro f hf n hn
  refine ⟨rfl, ?_, ⟨0, ?_⟩, ?_⟩ <;> revert f n <;> decide +kernel

/-- R146: a zone that enters HIGH raises SENSOR_HIGH. -/
theorem test_sensor_raised :
    ((after (.gateEnd 0) (tGate { Level.reset with highRun := 2 } 1003 false)).faults.find .sensorHigh (some 0) false).isSome = true := by
  decide +kernel

/-- R142: the count stops at 4095 and the overflow flag is set. -/
theorem test_counter_stops :
    ((after (.risingPulseEdge 0 .noiseSensor) (tGate Level.reset 4095 false)).level 0).count = 4095
      ∧ ((after (.risingPulseEdge 0 .noiseSensor) (tGate Level.reset 4095 false)).level 0).overflow = true := by
  decide +kernel

/-- Node 5 evacuating after an EVAC_START, with its instance as given by the command. -/
def tEvac : State := after (.evacStart 5#8 1#8 []) tRun

theorem test_witness_EvacuationEntered :
    tRun.Reaches .evacStart 5#8 1#8 ∧ tRun.evac.active = false ∧ (tPlay (tInst .speaking)).Reaches .evacStart 5#8 1#8
      ∧ tEvac.Reaches .evacStart 5#8 1#8 ∧ tEvac.evac.active = true := by
  refine ⟨reaches_tRun _, ?_, reaches_congr (reaches_tRun _) rfl rfl, reaches_of (by decide +kernel), ?_⟩ <;> decide +kernel

/-- R154: evacuation takes a held zone from a speaking channel. -/
theorem test_evacuation_takes_zone :
    ((after (.evacStart 5#8 1#8 []) (tPlay (tInst .speaking))).zone 0).state = .held 0
      ∧ ((after (.evacStart 5#8 1#8 []) (tPlay (tInst .speaking))).chan 1).map ChanInst.outcome = some (some .preempted) := by
  decide +kernel

/-- A trigger asserted at C0. -/
def tTriggered (s : State) : State := s.setContact 0 { level := .active, candidate := 0, previous := some true }

theorem test_witness_EvacuationEnds :
    tRun.Reaches .evacStop 5#8 1#8 ∧ tRun.evac.active = false ∧ tEvac.Reaches .evacStop 5#8 1#8 ∧ tEvac.evac.active = true
      ∧ tEvac.triggered = false ∧ (∃ i, tEvac.chan 0 = some i ∧ i.outcome = none ∧ i.state ≠ .tail)
      ∧ (tTriggered tEvac).Reaches .evacStop 5#8 1#8 ∧ (tTriggered tEvac).triggered = true ∧ (tTriggered tEvac).link.queue.length < 8
      ∧ ({ tTriggered tRun with evac := { tRun.evac with repeatAt := some 6000 } } : State).triggered = true ∧ tRun.onLink = true
      ∧ tRun.triggered = false := by
  refine ⟨reaches_tRun _, ?_, reaches_of (by decide +kernel), ?_, ?_, ⟨(tEvac.chan 0).getD (tInst .tail), ?_⟩, reaches_of (by decide +kernel),
    ?_, ?_, ?_, ?_, ?_⟩ <;> decide +kernel

/-- The evacuation instance in SPEAKING at a point of its cycle, its message of phrase 200 ready. -/
def tCycle (e : EvacCycle) : ChanInst :=
  { ChanInst.new 0 none 9 none [200] with
    state := .speaking, evac := some e, dirs := [{ phrase := 1, firstBlock := 5, count := 2 }], buffer := [tBlock 1 0] }

/-- Node 5 with that instance on channel 0. -/
def tSounding (e : EvacCycle) : State := { tRun with chans := tRun.chans.set 0 (some (tCycle e)) }

theorem test_witness_EvacuationCycle :
    (∀ e ∈ [EvacCycle.mk .tone (some 1300) none, EvacCycle.mk .tone none (some 1300), EvacCycle.mk .message none (some 1300)],
      (tSounding e).Awake ∧ (tSounding e).chan 0 = some (tCycle e) ∧ (tCycle e).state = .speaking ∧ (tCycle e).evac = some e)
      ∧ (tCycle ⟨.message, none, some 1300⟩).playableFrom 1 = some 1 ∧ (tCycle ⟨.message, none, some 1300⟩).play.phrase = 0
      ∧ (tCycle ⟨.message, none, some 1300⟩).buffered { phrase := 1, block := 0 } = true := by
  refine ⟨fun e h => ?_, by decide +kernel, rfl, by decide +kernel⟩
  simp only [List.mem_cons, List.not_mem_nil, or_false] at h
  rcases h with rfl | rfl | rfl <;> refine ⟨rfl, ?_, rfl, rfl⟩ <;> decide +kernel

/-- The message of 2 blocks at its points: the next block ready, a gap, the third gap, its end, the next phrase, and a gap's end. -/
def tMessages : List ChanInst :=
  let m : EvacCycle := ⟨.message, none, none⟩
  [{ tSpeak 0 .block 0 false [200] [tBlock 1 0, tBlock 1 1] with key := none, evac := some m },
   { tSpeak 0 .block 0 false [200] [tBlock 1 0] with key := none, evac := some m },
   { tSpeak 0 .block 2 false [200] [tBlock 1 0] with key := none, evac := some m },
   { tSpeak 1 .block 0 false [200] [tBlock 1 1] with key := none, evac := some m },
   { tSpeak 1 .block 0 false [200, 201] [tBlock 1 1, tBlock 2 0] with key := none, evac := some m },
   { tSpeak 0 (.gap false) 1 false [200] [tBlock 1 1] with key := none, evac := some m }]

theorem test_witness_EvacuationCycle_message :
    ∀ i ∈ tMessages, ({ tRun with chans := tRun.chans.set 0 (some i) } : State).Awake
      ∧ ({ tRun with chans := tRun.chans.set 0 (some i) } : State).chan 0 = some i ∧ i.state = .speaking ∧ i.evac.isSome = true
      ∧ i.blockEnd = some 1032 ∧ (i.dir i.play.phrase).map DirRead.count = some 2 ∧ i.code i.play.phrase = some 200 ∧ i.play.phrase ≠ 0 := by
  intro i h
  refine ⟨rfl, ?_⟩
  revert i
  decide +kernel

/-- R135, R156: the third gap turns the message into a tone of 10 s, and after its last block the pause of 2 s begins. -/
theorem test_message_goes_on :
    (tMessages.take 5).map (fun i => ((after (.blockPlayed 0) { tRun with chans := tRun.chans.set 0 (some i) }).chan 0).map fun j =>
      (j.inPlay, j.evac.bind EvacCycle.toneEnd, j.evac.bind EvacCycle.pauseEnd))
      = [some (.block, none, none), some (.gap false, none, none), some (.nothing, some 11032, none), some (.nothing, none, some 3032),
          some (.block, none, none)] := by
  decide +kernel

/-- The hypotheses of ZonesSound on tones, targets and gain codes. -/
theorem test_witness_ZonesSound_levels :
    (tSounding ⟨.tone, some 1300, none⟩).chan 0 = some (tCycle ⟨.tone, some 1300, none⟩)
      ∧ (tCycle ⟨.tone, some 1300, none⟩).evac.bind EvacCycle.toneEnd = some 1300 ∧ 1000 < 1300 ∧ 1300 ≤ 1000 + 10000
      ∧ ({ tSounding ⟨.tone, some 1300, none⟩ with zones := tRun.zones.set 0 { tIdle with state := .held 0 } } : State).zoneAudio 0
        = { sound := .tone 600 700, fade := none, gain := 0 }
      ∧ (∀ z : ZoneId, (tRun.cfg.zones[z]).zoneMin ≤ (tRun.cfg.zones[z]).zoneMax) ∧ tRun.startup.phase ≠ .limited ∧ tRun.battery = false
      ∧ tBattery.battery = true ∧ (after (.configImageRead []) (tStart .readConfig none)).startup.phase = .limited := by
  decide +kernel

/-- R161: two equal samples of a low C0, which is active low, assert the trigger and begin evacuation. -/
theorem test_two_samples_evacuate :
    (after (.contactSample 0#8) (after (.contactSample 0#8) tRun)).evac.input = true
      ∧ (after (.contactSample 0#8) tRun).evac.active = false := by
  decide +kernel

theorem test_witness_ContactsDebounced :
    tRun.Awake ∧ tRun.startup.phase ≠ .start ∧ (∀ c : ContactId, (tRun.sup.contacts[c]).level ≠ acceptedOf true)
      ∧ (tRun.cfg.contacts[(0 : ContactId)]).role = .evacTrigger ∧ (tRun.cfg.contacts[(1 : ContactId)]).role = .spareAlarm
      ∧ (tRun.cfg.contacts[(2 : ContactId)]).role = .mainsBattery ∧ (tRun.cfg.contacts[(3 : ContactId)]).role = .ampFault 0
      ∧ (tRun.cfg.contacts[(4 : ContactId)]).role = .unused ∧ tRun.queue.entries = [] ∧ tRun.evac.active = false
      ∧ ((tTriggered tRun).sup.contacts[(0 : ContactId)]).level = acceptedOf true := by
  refine ⟨rfl, ?_, ?_, ?_, ?_, ?_, ?_, ?_, ?_, ?_, ?_⟩ <;> decide +kernel

/-- R163: an amplifier fault flags the zones of its mask. -/
theorem test_amplifier_fault :
    (allZones.filter fun z => ((after (.acceptedLevelChange 3 true) tRun).zone z).ampFault) = [0] := by
  decide +kernel

/-- Node 5 at a round deadline. -/
def tRound (s : State) : State := s.setScan fun x => { x with roundAt := some 1000 }

/-- Node 5 with zone Z0 in TEST at a stage. -/
def tTest (stage : GroupStage) : State :=
  ({ tRun with zones := tRun.zones.set 0 { tIdle with state := .test } } : State).setScan fun _ =>
    { roundAt := none, inRound := true, group := some 0, stage := some stage, stageAt := some 1100 }

theorem test_witness_RoundBegins :
    (tRound tRun).Awake ∧ (tRound tRun).sup.scan.roundAt = some 1000 ∧ (tRound tRun).cfg.groupSize ∈ [1, 2, 4, 8]
      ∧ (tRound tRun).evac.active = false ∧ (∃ z ∈ (tRound tRun).cfg.groupZones 0, (tRound tRun).testable z = true)
      ∧ (tRound tEvac).sup.scan.roundAt = some 1000 ∧ (tRound tEvac).evac.active = true := by
  refine ⟨rfl, ?_, ?_, ?_, ?_, ?_, ?_⟩ <;> decide +kernel

/-- Node 5 at a round deadline with two zones a group, Z0 held and skipped nine times. -/
def tSkipped (s : State) : State :=
  ({ tRound s with
      startup := { s.startup with config := some { tCfg with groupSize := 2 } } } : State).setLine 0 fun l => { l with skips := 9 }

theorem test_witness_RoundBegins_tenth :
    (tSkipped tEvac).Awake ∧ (tSkipped tEvac).sup.scan.roundAt = some 1000 ∧ (tSkipped tEvac).cfg.groupSize = 2
      ∧ (tSkipped tEvac).evac.active = true ∧ ((tSkipped tEvac).zone 0).present = true ∧ ((tSkipped tEvac).sup.lines[(0 : ZoneId)]).skips = 9
      ∧ (∀ y : ZoneId, y ≠ 0 → ((tSkipped tEvac).sup.lines[y]).skips ≠ 9)
      ∧ (tSkipped (tPlay (tInst .speaking))).sup.scan.roundAt = some 1000 ∧ (tSkipped (tPlay (tInst .speaking))).evac.active = false
      ∧ (0 : ZoneId) ∈ (tSkipped (tPlay (tInst .speaking))).cfg.groupZones 0
      ∧ (tSkipped (tPlay (tInst .speaking))).testable 0 = false ∧ (1 : ZoneId) ∈ (tSkipped (tPlay (tInst .speaking))).cfg.groupZones 0
      ∧ (tSkipped (tPlay (tInst .speaking))).testable 1 = true
      ∧ ((tSkipped (tPlay (tInst .speaking))).sup.lines[(0 : ZoneId)]).skips = 9
      ∧ (∀ y : ZoneId, y ≠ 0 → ((tSkipped (tPlay (tInst .speaking))).sup.lines[y]).skips ≠ 9) := by
  refine ⟨by unfold State.Awake; decide +kernel, ?_, ?_, ?_, ?_, ?_, ?_, ?_, ?_, ?_, ?_, ?_, ?_, ?_, ?_⟩ <;> decide +kernel

/-- R169: the tenth skip in a row raises LINE_UNTESTED for the zone. -/
theorem test_tenth_skip :
    ([tEvac, tPlay (tInst .speaking)].map fun s =>
      ((after .roundDeadlineExpiry (tSkipped s)).faults.find .lineUntested (some 0) false).isSome) = [true, true] := by
  decide +kernel

/-- Node 5 with Z0 in TEST, its counter at a value and a fail run of one. -/
def tCounted (n : Nat) (overflow : Bool) (st : LineStatus) (k : FailKind) : State :=
  (((tTest .gate).setLine 0 fun l => { l with failRun := some { kind := k, count := 1 } }).setZone 0 fun z => { z with lineStatus := st }).setLevel
    0 fun l => { l with count := n, overflow := overflow }

theorem test_witness_GroupTested :
    (∀ x ∈ [GroupStage.settle, .gate, .spacing], (tTest x).Awake ∧ (tTest x).sup.scan.group = some 0 ∧ (tTest x).sup.scan.stageAt = some 1100
      ∧ (tTest x).sup.scan.stage = some x ∧ (tTest x).queue.entries = [])
      ∧ (tTest .gate).inTest 0 = true ∧ ((tTest .gate).zone 0).state = .test ∧ (0 : ZoneId) ∈ (tTest .gate).cfg.groupZones 0
      ∧ (tTest .gate).cfg.groupsAfter 0 ≠ [] ∧ (tTest .gate).cfg.groupsAfter 7 = []
      ∧ (∃ z ∈ (tTest .spacing).cfg.groupZones 1, (tTest .spacing).testable z = true)
      ∧ (∀ z ∈ (tCounted 0 false .suspectShort .short).cfg.groupZones 0, (tCounted 0 false .suspectShort .short).inTest z = true →
        ((after .lineGateEnd (tCounted 0 false .suspectShort .short)).zone z).state = .off)
      ∧ (((tCounted 0 false .suspectShort .short).cfg.zones[(0 : ZoneId)]).lo, ((tCounted 0 false .suspectShort .short).cfg.zones[(0 : ZoneId)]).hi)
        = (10, 100) := by
  refine ⟨fun x h => ?_, ?_⟩
  · simp only [List.mem_cons, List.not_mem_nil, or_false] at h
    rcases h with rfl | rfl | rfl <;> refine ⟨rfl, rfl, rfl, rfl, ?_⟩ <;> decide +kernel
  · refine ⟨?_, ?_, ?_, ?_, ?_, ?_, ?_, ?_⟩ <;> decide +kernel

/-- R165, R166: a second count below the window confirms a short and the zone goes OFF; one of the other kind, or one in the window, does
not; and an overflow confirms an open line. -/
theorem test_line_counts :
    ([(9, false, FailKind.short), (10, false, .short), (100, false, .openLine), (101, false, .openLine), (50, true, .openLine),
        (101, false, .short)].map fun x =>
      (((after .lineGateEnd (tCounted x.1 x.2.1 .suspectShort x.2.2)).zone 0).lineStatus,
        ((after .lineGateEnd (tCounted x.1 x.2.1 .suspectShort x.2.2)).zone 0).state))
      = [(.short, .off), (.good, .idle), (.good, .idle), (.openLine, .idle), (.openLine, .idle), (.suspectOpen, .idle)] := by
  decide +kernel

/-- One zone in TEST, whose status comes to SHORT or OPEN, leaves it, or stays, with room for a fault. -/
theorem test_witness_GroupTested_faults :
    ∀ x ∈ [(9, LineStatus.suspectShort, FailKind.short), (101, .suspectOpen, .openLine), (50, .short, .short), (50, .openLine, .openLine),
        (50, .good, .short), (9, .short, .short)],
      ∀ s, s = (tCounted x.1 false x.2.1 x.2.2).setLine 0 (fun l => { l with passRun := 2 }) →
      s.Awake ∧ s.sup.scan.group = some 0 ∧ s.sup.scan.stageAt = some 1100 ∧ s.sup.scan.stage = some .gate ∧ s.queue.entries = []
        ∧ (0 : ZoneId) ∈ s.cfg.groupZones 0 ∧ (s.zone 0).state = .test ∧ (∀ y : ZoneId, (s.zone y).state = .test → y = 0)
        ∧ s.faults.HasRoom ∧ (s.zone 0).lineStatus = x.2.1
        ∧ ((after .lineGateEnd s).zone 0).lineStatus
          = (if x.1 = 9 then .short else if x.1 = 101 then .openLine else .good) := by
  intro x hx s hs
  subst hs
  refine ⟨rfl, rfl, rfl, rfl, ?_, ?_, ?_, ?_, ⟨0, ?_⟩, ?_, ?_⟩ <;> revert x <;> decide +kernel

/-- R143: the gate of a neighbour that the test silenced begins when the tested zone goes OFF. -/
theorem test_gate_after_short :
    let s := { tCounted 9 false .suspectShort .short with
      startup := { tRun.startup with config := some { tCfg with zones := tCfg.zones.set 1 (tZone [40]) } } }
    ((s.level 1).gate, ((after .lineGateEnd s).zone 0).state, ((after .lineGateEnd s).level 1).gate.isSome) = (none, .off, true) := by
  decide +kernel

/-- Node 5 with a fault of a kind. -/
def tFault : State := tRun.raise .spareAlarm (some 1)

theorem test_witness_FaultAcknowledged :
    tFault.Reaches .faultAck 5#8 1#8 ∧ readAck [0#8, 1#8] = some { slot := 0, generation := 1 }
      ∧ ((tFault.faults.slots[(0 : Fin 16)]).record).map (fun r => (r.generation, r.state)) = some (1, .activeUnack)
      ∧ readAck [15#8, 0#8] = some { slot := 15, generation := 0 } ∧ tFault.faults.slots[(15 : Fin 16)].record = none
      ∧ tFault.Reaches .testStep 5#8 1#8 ∧ tFault.faults.testStep ≤ 7
      ∧ (∀ i : Fin 16, ∀ r ∈ (tFault.faults.slots[i]).record, r.simulated = false)
      ∧ tFault.Reaches .statusQuery 5#8 1#8 ∧ (∀ f ∈ [0, 1, 2, 3], readQuery [byte f] = some f) ∧ tFault.link.queue.length < 7
      ∧ ((tFault.faults.slots[(0 : Fin 16)]).record).isSome = true := by
  refine ⟨reaches_of (by decide +kernel), ?_, ?_, ?_, ?_, reaches_of (by decide +kernel), ?_, ?_, reaches_of (by decide +kernel), ?_, ?_,
    ?_⟩ <;> decide +kernel

/-- A fault table with one record in every slot. -/
def tTable (r : FaultRecord) : State :=
  { tRun with faults := { tRun.faults with slots := tRun.faults.slots.map fun x => { x with record := some r } } }

/-- A record of LINE_OPEN, which is MINOR, in a state. -/
def tOldRecord (st : FaultState) : FaultRecord :=
  { kind := .lineOpen, subject := some 0, simulated := false, state := st, firstSeen := none, lastChange := none, occurrences := 1,
    generation := 1, age := 500 }

/-- A key held, a slot empty, a CLEARED_UNACK record, a MINOR ACTIVE_ACK record under a MAJOR kind, no place, and a condition to clear. -/
theorem test_witness_FaultAcknowledged_places :
    tFault.faults.find .spareAlarm (some 1) false = some 0 ∧ tFault.faults.find .lineOpen (some 0) false = none
      ∧ tFault.faults.Place .lineOpen 1
      ∧ (tTable (tOldRecord .clearedUnack)).faults.find .spareAlarm (some 1) false = none
      ∧ (tTable (tOldRecord .clearedUnack)).faults.Place .spareAlarm 0
      ∧ (tTable (tOldRecord .activeAck)).faults.find .ampFault (some 0) false = none
      ∧ (tTable (tOldRecord .activeAck)).faults.Place .ampFault 0
      ∧ (∀ st ∈ [FaultState.activeAck, .activeUnack], (tTable (tOldRecord st)).faults.find .spareAlarm (some 1) false = none
        ∧ ∀ i : Fin 16, ∃ r, ((tTable (tOldRecord st)).faults.slots[i]).record = some r ∧ r.state ≠ .clearedUnack
          ∧ (FaultKind.spareAlarm.isMajor = true → r.kind.isMajor = true ∨ r.state = .activeUnack))
      ∧ (tTable (tOldRecord .clearedUnack)).faults.find .lineOpen (some 0) false = some 0 ∧ tFault.link.queue.length < 8 := by
  have full (r : FaultRecord) (j : Fin 16) : ((tTable r).faults.slots[j]).record = some r := by simp [tTable]
  have filled (r : FaultRecord) (j : Fin 16) : ((tTable r).faults.slots[j]).record ≠ none := by rw [full]; exact Option.some_ne_none _
  refine ⟨?_, ?_, Or.inl ?_, ?_, Or.inr ⟨filled _, Or.inl ⟨_, full _ 0, rfl, fun j w hw _ => Or.inr ⟨?_, Fin.zero_le j⟩⟩⟩, ?_,
    Or.inr ⟨filled _, Or.inr ⟨rfl, fun j w hw => ?_, _, full _ 0, rfl, rfl, fun j w hw _ _ => Or.inr ⟨?_, Fin.zero_le j⟩⟩⟩,
    fun st hst => ⟨?_, fun i => ⟨_, full _ i, ?_, fun h => by cases h⟩⟩, ?_, ?_⟩
  iterate 4 decide +kernel
  · rw [full] at hw; cases hw; rfl
  · decide +kernel
  · rw [full] at hw; cases hw; decide
  · rw [full] at hw; cases hw; rfl
  · revert st; decide +kernel
  · revert st; decide
  all_goals decide +kernel

/-- R173, R174: a second raise counts one more, a clear keeps the slot, and a full table of active records drops. -/
theorem test_fault_records :
    (((tFault.raise .spareAlarm (some 1)).faults.slots[(0 : Fin 16)]).record.map fun r => (r.occurrences, r.generation)) = some (2, 2)
      ∧ (((tFault.clear .spareAlarm (some 1)).faults.slots[(0 : Fin 16)]).record.map FaultRecord.state) = some .clearedUnack
      ∧ ((tTable (tOldRecord .activeUnack)).raise .ampFault (some 0)).counters[(15 : Fin 16)] = 1
      ∧ (((tTable (tOldRecord .activeAck)).raise .ampFault (some 0)).faults.slots[(0 : Fin 16)]).record.map FaultRecord.kind
        = some .ampFault := by
  decide +kernel

/-- R177: the first step simulates LINE_SHORT, and the next one AMP_FAULT in its place. -/
theorem test_two_steps :
    let t := after (.testStep 5#8 1#8 []) (after (.testStep 5#8 1#8 []) tRun)
    t.faults.testStep = 2 ∧ (t.faults.find .lineShort none true) = none ∧ (t.faults.find .ampFault none true).isSome = true := by
  decide +kernel

theorem test_witness_DelaySpoken :
    ({ tCall .planned with expected := some 693 } : CallRecord).expected = some ((tCall .planned).scheduled + 1) ∧ 1 ≤ 1 := by
  decide

/-- R79, R83: a template of a destination and the calling points of the call, the latter in a group of its own. -/
theorem test_witness_PhraseListFits :
    phraseList 3 { call := some (tCall .planned), params := [] }
      [{ kind := .fixed 300, group := 0 }, { kind := .destination, group := 1 }, { kind := .origin, group := 2 },
        { kind := .callingPoints, group := 3 }] = some [300, 200, 201, 66, 202] := by
  decide +kernel

/-- Inputs of the call of the tests with `n` stored points. -/
def tInputs (n : Nat) : Inputs := { call := some { tCall .planned with points := List.replicate n 201 }, params := [] }

/-- The hypotheses of PhraseListFits: an absent element, in group 0 and in another; points and none; words alone, few, none and too many;
and points with room for all, for some and for none, and twice over. -/
theorem test_witness_PhraseListFits_cases :
    expand 3 (tInputs 2) .origin = none
      ∧ (tCall .planned).points.filter (fun c => decide (c < 69 ∨ 127 < c)) ≠ [] ∧ (tInputs 0).call.map CallRecord.points = some []
      ∧ (∀ n ∈ [1, 40, 41], (List.replicate n ({ kind := .fixed 300, group := 0 } : Element)).map (fun e : Element => expand 3 (tInputs 2) e.kind)
          = (List.replicate n [300]).map fun l => some (.words l))
      ∧ (∀ x ∈ [(2, 38), (3, 36), (3, 37), (3, 40)],
        (List.replicate x.2 ({ kind := .fixed 300, group := 0 } : Element) ++ ({ kind := .callingPoints, group := 0 } : Element) :: []).map
            (fun e : Element => expand 3 (tInputs x.1) e.kind)
          = (List.replicate x.2 [300]).map (fun l => some (.words l)) ++ some (.points false (List.replicate x.1 201)) :: [])
      ∧ ([{ kind := .callingPoints, group := 0 }, { kind := .callingPoints, group := 1 }] : List Element).map
          (fun e => expand 3 (tInputs 41) e.kind)
        = [some (.points false (List.replicate 41 201)), some (.points false (List.replicate 41 201))] := by
  decide +kernel

/-- R79, R84: after 36 words three points take four places; after 37 the first two and "and other stations"; after 40 there is no room. -/
theorem test_points_shortened :
    ([36, 37, 40].map fun n => (phraseList 3 (tInputs 3)
      (List.replicate n { kind := .fixed 300, group := 0 } ++ [{ kind := .callingPoints, group := 0 }])).map (List.drop n))
      = [some [201, 201, 66, 201], some [201, 201, 67], none]
      ∧ phraseList 3 (tInputs 3) [{ kind := .fixed 300, group := 1 }, { kind := .origin, group := 1 }] = none
      ∧ phraseList 3 (tInputs 3) [{ kind := .fixed 300, group := 0 }, { kind := .origin, group := 1 }] = some [300] := by
  decide +kernel

end Sys2Proof.Tests
end

section
/-! The delay of R82: what a call's delay is, the rows of the table one by one, and the statement of the family. -/

namespace Sys2Proof.Proofs.Delay

open Sys2Proof.Machine

theorem delay_of_expected_eq_scheduled_add {r : CallRecord} {d : Nat} (hexpected : r.expected = some (r.scheduled + d)) :
    r.delay = some d := by
  simp [CallRecord.delay, hexpected]

/-- What the DELAY element becomes for a late call, before the table of R82 is read. -/
theorem expand_delay_of_late {h0 : Nat} {x : Inputs} {r : CallRecord} {d : Nat} (hcall : x.call = some r)
    (hdelay : r.delay = some d) (hlate : 1 ≤ d) : expand h0 x .delay = some (.words (speakDelay d)) := by
  have hd : d ≠ 0 := by omega
  simp [expand, hcall, hdelay, hd]

theorem speakDelay_one : speakDelay 1 = [1, 64] := rfl

theorem speakDelay_minutes {d : Nat} (hlow : 2 ≤ d) (hhigh : d ≤ 59) : speakDelay d = [d, 65] := by
  have hone : d ≠ 1 := by omega
  have hhour : d < 60 := by omega
  simp [speakDelay, hone, hhour]

/-- The table adds the minutes when there are some; the model leaves them out when there are none. -/
theorem speakDelay_hours {d : Nat} (hlow : 60 ≤ d) (hhigh : d ≤ 179) :
    speakDelay d = [d / 60, if d / 60 = 1 then 62 else 63]
      ++ (if 0 < d % 60 then [d % 60, if d % 60 = 1 then 64 else 65] else []) := by
  have hone : d ≠ 1 := by omega
  have hhour : ¬ d < 60 := by omega
  have hthree : d < 180 := by omega
  by_cases hwhole : d % 60 = 0
  · simp [speakDelay, hone, hhour, hthree, hwhole]
  · have hminutes : 0 < d % 60 := Nat.pos_of_ne_zero hwhole
    simp only [speakDelay, if_neg hone, if_neg hhour, if_pos hthree, if_neg hwhole, if_pos hminutes]

theorem speakDelay_long {d : Nat} (hlow : 180 ≤ d) : speakDelay d = [68] := by
  have hone : d ≠ 1 := by omega
  have hhour : ¬ d < 60 := by omega
  have hthree : ¬ d < 180 := by omega
  simp [speakDelay, hone, hhour, hthree]

/-- Settles O59: the DELAY element speaks `speakDelay d`, and each row of R82's table is one of its cases. -/
theorem delaySpoken : Obligations.DelaySpoken := by
  unfold Obligations.DelaySpoken
  intro h0 x r d hcall hexpected hlate
  have hdelay : r.delay = some d := delay_of_expected_eq_scheduled_add hexpected
  refine ⟨speakDelay d, expand_delay_of_late hcall hdelay hlate, ?one, speakDelay_minutes, speakDelay_hours, speakDelay_long⟩
  case one =>
    rintro rfl
    exact speakDelay_one

end Sys2Proof.Proofs.Delay
end

section
/-! LIVE_CLOSE (R94, R137): what an offered frame leaves alone, the entry to TAIL and the removal of a waiting entry as their own
writes followed by an offer, and the statement of the family. -/

namespace Sys2Proof.Proofs.LiveClose

open Sys2Proof.Machine

/-! ### What an offer can change (R11 to R15, R176) -/

/-- From `s` to `t` only frames and reports were offered: the link, the fault table and the counters may differ, and of the counters only
TX_DROPPED. -/
structure OffersOnly (s t : State) : Prop where
  frame : t = { s with link := t.link, faults := t.faults, counters := t.counters }
  counters : ∀ i : Fin 16, Counter.txDropped.idx ≠ i → t.counters[i] = s.counters[i]

namespace OffersOnly

theorem refl (s : State) : OffersOnly s s := ⟨rfl, fun _ _ => rfl⟩

theorem trans {s t u : State} (h : OffersOnly s t) (k : OffersOnly t u) : OffersOnly s u where
  frame := k.frame.trans
    (congrArg (fun x : State => { x with link := u.link, faults := u.faults, counters := u.counters }) h.frame)
  counters i hi := (k.counters i hi).trans (h.counters i hi)

section
variable {s t : State} (h : OffersOnly s t)
include h

theorem queue : t.queue = s.queue := by rw [h.frame]
theorem zones : t.zones = s.zones := by rw [h.frame]
theorem calls : t.calls = s.calls := by rw [h.frame]
theorem chan (c : ChanId) : t.chan c = s.chan c := by unfold State.chan; rw [h.frame]
theorem claimOf (c : ChanId) : t.claimOf c = s.claimOf c := by unfold State.claimOf; rw [h.frame]

end

end OffersOnly

theorem offersOnly_link (s : State) (l : Link) : OffersOnly s { s with link := l } := ⟨rfl, fun _ _ => rfl⟩

theorem offersOnly_faults (s : State) (f : FaultTable) : OffersOnly s { s with faults := f } := ⟨rfl, fun _ _ => rfl⟩

theorem offersOnly_count_txDropped (s : State) : OffersOnly s (s.count .txDropped) := ⟨rfl, count_other s .txDropped⟩

theorem offersOnly_mapQueue (s : State) (f : TxFrame → TxFrame) : OffersOnly s (s.mapQueue f) := offersOnly_link s _

theorem offersOnly_txInsert (s : State) (f : TxFrame) : OffersOnly s (s.txInsert f) := by
  unfold State.txInsert
  split
  · exact offersOnly_link s _
  · split
    · exact (offersOnly_link s _).trans (offersOnly_count_txDropped _)
    · exact offersOnly_count_txDropped s

theorem offersOnly_txClaim (s : State) (f : TxFrame) : OffersOnly s (s.txClaim f) := by
  unfold State.txClaim
  split
  · exact offersOnly_mapQueue s _
  · exact offersOnly_txInsert s f

theorem offersOnly_txRelease (s : State) (f : TxFrame) : OffersOnly s (s.txRelease f) := by
  unfold State.txRelease
  split
  · exact offersOnly_txInsert s f
  · split
    · exact (offersOnly_mapQueue s _).trans (offersOnly_txInsert _ f)
    · dsimp only
      split
      · exact offersOnly_link s _
      · exact (offersOnly_link s _).trans (offersOnly_txInsert _ f)

theorem offersOnly_txEvacStart (s : State) (f : TxFrame) : OffersOnly s (s.txEvacStart f) := by
  unfold State.txEvacStart
  split
  · exact offersOnly_mapQueue s _
  · exact offersOnly_txInsert s f

theorem offersOnly_txOffer (s : State) (f : TxFrame) : OffersOnly s (s.txOffer f) := by
  unfold State.txOffer
  split
  · split
    · exact offersOnly_txClaim s f
    · exact offersOnly_txRelease s f
    · exact offersOnly_txEvacStart s f
    · exact offersOnly_txInsert s f
  · exact OffersOnly.refl s

theorem offersOnly_report (s : State) (i : Fin 16) : OffersOnly s (s.report i) := by
  unfold State.report
  exact (offersOnly_faults s _).trans (offersOnly_txOffer _ _)

theorem offersOnly_pumpN (n : Nat) (s : State) : OffersOnly s (pumpN n s) := by
  induction n generalizing s with
  | zero => exact OffersOnly.refl s
  | succ n ih =>
    unfold pumpN
    split
    · split
      · exact (offersOnly_report s _).trans (ih _)
      · exact OffersOnly.refl s
    · exact OffersOnly.refl s

theorem offersOnly_offer (s : State) (f : TxFrame) : OffersOnly s (s.offer f) :=
  (offersOnly_txOffer s f).trans (offersOnly_pumpN 16 _)

/-! ### The entry to TAIL and the removal of an entry -/

theorem setClaim_eq_self {s : State} {c : ChanId} {r : Option OwnClaim} (h : s.claimOf c = r) : s.setClaim c r = s := by
  subst h
  simp [State.setClaim, State.claimOf]

/-- Whether or not the channel has a record, dropping it is its removal, then at most an offer (R112). -/
theorem offersOnly_dropClaim (s : State) (c : ChanId) (o : Ending) : OffersOnly (s.setClaim c none) (s.dropClaim c o) := by
  unfold State.dropClaim
  split
  next hnone =>
    rw [setClaim_eq_self hnone]
    exact OffersOnly.refl s
  next => exact offersOnly_offer _ _

theorem enterTail_of_tail {s : State} {c : ChanId} {i : ChanInst} (o : Ending) (hchan : s.chan c = some i) (htail : i.state = .tail) :
    s.enterTail c o = s := by
  simp [State.enterTail, hchan, htail]

/-- Before TAIL, the entry writes the channel, the port's transaction and the claim record, then at most offers the RELEASE (R112, R130). -/
theorem offersOnly_enterTail {s : State} {c : ChanId} {i : ChanInst} (o : Ending) (hchan : s.chan c = some i)
    (htail : i.state ≠ .tail) :
    OffersOnly (((s.setChan c (some (i.ended o s.now))).disown c).setClaim c none) (s.enterTail c o) := by
  simp only [State.enterTail, hchan, if_neg htail]
  exact offersOnly_dropClaim _ _ _

section
variable {s : State} {c : ChanId} {i : ChanInst} (o : Ending) (hchan : s.chan c = some i) (htail : i.state ≠ .tail)
include hchan htail

theorem chan_enterTail_self : (s.enterTail c o).chan c = some (i.ended o s.now) :=
  ((offersOnly_enterTail o hchan htail).chan c).trans (chan_setChan_self s c _)

theorem claimOf_enterTail_self : (s.enterTail c o).claimOf c = none :=
  ((offersOnly_enterTail o hchan htail).claimOf c).trans (claimOf_setClaim_self _ c none)

theorem chan_enterTail_of_ne {d : ChanId} (hd : d ≠ c) : (s.enterTail c o).chan d = s.chan d :=
  ((offersOnly_enterTail o hchan htail).chan d).trans (chan_setChan_of_ne s c d _ hd.symm)

theorem claimOf_enterTail_of_ne {d : ChanId} (hd : d ≠ c) : (s.enterTail c o).claimOf d = s.claimOf d :=
  ((offersOnly_enterTail o hchan htail).claimOf d).trans (claimOf_setClaim_of_ne _ c d none hd.symm)

theorem zones_enterTail : (s.enterTail c o).zones = s.zones := (offersOnly_enterTail o hchan htail).zones

theorem queue_enterTail : (s.enterTail c o).queue = s.queue := (offersOnly_enterTail o hchan htail).queue

end

/-- Giving a result counts it, then at most offers its frame (R106). -/
theorem offersOnly_give (s : State) (k : Key) (r : Result) : OffersOnly (s.count r.counter) (s.give k r) := by
  unfold State.give
  split
  · exact OffersOnly.refl _
  · exact offersOnly_offer _ _

theorem offersOnly_removeEntry (s : State) (k : Key) (r : Result) :
    OffersOnly ((s.dropEntry k).count r.counter) (s.removeEntry k r) := offersOnly_give _ k r

theorem entries_removeEntry (s : State) (k : Key) (r : Result) :
    (s.removeEntry k r).queue.entries = s.queue.entries.filter fun e => decide (e.key ≠ k) :=
  congrArg Queue.entries (offersOnly_removeEntry s k r).queue

/-- No offer touches the counter of a result, so it has counted the removal once. -/
theorem counter_removeEntry (s : State) (k : Key) (r : Result) (h : Counter.txDropped.idx ≠ r.counter.idx) :
    (s.removeEntry k r).counters[r.counter.idx] = satInc s.counters[r.counter.idx] :=
  ((offersOnly_removeEntry s k r).counters _ h).trans (count_counter (s.dropEntry k) r.counter)

theorem removeEntry_frame (s : State) (k : Key) (r : Result) :
    s.removeEntry k r = { s with
      queue := { s.queue with entries := (s.removeEntry k r).queue.entries }, link := (s.removeEntry k r).link,
      faults := (s.removeEntry k r).faults, counters := (s.removeEntry k r).counters } := by
  rw [entries_removeEntry]
  exact (offersOnly_removeEntry s k r).frame

/-! ### LIVE_CLOSE -/

/-- The frame lemmas of the shared operations give the frame that the statements name. -/
theorem undisturbed_of_keeps {s t : State} (h : Keeps s t) : Undisturbed s t := by
  obtain ⟨pending, startup, clock, -, store, evac, occupancy, joinTimer, handedOver, contacts, pins, sampleAt, roundAt, budget, monitor,
    testStep, -, -⟩ := h
  exact ⟨pending, startup, clock, store, evac, occupancy, joinTimer, handedOver, contacts, pins, sampleAt, roundAt, budget, monitor,
    testStep⟩

/-- An empty LIVE_CLOSE that reaches its owner is the queue's `liveClose` on the state in which the frame was taken. -/
theorem exec_liveClose {dst src : Byte} {s : State} (h : s.Reaches .liveClose dst src) :
    exec (.liveClose dst src []) s = .next (s.taken.liveClose src.toNat) := by
  calc exec (.liveClose dst src []) s = execLiveClose dst src [] s := rfl
    _ = .next (s.receive .liveClose dst src (readEmpty []) fun s _ => s.liveClose src.toNat) := run_awake h.awake _
    _ = .next (s.taken.liveClose src.toNat) := congrArg _ (receive_reaches _ _ h)

theorem liveClose_of_chanOfKey {s : State} {desk : Nat} {c : ChanId} (h : s.chanOfKey (.live desk) = some c) :
    s.liveClose desk = s.enterTail c .done := by
  simp only [State.liveClose, h]

theorem liveClose_of_entryOf {s : State} {desk : Nat} (hnone : s.chanOfKey (.live desk) = none)
    (hentry : (s.entryOf (.live desk)).isSome = true) : s.liveClose desk = s.removeEntry (.live desk) .stopped := by
  simp only [State.liveClose, hnone, hentry, if_true]

/-- Settles O38: on the desk's channel LIVE_CLOSE is an entry to TAIL as DONE, or nothing when there already; on a waiting entry it is a
removal as STOPPED. -/
theorem liveClosed : Obligations.LiveClosed := by
  unfold Obligations.LiveClosed
  rintro dst src _ s hreach rfl
  rw [exec_liveClose hreach]
  refine ⟨fun c i hkey hchan => ?_, fun hnone hentry => ?_⟩
  · have hclose : s.taken.liveClose src.toNat = s.taken.enterTail c .done := liveClose_of_chanOfKey hkey
    have hchan' : s.taken.chan c = some i := hchan
    rw [hclose]
    refine ⟨fun htail => by rw [enterTail_of_tail .done hchan' htail], fun htail houtcome => ?_⟩
    have hdone : (i.ended .done s.taken.now).outcome = some .done := by simp [ChanInst.ended, houtcome]
    have hkeeps : Keeps s.taken (s.taken.enterTail c .done) := keeps_enterTail _ _ _
    exact ⟨_, _, rfl, chan_enterTail_self .done hchan' htail, rfl, hdone, rfl, claimOf_enterTail_self .done hchan' htail,
      fun d hd => ⟨chan_enterTail_of_ne .done hchan' htail hd, claimOf_enterTail_of_ne .done hchan' htail hd⟩,
      zones_enterTail .done hchan' htail, queue_enterTail .done hchan' htail, hkeeps.calls, undisturbed_of_keeps hkeeps⟩
  · have hclose : s.taken.liveClose src.toNat = s.taken.removeEntry (.live src.toNat) .stopped := liveClose_of_entryOf hnone hentry
    have htaken : s.taken.counters[(9 : Fin 16)] = s.counters[(9 : Fin 16)] := count_other s.goodFrame .rxGood 9 (by decide)
    have hcount := counter_removeEntry s.taken (.live src.toNat) .stopped (by decide)
    rw [hclose]
    exact ⟨_, rfl, entries_removeEntry _ _ _, hcount.trans (congrArg satInc htaken), removeEntry_frame s.taken _ _⟩

end Sys2Proof.Proofs.LiveClose
end

section
/-! The ambient average (R147): the table of a GOOD gate and its bounds, what a complete gate writes, what the beginning and the discarding
of gates leave alone, and the statement of the family. -/

namespace Sys2Proof.Proofs.Ambient

open Sys2Proof.Machine

/-! ### The table of R147 -/

theorem newAmbient_of_lt {a m : Nat} (hrise : a < m) : newAmbient a m = a + (m - a + 1) / 2 := if_pos hrise

theorem newAmbient_of_gt {a m : Nat} (hfall : m < a) : newAmbient a m = a - max 1 ((a - m) / 8) := by
  simp only [newAmbient, if_neg hfall.asymm, if_pos hfall]

theorem newAmbient_self (a : Nat) : newAmbient a a = a := by
  simp only [newAmbient, lt_irrefl, if_false]

/-- The average never passes the measurement: half of a rise, rounded up, is at most the rise, and a fall, which is at least 1, is at least
its own eighth and the step of 1. -/
theorem newAmbient_mem_between (a m : Nat) : min a m ≤ newAmbient a m ∧ newAmbient a m ≤ max a m := by
  obtain hrise | rfl | hfall := lt_trichotomy a m
  · rw [newAmbient_of_lt hrise]
    omega
  · rw [newAmbient_self, min_self, max_self]
    exact ⟨le_rfl, le_rfl⟩
  · rw [newAmbient_of_gt hfall]
    omega

theorem newAmbient_mem_of_mem {a m lo hi : Nat} (ha : lo ≤ a ∧ a ≤ hi) (hm : lo ≤ m ∧ m ≤ hi) :
    lo ≤ newAmbient a m ∧ newAmbient a m ≤ hi := by
  obtain ⟨hlow, hhigh⟩ := newAmbient_mem_between a m
  exact ⟨(le_min ha.1 hm.1).trans hlow, hhigh.trans (max_le ha.2 hm.2)⟩

/-- A GOOD gate measures a level that the average may take (R145). -/
theorem measured_mem_of_good {o : Bool} {n w : Nat} (hgood : gateClass o n w = .good) : 120 ≤ measured n w ∧ measured n w ≤ 520 := by
  refine ⟨Nat.le_add_right _ _, ?_⟩
  by_contra hloud
  have hhigh : 520 < measured n w := not_le.mp hloud
  simp only [gateClass, if_pos hhigh] at hgood
  split_ifs at hgood

/-! ### A complete gate -/

@[simp] theorem levels_pump (s : State) : s.pump.levels = s.levels := by
  unfold State.pump
  rw [(LiveClose.offersOnly_pumpN 16 s).frame]

@[simp] theorem levels_raise (s : State) (k : FaultKind) (subject : Option Nat) : (s.raise k subject).levels = s.levels := by
  unfold State.raise State.raiseAs
  split
  · exact levels_pump _
  · exact count_levels s _

@[simp] theorem levels_clear (s : State) (k : FaultKind) (subject : Option Nat) : (s.clear k subject).levels = s.levels :=
  levels_pump _

/-- The condition of a sensor fault is the fault table's and the link's alone. -/
theorem levels_sensorCondition (s : State) (z : ZoneId) (old new : SensorFault) : (s.sensorCondition z old new).levels = s.levels := by
  unfold State.sensorCondition
  split
  · rfl
  · cases old <;> cases new <;> simp

theorem level_sensorCondition (s : State) (z y : ZoneId) (old new : SensorFault) :
    (s.sensorCondition z old new).level y = s.level y := by
  unfold State.level
  rw [levels_sensorCondition]

theorem level_judgeGate_of_ne (s : State) {z y : ZoneId} (g : Gate) (hne : y ≠ z) : (s.judgeGate z g).level y = s.level y :=
  (level_sensorCondition _ _ _ _ _).trans (level_setLevel_of_ne _ _ _ _ hne.symm)

section
variable {s : State} {z : ZoneId} (g : Gate) (hgood : gateClass (s.level z).overflow (s.level z).count s.cfg.gateLength = .good)
include hgood

theorem ambient_judgeGate_of_good :
    ((s.judgeGate z g).level z).ambient = newAmbient (s.level z).ambient (measured (s.level z).count s.cfg.gateLength) := by
  simp only [State.judgeGate, level_sensorCondition, level_setLevel_self, hgood, if_true]

theorem lastUpdate_judgeGate_of_good : ((s.judgeGate z g).level z).lastUpdate = g.endAt := by
  simp only [State.judgeGate, level_sensorCondition, level_setLevel_self, hgood, if_true]

end

/-! ### The gates at the end of the event (R143, R144) -/

/-- From `s` to `t` no zone's ambient average and no last update changes. -/
structure KeepsAverages (s t : State) : Prop where
  ambient : ∀ y : ZoneId, (t.level y).ambient = (s.level y).ambient
  lastUpdate : ∀ y : ZoneId, (t.level y).lastUpdate = (s.level y).lastUpdate

namespace KeepsAverages

theorem refl (s : State) : KeepsAverages s s := ⟨fun _ => rfl, fun _ => rfl⟩

theorem trans {s t u : State} (h : KeepsAverages s t) (k : KeepsAverages t u) : KeepsAverages s u :=
  ⟨fun y => (k.ambient y).trans (h.ambient y), fun y => (k.lastUpdate y).trans (h.lastUpdate y)⟩

end KeepsAverages

theorem keepsAverages_setLevel (s : State) (z : ZoneId) {f : Level → Level} (hambient : ∀ l, (f l).ambient = l.ambient)
    (hlast : ∀ l, (f l).lastUpdate = l.lastUpdate) : KeepsAverages s (s.setLevel z f) := by
  refine ⟨fun y => ?_, fun y => ?_⟩ <;> obtain rfl | hne := eq_or_ne z y
  · rw [level_setLevel_self, hambient]
  · rw [level_setLevel_of_ne _ _ _ _ hne]
  · rw [level_setLevel_self, hlast]
  · rw [level_setLevel_of_ne _ _ _ _ hne]

theorem keepsAverages_ite_setLevel (s : State) (z : ZoneId) (c : Prop) [Decidable c] {f : Level → Level}
    (hambient : ∀ l, (f l).ambient = l.ambient) (hlast : ∀ l, (f l).lastUpdate = l.lastUpdate) :
    KeepsAverages s (if c then s.setLevel z f else s) := by
  split
  · exact keepsAverages_setLevel s z hambient hlast
  · exact KeepsAverages.refl s

/-- A gate that is discarded and a gate that begins write the counter and the gate alone. -/
theorem keepsAverages_settleGate (s : State) (z : ZoneId) : KeepsAverages s (s.settleGate z) := by
  unfold State.settleGate
  refine KeepsAverages.trans ?discarded (keepsAverages_ite_setLevel _ z _ ?_ ?_)
  case discarded => refine keepsAverages_ite_setLevel s z _ ?_ ?_ <;> exact fun _ => rfl
  all_goals exact fun _ => rfl

theorem keepsAverages_settleGates (s : State) : KeepsAverages s s.settleGates :=
  List.foldlRecOn allZones State.settleGate (KeepsAverages.refl s) fun t h z _ => h.trans (keepsAverages_settleGate t z)

/-! ### GATE_END -/

/-- GATE_END at a zone with a running gate judges it at its end time, and then gates may begin. -/
theorem exec_gateEnd {s : State} {z : ZoneId} {g : Gate} (hawake : s.Awake) (hgate : (s.level z).gate = some g) :
    exec (.gateEnd z) s = .next ((s.advanceTo g.endAt).judgeGate z g).settleGates := by
  have hover : s.gateOver z = ((s.advanceTo g.endAt).judgeGate z g).settleGates := by
    simp only [State.gateOver, hgate]
  calc exec (.gateEnd z) s = execGateEnd z s := rfl
    _ = .next (s.gateOver z) := run_awake hawake _
    _ = .next ((s.advanceTo g.endAt).judgeGate z g).settleGates := congrArg _ hover

/-- Settles O50: the table of R147 by its three cases; at GATE_END the judged gate alone writes an average, and both the old average and a
GOOD measurement lie in 120..520. -/
theorem ambientFollowsGoodGate : Obligations.AmbientFollowsGoodGate := by
  unfold Obligations.AmbientFollowsGoodGate
  refine ⟨fun a m => ⟨newAmbient_of_lt, newAmbient_of_gt, ?_, newAmbient_mem_between a m⟩, fun s z g hawake hgate hgood => ?_⟩
  · rintro rfl
    exact newAmbient_self _
  · have hkeeps := keepsAverages_settleGates ((s.advanceTo g.endAt).judgeGate z g)
    have hgood' : gateClass ((s.advanceTo g.endAt).level z).overflow ((s.advanceTo g.endAt).level z).count
        (s.advanceTo g.endAt).cfg.gateLength = .good := hgood
    have hambient := (hkeeps.ambient z).trans (ambient_judgeGate_of_good g hgood')
    have hlast := (hkeeps.lastUpdate z).trans (lastUpdate_judgeGate_of_good g hgood')
    have hothers (y : ZoneId) (hne : y ≠ z) := (hkeeps.ambient y).trans (congrArg Level.ambient (level_judgeGate_of_ne _ g hne))
    refine ⟨_, exec_gateEnd hawake hgate, hambient, hlast, hothers, fun hbounds => ?_⟩
    rw [hambient]
    exact newAmbient_mem_of_mem (hbounds z) (measured_mem_of_good hgood)

end Sys2Proof.Proofs.Ambient
end

section
/-! The fault table and the frames that carry its reports (R171 to R177): what `find` gives, what a write of a slot changes, that offering
reports leaves every record, and that no operation of the table puts two records of one key in it. -/

namespace Sys2Proof.Proofs.Faults

open Sys2Proof.Machine
open Sys2Proof.Proofs.LiveClose

/-! ### Frames offered leave the table -/

@[simp] theorem faults_txInsert (s : State) (f : TxFrame) : (s.txInsert f).faults = s.faults := by
  unfold State.txInsert
  split
  · rfl
  · split <;> rfl

@[simp] theorem faults_txOffer (s : State) (f : TxFrame) : (s.txOffer f).faults = s.faults := by
  unfold State.txOffer
  split
  · split
    · unfold State.txClaim
      split
      · rfl
      · exact faults_txInsert s f
    · unfold State.txRelease
      split
      · exact faults_txInsert s f
      · split
        · exact faults_txInsert _ f
        · dsimp only
          split
          · rfl
          · exact faults_txInsert _ f
    · unfold State.txEvacStart
      split
      · rfl
      · exact faults_txInsert s f
    · exact faults_txInsert s f
  · rfl

/-! ### Slots -/

theorem mem_allSlots (i : Fin 16) : i ∈ allSlots := by
  revert i
  decide

theorem write_slot_self (t : FaultTable) (i : Fin 16) (r : Option FaultRecord) :
    (t.write i r).slots[i] = { t.slots[i] with record := r, reportPending := true } := by
  simp [FaultTable.write]

theorem write_slot_of_ne (t : FaultTable) {i j : Fin 16} (r : Option FaultRecord) (h : j ≠ i) :
    (t.write i r).slots[j] = t.slots[j] := by
  have hval : i.val ≠ j.val := fun e => h (Fin.ext e.symm)
  simp [FaultTable.write, hval]

@[simp] theorem write_testStep (t : FaultTable) (i : Fin 16) (r : Option FaultRecord) : (t.write i r).testStep = t.testStep := rfl

/-! ### The slot of a key -/

theorem hasKey_iff (r : FaultRecord) (k : FaultKind) (subject : Option Nat) (sim : Bool) :
    r.hasKey k subject sim = true ↔ r.kind = k ∧ r.subject = subject ∧ r.simulated = sim := by
  simp [FaultRecord.hasKey, and_assoc]

theorem record_of_find {t : FaultTable} {k : FaultKind} {subject : Option Nat} {sim : Bool} {i : Fin 16}
    (h : t.find k subject sim = some i) :
    ∃ r, (t.slots[i]).record = some r ∧ r.kind = k ∧ r.subject = subject ∧ r.simulated = sim := by
  have hkey := List.find?_some h
  cases hr : (t.slots[i]).record with
  | none =>
    rw [hr] at hkey
    cases hkey
  | some r =>
    rw [hr] at hkey
    exact ⟨r, rfl, (hasKey_iff _ _ _ _).mp hkey⟩

theorem not_key_of_find_none {t : FaultTable} {k : FaultKind} {subject : Option Nat} {sim : Bool}
    (h : t.find k subject sim = none) (i : Fin 16) {r : FaultRecord} (hr : (t.slots[i]).record = some r) :
    ¬(r.kind = k ∧ r.subject = subject ∧ r.simulated = sim) := by
  intro hk
  have hn := List.find?_eq_none.mp h i (mem_allSlots i)
  rw [hr] at hn
  exact hn ((hasKey_iff _ _ _ _).mpr hk)

/-! ### Offering reports -/

@[simp] theorem report_record (s : State) (i j : Fin 16) :
    ((s.report i).faults.slots[j]).record = (s.faults.slots[j]).record := by
  unfold State.report
  rw [faults_txOffer]
  by_cases h : i.val = j.val
  · simp [h]
  · simp [h]

@[simp] theorem pumpN_record (n : Nat) (s : State) (j : Fin 16) :
    ((pumpN n s).faults.slots[j]).record = (s.faults.slots[j]).record := by
  induction n generalizing s with
  | zero => rfl
  | succ n ih =>
    unfold pumpN
    split
    · obtain hnone | ⟨i, hsome⟩ := Option.eq_none_or_eq_some s.faults.firstMarked
      · simp only [hnone]
      · simp only [hsome]
        exact (ih _).trans (report_record s i j)
    · rfl

@[simp] theorem pump_record (s : State) (j : Fin 16) : (s.pump.faults.slots[j]).record = (s.faults.slots[j]).record :=
  pumpN_record 16 s j

@[simp] theorem offer_record (s : State) (f : TxFrame) (j : Fin 16) :
    ((s.offer f).faults.slots[j]).record = (s.faults.slots[j]).record := by
  unfold State.offer
  rw [pump_record, faults_txOffer]

/-! ### Keys stay apart (R171, R173) -/

/-- Every record of `u` has the key of the record that its slot held in `t`. -/
def KeysFrom (t u : FaultTable) : Prop :=
  ∀ (i : Fin 16) (r : FaultRecord), (u.slots[i]).record = some r →
    ∃ q, (t.slots[i]).record = some q ∧ r.kind = q.kind ∧ r.subject = q.subject ∧ r.simulated = q.simulated

theorem faultsDistinct_of_keysFrom {s t : State} (hkeys : KeysFrom s.faults t.faults) (h : s.FaultsDistinct) : t.FaultsDistinct := by
  intro i j a b ha hb hkind hsubject hsim
  obtain ⟨a', ha', ak, as, asim⟩ := hkeys i a ha
  obtain ⟨b', hb', bk, bs, bsim⟩ := hkeys j b hb
  exact h i j a' b' ha' hb' (by rw [← ak, ← bk, hkind]) (by rw [← as, ← bs, hsubject]) (by rw [← asim, ← bsim, hsim])

theorem keysFrom_of_record_eq {t u : FaultTable} (h : ∀ i : Fin 16, (u.slots[i]).record = (t.slots[i]).record) : KeysFrom t u :=
  fun i r hr => ⟨r, (h i).symm.trans hr, rfl, rfl, rfl⟩

theorem faultsDistinct_of_record_eq {s t : State} (h : ∀ i : Fin 16, (t.faults.slots[i]).record = (s.faults.slots[i]).record)
    (hd : s.FaultsDistinct) : t.FaultsDistinct := faultsDistinct_of_keysFrom (keysFrom_of_record_eq h) hd

theorem keysFrom_write {t : FaultTable} {i : Fin 16} {q : FaultRecord} {r : Option FaultRecord} (hq : (t.slots[i]).record = some q)
    (hr : ∀ x, r = some x → x.kind = q.kind ∧ x.subject = q.subject ∧ x.simulated = q.simulated) : KeysFrom t (t.write i r) := by
  intro j x hx
  by_cases h : j = i
  · subst h
    rw [write_slot_self] at hx
    exact ⟨q, hq, hr x hx⟩
  · rw [write_slot_of_ne t r h] at hx
    exact ⟨x, hx, rfl, rfl, rfl⟩

theorem keysFrom_refl (t : FaultTable) : KeysFrom t t := keysFrom_of_record_eq fun _ => rfl

theorem keysFrom_trans {t u v : FaultTable} (h : KeysFrom t u) (k : KeysFrom u v) : KeysFrom t v := by
  intro i r hr
  obtain ⟨q, hq, a, b, c⟩ := k i r hr
  obtain ⟨p, hp, a', b', c'⟩ := h i q hq
  exact ⟨p, hp, a.trans a', b.trans b', c.trans c'⟩

theorem keysFrom_clear (t : FaultTable) (k : FaultKind) (subject : Option Nat) (stamp : Option Stamp) (now : Nat) :
    KeysFrom t (t.clear k subject stamp now) := by
  unfold FaultTable.clear
  split
  · split
    next r hr =>
      split
      · exact keysFrom_write hr fun x hx => by cases hx; exact ⟨rfl, rfl, rfl⟩
      · exact keysFrom_refl t
    · exact keysFrom_refl t
  · exact keysFrom_refl t

theorem keysFrom_ack (t : FaultTable) (i : Fin 16) (g : Nat) : KeysFrom t (t.ack i g) := by
  unfold FaultTable.ack
  split
  · exact keysFrom_refl t
  next r hr =>
    split
    · split
      · exact keysFrom_write hr fun x hx => by cases hx; exact ⟨rfl, rfl, rfl⟩
      · exact keysFrom_refl t
      · exact keysFrom_write hr fun x hx => by cases hx
    · refine keysFrom_of_record_eq fun j => ?_
      by_cases h : i.val = j.val <;> simp [h]

theorem keysFrom_freeSimulated (t : FaultTable) : KeysFrom t t.freeSimulated := by
  unfold FaultTable.freeSimulated
  split
  next i h =>
    have hany := List.find?_some h
    cases hr : (t.slots[i]).record with
    | none => rw [hr] at hany; simp at hany
    | some r => exact keysFrom_write hr fun x hx => by cases hx
  · exact keysFrom_refl t

@[simp] theorem markAll_record (t : FaultTable) (i : Fin 16) : (t.markAll.slots[i]).record = (t.slots[i]).record := by
  simp only [FaultTable.markAll, Fin.getElem_fin, Vector.getElem_mk, List.getElem_toArray, List.getElem_map, Vector.getElem_toList]
  split <;> rfl

theorem warm_slot (t : FaultTable) (i : Fin 16) :
    t.warm.slots[i] = { record := (t.slots[i]).record.filter fun r => !r.simulated, reportPending := false, staleAck := false } := by
  simp [FaultTable.warm]

theorem keysFrom_warm (t : FaultTable) : KeysFrom t t.warm := by
  intro i r hr
  rw [warm_slot] at hr
  exact ⟨r, (Option.filter_eq_some_iff.mp hr).1, rfl, rfl, rfl⟩

/-- A raise is dropped, or writes one slot with a record of its key: the one that holds the key already, or, where none does, one that it
takes for a new record (R173, R174). -/
theorem raise_cases (t : FaultTable) (k : FaultKind) (subject : Option Nat) (sim : Bool) (stamp : Option Stamp) (now : Nat) :
    (∃ i r, t.find k subject sim = some i ∧ (t.slots[i]).record = some r
      ∧ t.raise k subject sim stamp now = some (t.write i (some (r.raised stamp now))))
    ∨ (t.find k subject sim = none ∧ ∃ i, t.place k.isMajor = some i
      ∧ t.raise k subject sim stamp now = some (t.write i (some ((FaultRecord.new k subject sim stamp).raised stamp now))))
    ∨ (t.find k subject sim = none ∧ t.place k.isMajor = none ∧ t.raise k subject sim stamp now = none) := by
  unfold FaultTable.raise
  cases hfind : t.find k subject sim with
  | some i =>
    obtain ⟨r, hr, -⟩ := record_of_find hfind
    exact .inl ⟨i, r, rfl, hr, by simp only [hr, Option.map_some]⟩
  | none =>
    cases hplace : t.place k.isMajor with
    | some i => exact .inr (.inl ⟨rfl, i, rfl, rfl⟩)
    | none => exact .inr (.inr ⟨rfl, rfl, rfl⟩)

theorem faultsDistinct_raise {s : State} {u : FaultTable} {k : FaultKind} {subject : Option Nat} {sim : Bool} {stamp : Option Stamp}
    {now : Nat} (h : s.faults.raise k subject sim stamp now = some u) (hd : s.FaultsDistinct) :
    State.FaultsDistinct { s with faults := u } := by
  obtain ⟨i, r, -, hr, hu⟩ | ⟨hfind, i, -, hu⟩ | ⟨-, -, hu⟩ := raise_cases s.faults k subject sim stamp now
  · obtain rfl := Option.some.inj (hu.symm.trans h)
    exact faultsDistinct_of_keysFrom (keysFrom_write hr fun x hx => by cases hx; exact ⟨rfl, rfl, rfl⟩) hd
  · obtain rfl := Option.some.inj (hu.symm.trans h)
    -- a record in another slot has another key, for none of the table had the key of the new one
    have hother (j : Fin 16) (x : FaultRecord) (hj : j ≠ i)
        (hx : ((s.faults.write i (some ((FaultRecord.new k subject sim stamp).raised stamp now))).slots[j]).record = some x) :
        ¬(x.kind = k ∧ x.subject = subject ∧ x.simulated = sim) := by
      rw [write_slot_of_ne _ _ hj] at hx
      exact not_key_of_find_none hfind j hx
    intro j l a b ha hb hkind hsubject hsim
    by_cases hj : j = i <;> by_cases hl : l = i
    · exact hj.trans hl.symm
    · subst hj
      rw [write_slot_self] at ha
      cases ha
      exact absurd ⟨hkind.symm, hsubject.symm, hsim.symm⟩ (hother l b hl hb)
    · subst hl
      rw [write_slot_self] at hb
      cases hb
      exact absurd ⟨hkind, hsubject, hsim⟩ (hother j a hj ha)
    · rw [write_slot_of_ne _ _ hj] at ha
      rw [write_slot_of_ne _ _ hl] at hb
      exact hd j l a b ha hb hkind hsubject hsim
  · cases hu.symm.trans h

end Sys2Proof.Proofs.Faults
end

section
/-! What the operations that dispatch nothing and move no zone keep: beside the frame `Keeps`, the keys of the fault table, the waiting
entries, the zones' states, the instances' keys, and that an own claim record stands with an instance before TAIL (R107). -/

namespace Sys2Proof.Proofs.Upkeep

open Sys2Proof.Machine
open Sys2Proof.Proofs.LiveClose Sys2Proof.Proofs.Faults

/-- An own claim record stands only with an instance before TAIL (R107): the last part of `State.OwnersAgree`. -/
def ClaimsStand (s : State) : Prop := ∀ (c : ChanId) (r : OwnClaim), s.claimOf c = some r → ∃ i, s.chan c = some i ∧ i.state ≠ .tail

/-- From `s` to `t` nothing was dispatched and no zone changed its state: the frame of the shared operations, no two fault records of one key
made, no entry put in the queue, and every channel with the instance of the key that it had, or FREE as it was. -/
structure Calm (s t : State) : Prop where
  keeps : Keeps s t
  faults : s.FaultsDistinct → t.FaultsDistinct
  entries : t.queue.entries.Sublist s.queue.entries
  zone : ∀ z : ZoneId, (t.zone z).present = (s.zone z).present ∧ (t.zone z).state = (s.zone z).state
  key : ∀ c : ChanId, (t.chan c).map ChanInst.key = (s.chan c).map ChanInst.key
  claims : ClaimsStand s → ClaimsStand t

namespace Calm

theorem refl (s : State) : Calm s s := ⟨Keeps.refl s, id, List.Sublist.refl _, fun _ => ⟨rfl, rfl⟩, fun _ => rfl, id⟩

theorem trans {s t u : State} (h : Calm s t) (k : Calm t u) : Calm s u where
  keeps := h.keeps.trans k.keeps
  faults := k.faults ∘ h.faults
  entries := k.entries.trans h.entries
  zone z := ⟨(k.zone z).1.trans (h.zone z).1, (k.zone z).2.trans (h.zone z).2⟩
  key c := (k.key c).trans (h.key c)
  claims := k.claims ∘ h.claims

/-- Composition with the later operation first, by which the state between is known. -/
theorem after {s t u : State} (k : Calm t u) (h : Calm s t) : Calm s u := h.trans k

theorem ite {s t u : State} {p : Prop} [Decidable p] (h : Calm s t) (k : Calm s u) : Calm s (if p then t else u) := by
  split
  · exact h
  · exact k

theorem foldl {α : Type} {f : State → α → State} (hf : ∀ s a, Calm s (f s a)) (l : List α) (s : State) : Calm s (l.foldl f s) :=
  List.foldlRecOn l f (refl s) fun t h a _ => h.trans (hf t a)

theorem chan_isSome {s t : State} (h : Calm s t) (c : ChanId) : (t.chan c).isSome = (s.chan c).isSome := by
  have hkey := congrArg Option.isSome (h.key c)
  simpa using hkey

theorem key_of_chan {s t : State} (h : Calm s t) {c : ChanId} {i : ChanInst} (hi : t.chan c = some i) :
    ∃ j, s.chan c = some j ∧ j.key = i.key := by
  have hkey := h.key c
  rw [hi] at hkey
  obtain ⟨j, hj, hjk⟩ := Option.map_eq_some_iff.mp hkey.symm
  exact ⟨j, hj, hjk⟩

end Calm

/-! ### Updates -/

/-- An update of parts that no instance, zone, claim record, entry or fault record belongs to. -/
theorem calm_of_eq {s t : State} (hkeeps : Keeps s t) (hfaults : t.faults = s.faults) (hentries : t.queue.entries = s.queue.entries)
    (hzones : t.zones = s.zones) (hchans : t.chans = s.chans) (hown : t.claims.own = s.claims.own) : Calm s t := by
  have hchan : t.chan = s.chan := by unfold State.chan; rw [hchans]
  have hclaim : t.claimOf = s.claimOf := by unfold State.claimOf; rw [hown]
  have hzone : t.zone = s.zone := by unfold State.zone; rw [hzones]
  refine ⟨hkeeps, fun h => ?_, by rw [hentries], fun z => by rw [hzone]; exact ⟨rfl, rfl⟩, fun c => by rw [hchan], fun h => ?_⟩
  · unfold State.FaultsDistinct
    rw [hfaults]
    exact h
  · unfold ClaimsStand
    rw [hchan, hclaim]
    exact h

theorem calm_of_offersOnly {s t : State} (hkeeps : Keeps s t) (h : OffersOnly s t) (hfaults : s.FaultsDistinct → t.FaultsDistinct) :
    Calm s t where
  keeps := hkeeps
  faults := hfaults
  entries := by rw [h.queue]
  zone z := by unfold State.zone; rw [h.zones]; exact ⟨rfl, rfl⟩
  key c := by rw [h.chan c]
  claims hs c r hr := by
    rw [h.claimOf c] at hr
    rw [h.chan c]
    exact hs c r hr

theorem calm_setZone (s : State) (z : ZoneId) {f : Zone → Zone} (hpresent : (f (s.zone z)).present = (s.zone z).present)
    (hstate : (f (s.zone z)).state = (s.zone z).state) : Calm s (s.setZone z f) := by
  refine ⟨keeps_setZone s z f, id, List.Sublist.refl _, fun y => ?_, fun _ => rfl, id⟩
  obtain rfl | hne := eq_or_ne z y
  · rw [zone_setZone_self]
    exact ⟨hpresent, hstate⟩
  · rw [zone_setZone_of_ne s z y f hne]
    exact ⟨rfl, rfl⟩

theorem calm_setLevel (s : State) (z : ZoneId) (f : Level → Level) : Calm s (s.setLevel z f) :=
  calm_of_eq (keeps_setLevel s z f) rfl rfl rfl rfl rfl

theorem calm_setLine (s : State) (z : ZoneId) (f : Line → Line) : Calm s (s.setLine z f) :=
  calm_of_eq (keeps_setLine s z f) rfl rfl rfl rfl rfl

theorem calm_setScan (s : State) {f : Scan → Scan} (hf : (f s.sup.scan).roundAt = s.sup.scan.roundAt) : Calm s (s.setScan f) :=
  calm_of_eq (keeps_scan s f hf) rfl rfl rfl rfl rfl

/-- A channel's instance changed: its key stays, and it enters TAIL only where the channel has no own claim record. -/
theorem calm_setChan (s : State) (c : ChanId) {i j : ChanInst} (hchan : s.chan c = some i) (hkey : j.key = i.key)
    (hstate : j.state = .tail → i.state = .tail) : Calm s (s.setChan c (some j)) := by
  refine ⟨keeps_setChan s c _, id, List.Sublist.refl _, fun _ => ⟨rfl, rfl⟩, fun d => ?_, fun h d r hr => ?_⟩ <;>
    obtain rfl | hne := eq_or_ne c d
  · rw [chan_setChan_self, hchan, Option.map_some, Option.map_some, hkey]
  · rw [chan_setChan_of_ne s c d _ hne]
  · obtain ⟨k, hk, hlive⟩ := h c r hr
    obtain rfl := Option.some.inj (hchan.symm.trans hk)
    exact ⟨j, chan_setChan_self s c _, fun ht => hlive (hstate ht)⟩
  · rw [chan_setChan_of_ne s c d _ hne]
    exact h d r hr

theorem setChan_eq_self {s : State} {c : ChanId} {o : Option ChanInst} (h : s.chan c = o) : s.setChan c o = s := by
  subst h
  simp [State.setChan, State.chan]

theorem calm_updChan (s : State) (c : ChanId) {f : ChanInst → ChanInst} (hkey : ∀ i, (f i).key = i.key)
    (hstate : ∀ i, (f i).state = .tail → i.state = .tail) : Calm s (s.updChan c f) := by
  unfold State.updChan
  cases h : s.chan c with
  | none => rw [Option.map_none, setChan_eq_self h]; exact Calm.refl s
  | some i => exact calm_setChan s c h (hkey i) (hstate i)

/-- A claim record changed or removed, or made for a channel that has an instance before TAIL. -/
theorem calm_setClaim (s : State) (c : ChanId) {o : Option OwnClaim}
    (ho : ∀ r, o = some r → (s.claimOf c).isSome = true ∨ ∃ i, s.chan c = some i ∧ i.state ≠ .tail) : Calm s (s.setClaim c o) := by
  refine ⟨keeps_setClaim s c o, id, List.Sublist.refl _, fun _ => ⟨rfl, rfl⟩, fun _ => rfl, fun h d r hr => ?_⟩
  obtain rfl | hne := eq_or_ne c d
  · rw [claimOf_setClaim_self] at hr
    obtain hsome | hchan := ho r hr
    · obtain ⟨q, hq⟩ := Option.isSome_iff_exists.mp hsome
      exact h c q hq
    · exact hchan
  · rw [claimOf_setClaim_of_ne s c d o hne] at hr
    exact h d r hr

theorem calm_setClaim_none (s : State) (c : ChanId) : Calm s (s.setClaim c none) := calm_setClaim s c fun _ h => nomatch h

theorem calm_setClaim_some {s : State} {c : ChanId} {q : OwnClaim} (hq : s.claimOf c = some q) (r : OwnClaim) :
    Calm s (s.setClaim c (some r)) := calm_setClaim s c fun _ _ => .inl (by rw [hq]; rfl)

theorem calm_setCont (s : State) (c : ChanId) (k : Option Continuation) : Calm s (s.setCont c k) :=
  calm_of_eq (keeps_setCont s c k) rfl rfl rfl rfl rfl

theorem calm_disown (s : State) (c : ChanId) : Calm s (s.disown c) := calm_of_eq (keeps_disown s c) rfl rfl rfl rfl rfl

theorem calm_endTransaction (s : State) : Calm s s.endTransaction := calm_of_eq (keeps_endTransaction s) rfl rfl rfl rfl rfl

theorem calm_tookTag (s : State) : Calm s s.tookTag := calm_of_eq (keeps_tookTag s) rfl rfl rfl rfl rfl

theorem calm_count (s : State) (k : Counter) : Calm s (s.count k) := calm_of_eq (keeps_count s k) rfl rfl rfl rfl rfl

theorem calm_walkedAt (s : State) (n : Nat) : Calm s { s with queue := { s.queue with walkedAt := n } } :=
  calm_of_eq (keeps_walkedAt s n) rfl rfl rfl rfl rfl

theorem calm_arbitrate (s : State) : Calm s s.arbitrate := by
  refine calm_of_eq (keeps_arbitrate s) ?_ ?_ ?_ ?_ ?_ <;> unfold State.arbitrate <;> split <;> first | rfl | (split <;> rfl)

/-! ### Frames and faults -/

theorem calm_pump (s : State) : Calm s s.pump :=
  calm_of_offersOnly (keeps_pump s) (offersOnly_pumpN 16 s) (faultsDistinct_of_record_eq (pump_record s))

theorem calm_offer (s : State) (f : TxFrame) (hf : f.sending = false) : Calm s (s.offer f) :=
  calm_of_offersOnly (keeps_offer s f hf) (offersOnly_offer s f) (faultsDistinct_of_record_eq (offer_record s f))

/-- The fault table replaced, and reports offered. -/
theorem calm_faults (s : State) {t : FaultTable} (hstep : t.testStep = s.faults.testStep)
    (hdistinct : s.FaultsDistinct → State.FaultsDistinct { s with faults := t }) : Calm s ({ s with faults := t } : State).pump :=
  Calm.trans (t := { s with faults := t })
    ⟨keeps_faults s t hstep, hdistinct, List.Sublist.refl _, fun _ => ⟨rfl, rfl⟩, fun _ => rfl, id⟩ (calm_pump _)

theorem calm_raiseAs (s : State) (k : FaultKind) (subject : Option Nat) (sim : Bool) : Calm s (s.raiseAs k subject sim) := by
  unfold State.raiseAs
  split
  next t h => exact calm_faults s (raise_testStep h) (faultsDistinct_raise h)
  · exact calm_count s _

theorem calm_raise (s : State) (k : FaultKind) (subject : Option Nat) : Calm s (s.raise k subject) := calm_raiseAs s k subject false

theorem calm_clear (s : State) (k : FaultKind) (subject : Option Nat) : Calm s (s.clear k subject) :=
  calm_faults s (clear_testStep _ _ _ _ _) (faultsDistinct_of_keysFrom (keysFrom_clear _ _ _ _ _))

/-! ### Claims and the entry to TAIL (R107 to R113, R130) -/

theorem calm_offerClaim (s : State) (c : ChanId) : Calm s (s.offerClaim c) := by
  unfold State.offerClaim
  split
  · exact Calm.refl s
  next r hr => exact (calm_setClaim_some hr _).trans (calm_offer _ _ rfl)

theorem calm_makeClaim {s : State} {c : ChanId} {i : ChanInst} (hchan : s.chan c = some i) (hlive : i.state ≠ .tail) (tag cls : Nat)
    (d : Option Nat) : Calm s (s.makeClaim c tag cls d) := by
  unfold State.makeClaim
  dsimp only
  split
  · exact Calm.refl s
  · exact (calm_setClaim s c fun _ _ => .inr ⟨i, hchan, hlive⟩).trans (calm_offerClaim _ _)

theorem calm_establish (s : State) (c : ChanId) : Calm s (s.establish c) := by
  unfold State.establish
  split
  · exact Calm.refl s
  next r hr => exact (calm_setClaim_some hr _).trans (calm_offerClaim _ _)

/-- The channel's record is gone by the end of its entry to TAIL, so an own claim record still stands only with an instance before it. -/
theorem calm_enterTail (s : State) (c : ChanId) (o : Ending) : Calm s (s.enterTail c o) := by
  cases hchan : s.chan c with
  | none => simp only [State.enterTail, hchan]; exact Calm.refl s
  | some i =>
    obtain htail | htail := eq_or_ne i.state .tail
    · rw [enterTail_of_tail o hchan htail]
      exact Calm.refl s
    · have hfaults : s.FaultsDistinct → (s.enterTail c o).FaultsDistinct := by
        simp only [State.enterTail, hchan, if_neg htail, State.dropClaim]
        split
        · exact id
        · exact faultsDistinct_of_record_eq fun i => offer_record _ _ i
      refine ⟨keeps_enterTail s c o, hfaults, by rw [queue_enterTail o hchan htail], fun z => ?_, fun d => ?_, fun h d r hr => ?_⟩
      · unfold State.zone
        rw [zones_enterTail o hchan htail]
        exact ⟨rfl, rfl⟩
      · obtain rfl | hne := eq_or_ne d c
        · rw [chan_enterTail_self o hchan htail, hchan]
          rfl
        · rw [chan_enterTail_of_ne o hchan htail hne]
      · obtain rfl | hne := eq_or_ne d c
        · rw [claimOf_enterTail_self o hchan htail] at hr
          cases hr
        · rw [claimOf_enterTail_of_ne o hchan htail hne] at hr
          rw [chan_enterTail_of_ne o hchan htail hne]
          exact h d r hr

theorem calm_stopInstance (s : State) (c : ChanId) (o : Ending) : Calm s (s.stopInstance c o) := by
  unfold State.stopInstance
  split
  · exact Calm.refl s
  next i hi =>
    have hset : Calm s (s.setChan c (some { i with outcome := some o, stopPending := true })) := calm_setChan s c hi rfl id
    split
    · exact Calm.refl s
    · split
      · exact calm_enterTail s c o
      · exact hset
      · exact calm_enterTail s c o
      · exact hset
      · exact Calm.refl s
      · exact Calm.refl s

/-! ### Gates and line tests (R142 to R147, R164 to R169) -/

theorem calm_settleGate (s : State) (z : ZoneId) : Calm s (s.settleGate z) := by
  unfold State.settleGate
  dsimp only
  split <;> split
  · exact (calm_setLevel s z _).trans (calm_setLevel _ z _)
  · exact calm_setLevel s z _
  · exact calm_setLevel s z _
  · exact Calm.refl s

theorem calm_settleGates (s : State) : Calm s s.settleGates := Calm.foldl calm_settleGate allZones s

theorem calm_fallSilent (s : State) (z : ZoneId) : Calm s (s.fallSilent z) :=
  (calm_setZone s z (f := fun x => { x with lastAudible := some s.now }) rfl rfl).trans (calm_setLevel _ z _)

theorem calm_skipZone (s : State) (z : ZoneId) : Calm s (s.skipZone z) := by
  unfold State.skipZone
  dsimp only
  split
  · exact (calm_setLine s z _).trans (calm_raise _ _ _)
  · exact calm_setLine s z _

theorem calm_skipZones (s : State) (zs : List ZoneId) : Calm s (s.skipZones zs) := Calm.foldl calm_skipZone _ s

theorem calm_abortTest (s : State) (z : ZoneId) : Calm s (s.abortTest z) := by
  unfold State.abortTest
  split
  · exact ((calm_fallSilent s z).trans (calm_setLevel _ z _)).trans (calm_skipZone _ z)
  · exact Calm.refl s

theorem calm_endRound (s : State) : Calm s s.endRound := calm_setScan s rfl

theorem calm_groupEnded (s : State) : Calm s s.groupEnded := by
  have hcase (g : Nat) : Calm s
      (if (s.cfg.groupZones g).any s.inTest then s
        else if (s.cfg.groupsAfter g).isEmpty then s.endRound
        else s.setScan fun x => { x with stage := some .spacing, stageAt := some (s.now + 2000) }) := by
    split
    · exact Calm.refl s
    · split
      · exact calm_endRound s
      · exact calm_setScan s rfl
  unfold State.groupEnded
  split
  · exact hcase _
  · exact hcase _
  · exact Calm.refl s

theorem calm_sensorCondition (s : State) (z : ZoneId) (old new : SensorFault) : Calm s (s.sensorCondition z old new) := by
  unfold State.sensorCondition
  split
  · exact Calm.refl s
  · dsimp only
    split
    · refine (calm_clear _ _ _).after ?_
      split
      · exact calm_raise s _ _
      · exact calm_raise s _ _
      · exact Calm.refl s
    · refine (calm_clear _ _ _).after ?_
      split
      · exact calm_raise s _ _
      · exact calm_raise s _ _
      · exact Calm.refl s
    · split
      · exact calm_raise s _ _
      · exact calm_raise s _ _
      · exact Calm.refl s

theorem calm_judgeGate (s : State) (z : ZoneId) (g : Gate) : Calm s (s.judgeGate z g) :=
  (calm_setLevel s z _).trans (calm_sensorCondition _ z _ _)

theorem calm_lineCondition (s : State) (z : ZoneId) (old new : LineStatus) : Calm s (s.lineCondition z old new) := by
  unfold State.lineCondition
  split
  · exact Calm.refl s
  · dsimp only
    cases old.condition <;> cases new.condition
    · exact Calm.refl s
    · exact calm_raise s _ _
    · exact calm_clear s _ _
    · exact (calm_clear _ _ _).after (calm_raise s _ _)

/-! ### Results, removals and assembly -/

theorem calm_give (s : State) (k : Key) (r : Result) : Calm s (s.give k r) := by
  cases k
  · exact calm_count s _
  · exact (calm_count s _).trans (calm_offer _ _ rfl)
  · exact (calm_count s _).trans (calm_offer _ _ rfl)

theorem calm_dropEntry (s : State) (k : Key) : Calm s (s.dropEntry k) :=
  ⟨keeps_setEntries s _, id, List.filter_sublist, fun _ => ⟨rfl, rfl⟩, fun _ => rfl, id⟩

theorem calm_removeEntry (s : State) (k : Key) (r : Result) : Calm s (s.removeEntry k r) :=
  (calm_dropEntry s k).trans (calm_give _ k r)

theorem calm_assemble {s t : State} {n : Nat} {x : Inputs} {l : Option (List Nat)} (h : s.assemble n x = (t, l)) : Calm s t := by
  unfold State.assemble at h
  split at h <;> cases h
  · exact Calm.refl s
  · exact calm_raise s _ _

theorem calm_words {s t : State} {e : Entry} {l : Option (List Nat)} (h : s.words e = (t, l)) : Calm s t := by
  unfold State.words at h
  split at h
  · cases h
    exact Calm.refl s
  · exact calm_assemble h

/-! ### The channels (R127 to R136, R156) -/

theorem calm_disownChime (s : State) (c : ChanId) : Calm s (s.disownChime c) := by
  unfold State.disownChime
  split
  · split
    · exact calm_disown s c
    · exact Calm.refl s
  · split
    · exact calm_disown s c
    · exact Calm.refl s
  · exact Calm.refl s

theorem calm_choosePlaying (s : State) (c : ChanId) : Calm s (s.choosePlaying c) := by
  unfold State.choosePlaying
  split
  · split
    next h => exact (calm_assemble h).trans (calm_updChan _ c (fun _ => rfl) fun _ => id)
    next h => exact (calm_assemble h).trans (calm_updChan _ c (fun _ => rfl) fun _ => id)
  · exact calm_updChan s c (fun _ => rfl) fun _ => id

theorem calm_startTone (s : State) (c : ChanId) : Calm s (s.startTone c) :=
  Calm.after (calm_updChan _ c (fun _ => rfl) fun _ => id) (calm_disown s c)

theorem calm_startPause (s : State) (c : ChanId) : Calm s (s.startPause c) :=
  (calm_choosePlaying _ c).after (calm_updChan s c (fun _ => rfl) fun _ => id)

theorem calm_thirdGap (s : State) (c : ChanId) (i : ChanInst) (code : Nat) : Calm s (s.thirdGap c i code) := by
  unfold State.thirdGap
  split
  · exact (calm_enterTail s c _).trans (calm_raise _ _ _)
  · split
    · exact (calm_raise _ _ _).after (Calm.after (calm_updChan _ c (fun _ => rfl) fun _ => id) (calm_disownChime s c))
    · exact (calm_startTone s c).trans (calm_raise _ _ _)

theorem calm_nextBlock (s : State) (c : ChanId) (p : Place) (boundary : Bool) : Calm s (s.nextBlock c p boundary) := by
  unfold State.nextBlock
  split
  · exact Calm.refl s
  next i hi =>
    split
    · exact calm_setChan s c hi rfl id
    · have hcount : (s.count .underruns).chan c = some i := hi
      dsimp only
      split
      · exact Calm.after (calm_setChan _ c hcount rfl id) (calm_count s _)
      · exact (calm_thirdGap _ c _ _).after (Calm.after (calm_setChan _ c hcount rfl id) (calm_count s _))

theorem calm_boundary (s : State) (c : ChanId) : Calm s (s.boundary c) := by
  unfold State.boundary
  split
  · exact Calm.refl s
  · split
    · exact calm_enterTail s c _
    · split
      · exact calm_nextBlock s c _ _
      · split
        · split
          · exact calm_startTone s c
          · exact calm_startPause s c
        · exact calm_enterTail s c _

theorem calm_startPlaying (s : State) (c : ChanId) : Calm s (s.startPlaying c) := by
  unfold State.startPlaying
  split
  · exact Calm.refl s
  · dsimp only
    refine Calm.trans (calm_updChan s c (f := fun i => { i with gapCount := 0, evac := i.evac.map fun e => { e with pauseEnd := none } })
      (fun _ => rfl) fun _ => id) ?_
    split
    · exact calm_boundary _ c
    · exact calm_startTone _ c

theorem calm_setGains (s : State) (g : List (ZoneId × Nat)) : Calm s (s.setGains g) := by
  refine Calm.foldl (fun t p => ?_) g s
  exact calm_setZone t p.1 rfl rfl

theorem calm_enterLeadIn (s : State) (c : ChanId) : Calm s (s.enterLeadIn c) := by
  unfold State.enterLeadIn
  split
  · exact Calm.refl s
  next i hi =>
    exact (calm_setGains _ _).after (calm_setChan s c hi rfl fun h => nomatch h)

theorem calm_beginSpeech (s : State) (c : ChanId) : Calm s (s.beginSpeech c) := by
  unfold State.beginSpeech
  split
  · exact Calm.refl s
  next i hi =>
    dsimp only
    split
    · exact (calm_establish _ c).after (calm_setChan s c hi rfl fun h => nomatch h)
    · exact (calm_startPlaying _ c).after ((calm_establish _ c).after (calm_setChan s c hi rfl fun h => nomatch h))
    · exact (calm_boundary _ c).after ((calm_establish _ c).after (calm_setChan s c hi rfl fun h => nomatch h))

theorem calm_judgeHold (s : State) (c : ChanId) : Calm s (s.judgeHold c) := by
  unfold State.judgeHold
  split
  · exact Calm.refl s
  next i hi =>
    split
    · split
      · exact calm_beginSpeech s c
      · split
        · exact calm_setChan s c hi rfl id
        · exact Calm.refl s
      · exact calm_enterTail s c _
      · exact (calm_beginSpeech _ c).after (calm_updChan s c (fun _ => rfl) fun _ => id)
    · exact Calm.refl s

theorem calm_enterHold (s : State) (c : ChanId) : Calm s (s.enterHold c) :=
  (calm_judgeHold _ c).after (calm_updChan s c (fun _ => rfl) fun _ => id)

theorem calm_leadIn (s : State) (c : ChanId) : Calm s (s.leadIn c) := by
  unfold State.leadIn
  split
  · exact Calm.refl s
  next i hi =>
    split
    · split
      · split
        · split
          · exact calm_enterHold s c
          · split
            · exact calm_setChan s c hi rfl id
            · exact Calm.refl s
        · exact Calm.refl s
      · exact Calm.refl s
      · exact calm_judgeHold s c
    · exact Calm.refl s

theorem calm_passWake (s : State) (c : ChanId) (w : Nat) : Calm s (s.passWake c w) :=
  (calm_leadIn _ c).after (calm_updChan s c (fun _ => rfl) fun _ => id)

theorem calm_chimeEnd (s : State) (c : ChanId) (i : ChanInst) : Calm s (s.chimeEnd c i) := by
  unfold State.chimeEnd
  split
  · exact calm_enterTail s c _
  · exact calm_enterHold s c

theorem calm_playOn (s : State) (c : ChanId) : Calm s (s.playOn c) := by
  unfold State.playOn
  split
  · exact Calm.refl s
  · dsimp only
    split
    · split
      · exact (calm_nextBlock s c _ _).trans (calm_judgeHold _ c)
      · exact calm_chimeEnd s c _
    · split
      · exact calm_nextBlock s c _ _
      · exact calm_boundary s c
    · exact Calm.refl s
    · exact Calm.refl s
    · exact Calm.refl s

theorem calm_primeEvac (s : State) (c : ChanId) (i : ChanInst) : Calm s (s.primeEvac c i) := by
  unfold State.primeEvac
  split
  · exact (calm_enterHold _ c).after (Calm.after (calm_updChan _ c (fun _ => rfl) fun _ => id) (calm_disownChime s c))
  · exact (calm_beginSpeech _ c).after (Calm.after (calm_updChan _ c (fun _ => rfl) fun _ => id) (calm_disown s c))

theorem gotDirectory_key (i : ChanInst) (d : DirRead) : (i.gotDirectory d).key = i.key := by
  unfold ChanInst.gotDirectory
  split <;> rfl

theorem gotDirectory_state (i : ChanInst) (d : DirRead) : (i.gotDirectory d).state = i.state := by
  unfold ChanInst.gotDirectory
  split <;> rfl

theorem calm_takeDirectory (s : State) (c : ChanId) (p : Nat) (entry : BitVec 32) : Calm s (s.takeDirectory c p entry) := by
  unfold State.takeDirectory
  split
  · exact Calm.refl s
  next i hi =>
    have hset : Calm s (s.setChan c (some (i.gotDirectory (dirRead p entry)))) :=
      calm_setChan s c hi (gotDirectory_key _ _) fun h => (gotDirectory_state i _).symm.trans h
    dsimp only
    split
    · exact (hset.trans (calm_raise _ _ _)).trans (calm_leadIn _ c)
    · exact hset.trans (calm_leadIn _ c)

theorem calm_directoryDone (s : State) (entry : BitVec 32) : Calm s (s.directoryDone entry) := by
  unfold State.directoryDone
  split
  · split
    · exact ((calm_endTransaction s).trans (calm_takeDirectory _ _ _ _)).trans (calm_arbitrate _)
    · exact (calm_endTransaction s).trans (calm_arbitrate _)
  · exact Calm.refl s

theorem calm_blockDone (s : State) (samples : List (BitVec 16)) : Calm s (s.blockDone samples) := by
  unfold State.blockDone
  split
  · split
    · exact (calm_arbitrate _).after ((calm_leadIn _ _).after
        (Calm.after (calm_updChan _ _ (fun _ => rfl) fun _ => id) (calm_endTransaction s)))
    · exact (calm_endTransaction s).trans (calm_arbitrate _)
  · exact Calm.refl s

/-! ### Node status and crossing claims (R118 to R123, R179) -/

theorem calm_sendStatus (s : State) (dest : Nat) (joining : Bool) : Calm s (s.sendStatus dest joining) := by
  unfold State.sendStatus
  split
  · exact calm_offer s _ rfl
  · exact Calm.refl s

theorem calm_carryOut (s : State) (c : ChanId) (d : Decision) : Calm s (s.carryOut c d) := by
  cases d
  · exact calm_enterTail s c _
  · exact calm_enterTail s c _
  · exact calm_offerClaim s c
  · exact Calm.refl s

theorem calm_judge (s : State) (x : ClaimFields) (src : Nat) (c : ChanId) : Calm s (s.judge x src c) := by
  unfold State.judge
  split
  · exact calm_carryOut s c _
  · exact Calm.refl s

theorem calm_judgeAll (s : State) (x : ClaimFields) (src : Nat) : Calm s (s.judgeAll x src) := by
  unfold State.judgeAll
  have hfold : Calm s (allChans.foldl (fun s c => s.judge x src c) s) := Calm.foldl (fun s c => calm_judge s x src c) _ s
  exact Calm.ite (hfold.trans (calm_count _ _)) hfold

end Sys2Proof.Proofs.Upkeep
end

section
/-! What every operation upholds: the invariants of the statements, one lemma for each operation of the queue, the calls, evacuation and the
line. The dispatch of an entry and the taking of the zones by evacuation, which change owners, have their arguments here. -/

namespace Sys2Proof.Proofs.Uphold

open Sys2Proof.Machine
open Sys2Proof.Proofs.LiveClose Sys2Proof.Proofs.Faults Sys2Proof.Proofs.Upkeep

/-- From `s` to `t` start-up and the waiting commands are as they were, and every invariant but the one on keys stays. -/
structure Sound (s t : State) : Prop where
  pending : t.pending = s.pending
  startup : t.startup = s.startup
  handedOver : t.port.handedOver = s.port.handedOver
  txLegal : s.TxQueueLegal → t.TxQueueLegal
  counters : s.CountersFit → t.CountersFit
  faults : s.FaultsDistinct → t.FaultsDistinct
  testStep : s.TestStepLegal → t.TestStepLegal
  calls : s.CallsFit → t.CallsFit
  entries : s.EntriesFit → t.EntriesFit
  owners : s.StartOrder → s.OwnersAgree → t.OwnersAgree

/-- From `s` to `t` every invariant of the statements stays. -/
structure Upholds (s t : State) : Prop extends Sound s t where
  keys : s.KeysApart → t.KeysApart

theorem startOrder_of_eq {s t : State} (hstartup : t.startup = s.startup) (hport : t.port.handedOver = s.port.handedOver)
    (h : s.StartOrder) : t.StartOrder := by
  obtain ⟨unread, limited, applied, ended, port⟩ := h
  constructor <;> simp only [State.onLink, hstartup, hport] <;> assumption

theorem onLink_of_startup {s t : State} (h : t.startup = s.startup) : t.onLink = s.onLink := by
  unfold State.onLink
  rw [h]

theorem cfg_of_startup {s t : State} (h : t.startup = s.startup) : t.cfg = s.cfg := by
  unfold State.cfg
  rw [h]

namespace Sound

theorem refl (s : State) : Sound s s := ⟨rfl, rfl, rfl, id, id, id, id, id, id, fun _ => id⟩

theorem trans {s t u : State} (h : Sound s t) (k : Sound t u) : Sound s u where
  pending := k.pending.trans h.pending
  startup := k.startup.trans h.startup
  handedOver := k.handedOver.trans h.handedOver
  txLegal := k.txLegal ∘ h.txLegal
  counters := k.counters ∘ h.counters
  faults := k.faults ∘ h.faults
  testStep := k.testStep ∘ h.testStep
  calls := k.calls ∘ h.calls
  entries := k.entries ∘ h.entries
  owners o a := k.owners (startOrder_of_eq h.startup h.handedOver o) (h.owners o a)

end Sound

namespace Upholds

theorem refl (s : State) : Upholds s s := ⟨Sound.refl s, id⟩

theorem trans {s t u : State} (h : Upholds s t) (k : Upholds t u) : Upholds s u :=
  ⟨h.toSound.trans k.toSound, k.keys ∘ h.keys⟩

/-- Composition with the later operation first, by which the state between is known. -/
theorem after {s t u : State} (k : Upholds t u) (h : Upholds s t) : Upholds s u := h.trans k

theorem ite {s t u : State} {p : Prop} [Decidable p] (h : Upholds s t) (k : Upholds s u) : Upholds s (if p then t else u) := by
  split
  · exact h
  · exact k

theorem foldl {α : Type} {f : State → α → State} (hf : ∀ s a, Upholds s (f s a)) (l : List α) (s : State) :
    Upholds s (l.foldl f s) :=
  List.foldlRecOn l f (refl s) fun t h a _ => h.trans (hf t a)

end Upholds

/-! ### Keys (R90, R91) -/

/-- The key on a channel: none on a FREE one, `some none` for the evacuation instance. -/
def keyOn (s : State) (c : ChanId) : Option (Option Key) := (s.chan c).map ChanInst.key

theorem keyOn_eq_some_iff {s : State} {c : ChanId} {k : Option Key} : keyOn s c = some k ↔ ∃ i, s.chan c = some i ∧ i.key = k :=
  Option.map_eq_some_iff

theorem keysApart_iff (s : State) :
    s.KeysApart ↔ s.queue.entries.Pairwise (fun a b => a.key ≠ b.key)
      ∧ (∀ (c d : ChanId) (k : Key), keyOn s c = some (some k) → keyOn s d = some (some k) → c = d)
      ∧ ∀ e ∈ s.queue.entries, ∀ c : ChanId, keyOn s c ≠ some (some e.key) := by
  constructor
  · rintro ⟨waiting, playing, both⟩
    refine ⟨waiting, fun c d k hc hd => ?_, fun e he c hc => ?_⟩
    · obtain ⟨i, hi, hik⟩ := keyOn_eq_some_iff.mp hc
      obtain ⟨j, hj, hjk⟩ := keyOn_eq_some_iff.mp hd
      exact playing c d i j hi hj (by rw [hik]; rfl) (hik.trans hjk.symm)
    · obtain ⟨i, hi, hik⟩ := keyOn_eq_some_iff.mp hc
      exact both e he c i hi hik
  · rintro ⟨waiting, playing, both⟩
    refine ⟨waiting, fun c d i j hi hj hsome hkey => ?_, fun e he c i hi hik => both e he c (keyOn_eq_some_iff.mpr ⟨i, hi, hik⟩)⟩
    obtain ⟨k, hk⟩ := Option.isSome_iff_exists.mp hsome
    exact playing c d k (keyOn_eq_some_iff.mpr ⟨i, hi, hk⟩) (keyOn_eq_some_iff.mpr ⟨j, hj, hkey.symm.trans hk⟩)

theorem keysApart_of_sublist {s t : State} (hentries : t.queue.entries.Sublist s.queue.entries) (hkey : ∀ c, keyOn t c = keyOn s c)
    (h : s.KeysApart) : t.KeysApart := by
  obtain ⟨waiting, playing, both⟩ := (keysApart_iff s).mp h
  refine (keysApart_iff t).mpr ⟨waiting.sublist hentries, fun c d k => ?_, fun e he c => ?_⟩
  · rw [hkey, hkey]
    exact playing c d k
  · rw [hkey]
    exact both e (hentries.subset he) c

theorem chanOfKey_eq_none_iff {s : State} {k : Key} : s.chanOfKey k = none ↔ ∀ c : ChanId, keyOn s c ≠ some (some k) := by
  have hall (c : ChanId) : c ∈ allChans := by
    revert c
    decide
  unfold State.chanOfKey
  rw [List.find?_eq_none]
  refine ⟨fun h c hc => ?_, fun h c _ hc => ?_⟩
  · obtain ⟨i, hi, hik⟩ := keyOn_eq_some_iff.mp hc
    exact h c (hall c) (by simp [hi, hik])
  · obtain ⟨i, hi, hik⟩ := Option.bind_eq_some_iff.mp (of_decide_eq_true hc)
    exact h c (keyOn_eq_some_iff.mpr ⟨i, hi, hik⟩)

/-! ### The calm operations and plain updates -/

theorem owners_of_calm {s t : State} (h : Calm s t) (o : s.OwnersAgree) : t.OwnersAgree where
  absent hconfig z hpresent := by
    rw [(h.zone z).2]
    exact o.absent (by rwa [← h.keeps.startup]) z ((h.zone z).1.symm.trans hpresent)
  held z c hz := (h.chan_isSome c).trans (o.held z c ((h.zone z).2.symm.trans hz))
  evacuation hactive z c hz := o.evacuation (by rwa [← h.keeps.evac]) z c ((h.zone z).2.symm.trans hz)
  claims := h.claims o.claims

theorem sound_of_keeps {s t : State} (h : Keeps s t) (hfaults : s.FaultsDistinct → t.FaultsDistinct)
    (hentries : s.EntriesFit → t.EntriesFit) (howners : s.StartOrder → s.OwnersAgree → t.OwnersAgree) : Sound s t where
  pending := h.pending
  startup := h.startup
  handedOver := h.handedOver
  txLegal := h.txLegal
  counters := h.countersFit
  faults := hfaults
  testStep hs := by unfold State.TestStepLegal; rw [h.testStep]; exact hs
  calls hs := by obtain ⟨a, b, c⟩ := hs; constructor <;> rw [h.calls] <;> assumption
  entries := hentries
  owners := howners

theorem upholds_of_calm {s t : State} (h : Calm s t) : Upholds s t :=
  ⟨sound_of_keeps h.keeps h.faults (fun hs => h.entries.length_le.trans hs) fun _ => owners_of_calm h,
    keysApart_of_sublist h.entries h.key⟩

/-- An update of the parts that no invariant speaks of, and of the transmit queue within its bounds. -/
theorem upholds_of_eq {s t : State} (hpending : t.pending = s.pending) (hstartup : t.startup = s.startup)
    (hport : t.port.handedOver = s.port.handedOver) (hfaults : t.faults = s.faults) (hcounters : t.counters = s.counters)
    (hcalls : t.calls = s.calls) (hentries : t.queue.entries = s.queue.entries) (hzones : t.zones = s.zones)
    (hchans : t.chans = s.chans) (hown : t.claims.own = s.claims.own) (hactive : t.evac.active = s.evac.active)
    (htx : s.TxQueueLegal → t.TxQueueLegal) : Upholds s t := by
  have hchan : t.chan = s.chan := by unfold State.chan; rw [hchans]
  have hclaim : t.claimOf = s.claimOf := by unfold State.claimOf; rw [hown]
  have hzone : t.zone = s.zone := by unfold State.zone; rw [hzones]
  refine ⟨⟨hpending, hstartup, hport, htx, ?_, ?_, ?_, ?_, ?_, ?_⟩, ?_⟩
  · unfold State.CountersFit; rw [hcounters]; exact id
  · unfold State.FaultsDistinct; rw [hfaults]; exact id
  · unfold State.TestStepLegal; rw [hfaults]; exact id
  · rintro ⟨a, b, c⟩; constructor <;> rw [hcalls] <;> assumption
  · unfold State.EntriesFit; rw [hentries]; exact id
  · rintro - ⟨a, b, c, d⟩
    exact ⟨by rw [hstartup, hzone]; exact a, by rw [hzone, hchan]; exact b, by rw [hactive, hzone]; exact c,
      by rw [hchan, hclaim]; exact d⟩
  · refine keysApart_of_sublist (by rw [hentries]) fun c => ?_
    unfold keyOn
    rw [hchan]

theorem txLegal_of_queue {s t : State} (hqueue : t.link.queue = s.link.queue) (hlink : t.onLink = s.onLink) (h : s.TxQueueLegal) :
    t.TxQueueLegal := by
  obtain ⟨a, b, c⟩ := h
  constructor <;> rw [hqueue]
  · exact a
  · rw [hlink]
    exact b
  · exact c

theorem upholds_clock (s : State) (c : Clock) : Upholds s { s with clock := c } := by
  apply upholds_of_eq <;> first | rfl | exact txLegal_of_queue rfl rfl

theorem upholds_advanceTo (s : State) (d : Nat) : Upholds s (s.advanceTo d) := upholds_clock s _

theorem upholds_sup (s : State) (x : Supervision) : Upholds s { s with sup := x } := by
  apply upholds_of_eq <;> first | rfl | exact txLegal_of_queue rfl rfl

theorem upholds_setScan (s : State) (f : Scan → Scan) : Upholds s (s.setScan f) := upholds_sup s _

theorem upholds_mapOccupancy (s : State) (f : OccSlot → OccSlot) : Upholds s (s.mapOccupancy f) := by
  apply upholds_of_eq <;> first | rfl | exact txLegal_of_queue rfl rfl

theorem upholds_evac (s : State) {e : Evac} (h : e.active = s.evac.active) : Upholds s { s with evac := e } := by
  apply upholds_of_eq <;> first | rfl | exact h | exact txLegal_of_queue rfl rfl

/-- A change of the link that leaves the transmit queue. -/
theorem upholds_link (s : State) {l : Link} (h : l.queue = s.link.queue) : Upholds s { s with link := l } := by
  apply upholds_of_eq <;> first | rfl | exact txLegal_of_queue h rfl

/-- A zone changed to a state other than HELD, to OFF where it is absent. -/
theorem upholds_setZone {s : State} {z : ZoneId} {f : Zone → Zone} (hpresent : (f (s.zone z)).present = (s.zone z).present)
    (hstate : ∀ c, (f (s.zone z)).state ≠ .held c)
    (habsent : s.OwnersAgree → s.startup.config.isSome = true → (s.zone z).present = false → (f (s.zone z)).state = .off) :
    Upholds s (s.setZone z f) := by
  have hother (y : ZoneId) (hne : z ≠ y) : (s.setZone z f).zone y = s.zone y := zone_setZone_of_ne s z y f hne
  have hheld (y : ZoneId) (c : ChanId) (hy : ((s.setZone z f).zone y).state = .held c) : (s.zone y).state = .held c := by
    obtain rfl | hne := eq_or_ne z y
    · rw [zone_setZone_self] at hy
      exact absurd hy (hstate c)
    · rwa [hother y hne] at hy
  refine ⟨sound_of_keeps (keeps_setZone s z f) id id fun _ o => ⟨fun hconfig y hy => ?_, fun y c hy => o.held y c (hheld y c hy),
    fun hactive y c hy => o.evacuation hactive y c (hheld y c hy), o.claims⟩, keysApart_of_sublist (List.Sublist.refl _) fun _ => rfl⟩
  obtain rfl | hne := eq_or_ne z y
  · rw [zone_setZone_self] at hy ⊢
    exact habsent o hconfig (hpresent.symm.trans hy)
  · rw [hother y hne] at hy ⊢
    exact o.absent hconfig y hy

/-! ### Entries (R89 to R92) -/

theorem insertEntry_perm (e : Entry) (l : List Entry) : (insertEntry e l).Perm (e :: l) := by
  induction l with
  | nil => exact List.Perm.refl _
  | cons f rest ih =>
    unfold insertEntry
    split
    · exact List.Perm.refl _
    · exact (ih.cons f).trans (List.Perm.swap e f rest)

theorem insertEntry_length (e : Entry) (l : List Entry) : (insertEntry e l).length = l.length + 1 :=
  (insertEntry_perm e l).length_eq

theorem mem_insertEntry {e f : Entry} {l : List Entry} : f ∈ insertEntry e l ↔ f = e ∨ f ∈ l :=
  (insertEntry_perm e l).mem_iff.trans List.mem_cons

/-- An entry put in the queue is of a key that neither waits nor is on a channel. -/
theorem keysApart_insert {s t : State} {e : Entry} (hentries : t.queue.entries = insertEntry e s.queue.entries)
    (hkey : ∀ c, keyOn t c = keyOn s c) (hwaiting : ∀ f ∈ s.queue.entries, f.key ≠ e.key)
    (hplaying : ∀ c, keyOn s c ≠ some (some e.key)) (h : s.KeysApart) : t.KeysApart := by
  obtain ⟨waiting, playing, both⟩ := (keysApart_iff s).mp h
  refine (keysApart_iff t).mpr ⟨?_, fun c d k => ?_, fun f hf c => ?_⟩
  · rw [hentries, (insertEntry_perm e _).pairwise_iff fun h => Ne.symm h, List.pairwise_cons]
    exact ⟨fun f hf => (hwaiting f hf).symm, waiting⟩
  · rw [hkey, hkey]
    exact playing c d k
  · rw [hentries] at hf
    rw [hkey]
    obtain rfl | hf := mem_insertEntry.mp hf
    · exact hplaying c
    · exact both f hf c

theorem entryOf_eq_none_iff {s : State} {k : Key} : s.entryOf k = none ↔ ∀ e ∈ s.queue.entries, e.key ≠ k := by
  simp [State.entryOf]

/-- A queue operation that only changes the entries and the counters of the queue. -/
theorem sound_entries {s t : State} (h : t = { s with queue := t.queue }) (hentries : s.EntriesFit → t.EntriesFit) : Sound s t := by
  refine sound_of_keeps (by rw [h]; apply keeps_of_eq <;> rfl) (by rw [h]; exact id) hentries fun _ o => ?_
  rw [h]
  exact ⟨o.absent, o.held, o.evacuation, o.claims⟩

theorem sound_insertNew (s : State) (e : Entry) (hroom : s.queue.entries.length < 24) : Sound s (s.insertNew e) := by
  refine sound_entries rfl fun _ => ?_
  have hlen : (s.insertNew e).queue.entries.length = s.queue.entries.length + 1 := insertEntry_length _ _
  unfold State.EntriesFit
  omega

theorem upholds_insertNew {s : State} {e : Entry} (hroom : s.queue.entries.length < 24) (hwaiting : ∀ f ∈ s.queue.entries, f.key ≠ e.key)
    (hplaying : ∀ c, keyOn s c ≠ some (some e.key)) : Upholds s (s.insertNew e) :=
  ⟨sound_insertNew s e hroom,
    keysApart_insert (e := { e with tag := s.nextTag, seq := s.queue.seqCounter }) rfl (fun _ => rfl) hwaiting hplaying⟩

/-! ### Dispatch (R96 to R101) -/

theorem zone_hold (s : State) (c : ChanId) (zs : ZoneSet) (z : ZoneId) :
    (s.hold c zs).zone z = if z ∈ zs then { s.zone z with state := .held c } else s.zone z := by
  unfold State.hold
  induction zs generalizing s with
  | nil => rfl
  | cons y rest ih =>
    rw [List.foldl_cons, ih]
    obtain rfl | hne := eq_or_ne y z
    · rw [zone_setZone_self]
      simp
    · rw [zone_setZone_of_ne s y z _ hne]
      simp [hne.symm]

theorem hold_eq (s : State) (c : ChanId) (zs : ZoneSet) : s.hold c zs = { s with zones := (s.hold c zs).zones } := by
  unfold State.hold
  exact List.foldlRecOn (motive := fun t : State => t = { s with zones := t.zones }) zs _ rfl fun t h z _ => by
    rw [h]
    rfl

theorem chan_hold (s : State) (c d : ChanId) (zs : ZoneSet) : (s.hold c zs).chan d = s.chan d := by rw [hold_eq]; rfl

theorem claimOf_hold (s : State) (c d : ChanId) (zs : ZoneSet) : (s.hold c zs).claimOf d = s.claimOf d := by rw [hold_eq]; rfl

theorem faults_hold (s : State) (c : ChanId) (zs : ZoneSet) : (s.hold c zs).faults = s.faults := by rw [hold_eq]

theorem queue_hold (s : State) (c : ChanId) (zs : ZoneSet) : (s.hold c zs).queue = s.queue := by rw [hold_eq]

/-- The state in which an instance has been put on a FREE channel with its zones (R100, steps 2 and 3): the owners agree. -/
theorem owners_occupy {u : State} {c : ChanId} {zs : ZoneSet} {i : ChanInst} (hlive : i.state ≠ .tail)
    (hzones : ∀ z ∈ zs, (u.zone z).state ≠ .off) (hcalm : u.evac.active = false) (o : u.OwnersAgree) :
    ((u.hold c zs).groupEnded.setChan c (some i)).OwnersAgree := by
  have hend := calm_groupEnded (u.hold c zs)
  have hstate (z : ZoneId) : (((u.hold c zs).groupEnded.setChan c (some i)).zone z).state
      = if z ∈ zs then .held c else (u.zone z).state := by
    refine (hend.zone z).2.trans ?_
    rw [zone_hold]
    split <;> rfl
  have hother (d : ChanId) (hne : c ≠ d) : ((u.hold c zs).groupEnded.setChan c (some i)).chan d = (u.hold c zs).groupEnded.chan d :=
    chan_setChan_of_ne _ _ _ _ hne
  have hheld : ClaimsStand (u.hold c zs) := by
    intro d r
    rw [claimOf_hold, chan_hold]
    exact o.claims d r
  have hclaims := hend.claims hheld
  refine ⟨fun hconfig z hz => ?_, fun z d hz => ?_, fun hactive => ?_, fun d r hr => ?_⟩
  · have hpresent : (u.zone z).present = false := by
      have h1 := (hend.zone z).1.symm.trans hz
      rw [zone_hold] at h1
      split at h1 <;> exact h1
    have hconfig' : u.startup.config.isSome = true := by
      have h2 : (u.hold c zs).groupEnded.startup = u.startup := hend.keeps.startup.trans (by rw [hold_eq])
      rwa [← h2]
    have hoff := o.absent hconfig' z hpresent
    rw [hstate, if_neg fun hmem => hzones z hmem hoff]
    exact hoff
  · obtain rfl | hne := eq_or_ne c d
    · rw [chan_setChan_self]
      rfl
    · rw [hother d hne, hend.chan_isSome, chan_hold]
      rw [hstate] at hz
      split at hz
      · exact absurd (ZoneState.held.inj hz) hne
      · exact o.held z d hz
  · have h3 : (u.hold c zs).groupEnded.evac = u.evac := hend.keeps.evac.trans (by rw [hold_eq])
    have hactive' : (u.hold c zs).groupEnded.evac.active = true := hactive
    rw [h3, hcalm] at hactive'
    cases hactive'
  · obtain ⟨j, hj, hjlive⟩ := hclaims d r hr
    obtain rfl | hne := eq_or_ne c d
    · exact ⟨i, chan_setChan_self _ _ _, hlive⟩
    · exact ⟨j, (hother d hne).trans hj, hjlive⟩

/-- The state of a dispatch after its preemptions and its aborts (R100, R101). -/
def cleared (s : State) (cls : Nat) (zs : ZoneSet) : State :=
  let s := (s.preempted cls zs).foldl (fun s d => s.enterTail d .preempted) s
  (zs.filter s.inTest).foldl State.abortTest s

theorem calm_cleared (s : State) (cls : Nat) (zs : ZoneSet) : Calm s (cleared s cls zs) :=
  (Calm.foldl (fun s d => calm_enterTail s d .preempted) _ s).trans (Calm.foldl calm_abortTest _ _)

/-- The instance that a dispatch puts on its channel (R100, step 2). -/
def launched (s : State) (e : Entry) (c : ChanId) (zs : ZoneSet) (words : List Nat) : ChanInst :=
  ChanInst.new e.cls (some e.key) e.tag (((cleared s e.cls zs).hold c zs).chimeFor e.cls) words

/-- The state of a dispatch with its instance on the channel, its zones held and its entry still in the queue. -/
def seated (s : State) (e : Entry) (c : ChanId) (zs : ZoneSet) (words : List Nat) : State :=
  ((cleared s e.cls zs).hold c zs).groupEnded.setChan c (some (launched s e c zs words))

theorem launch_eq (s : State) (e : Entry) (c : ChanId) (zs : ZoneSet) (words : List Nat) :
    s.launch e c zs words =
      (((seated s e c zs words).setCont c
          (some { entry := e, dispatchedAt := (seated s e c zs words).now, renewal := none, stopMark := none })).dropEntry e.key).makeClaim c
        e.tag e.cls
        (some ((((seated s e c zs words).setCont c
          (some { entry := e, dispatchedAt := (seated s e c zs words).now, renewal := none, stopMark := none })).dropEntry e.key).now
            + 3000)) := rfl

theorem calm_after_seated (s : State) (e : Entry) (c : ChanId) (zs : ZoneSet) (words : List Nat) :
    Calm (seated s e c zs words) (s.launch e c zs words) := by
  rw [launch_eq]
  refine Calm.trans ((calm_setCont _ _ _).trans (calm_dropEntry _ _)) (calm_makeClaim (i := launched s e c zs words) ?_ ?_ _ _ _)
  · exact chan_setChan_self _ c _
  · exact fun h => nomatch h

section
variable {s : State} {e : Entry} {c : ChanId} {zs : ZoneSet} (words : List Nat)

theorem chan_seated_self : (seated s e c zs words).chan c
    = some (launched s e c zs words) :=
  chan_setChan_self _ c _

theorem keyOn_seated (d : ChanId) : keyOn (seated s e c zs words) d = if c = d then some (some e.key) else keyOn s d := by
  split
  next h =>
    subst h
    unfold keyOn
    rw [chan_seated_self]
    rfl
  next hne =>
    unfold keyOn
    rw [show (seated s e c zs words).chan d = ((cleared s e.cls zs).hold c zs).groupEnded.chan d from chan_setChan_of_ne _ c d _ hne,
      (calm_groupEnded _).key d, chan_hold, (calm_cleared s e.cls zs).key d]

theorem entries_seated : (seated s e c zs words).queue.entries.Sublist s.queue.entries := by
  have h1 : (seated s e c zs words).queue.entries.Sublist ((cleared s e.cls zs).hold c zs).queue.entries :=
    (calm_groupEnded ((cleared s e.cls zs).hold c zs)).entries
  rw [queue_hold] at h1
  exact h1.trans (calm_cleared s e.cls zs).entries

theorem sound_launch (hzones : ∀ z ∈ zs, (s.zone z).state ≠ .off) (hcalm : s.evac.active = false) :
    Sound s (s.launch e c zs words) := by
  have hclear := calm_cleared s e.cls zs
  have hlast := calm_after_seated s e c zs words
  have hentries := hlast.entries.trans (entries_seated words)
  refine sound_of_keeps (keeps_launch s e c zs words) (fun h => ?_) (fun h => hentries.length_le.trans h) fun _ o => ?_
  · refine hlast.faults ((calm_groupEnded ((cleared s e.cls zs).hold c zs)).faults ?_)
    unfold State.FaultsDistinct
    rw [faults_hold]
    exact hclear.faults h
  · refine owners_of_calm hlast (owners_occupy (fun h => nomatch h) (fun z hz => ?_) ?_ (owners_of_calm hclear o))
    · rw [(hclear.zone z).2]
      exact hzones z hz
    · rw [hclear.keeps.evac]
      exact hcalm

/-- The key of the dispatched entry leaves the queue for its channel. -/
theorem keysApart_launch (hmem : e ∈ s.queue.entries) (h : s.KeysApart) : (s.launch e c zs words).KeysApart := by
  obtain ⟨waiting, playing, both⟩ := (keysApart_iff s).mp h
  have hlast := calm_after_seated s e c zs words
  have hkey (d : ChanId) : keyOn (s.launch e c zs words) d = if c = d then some (some e.key) else keyOn s d :=
    (hlast.key d).trans (keyOn_seated words d)
  have hdrop : (s.launch e c zs words).queue.entries.Sublist
      ((seated s e c zs words).queue.entries.filter fun f => decide (f.key ≠ e.key)) := by
    rw [launch_eq]
    refine Calm.entries (s := ((seated s e c zs words).setCont c _).dropEntry e.key) 
      (calm_makeClaim (i := launched s e c zs words) ?_ ?_ _ _ _)
    · exact chan_seated_self words
    · exact fun h => nomatch h
  refine (keysApart_iff _).mpr ⟨waiting.sublist (hlast.entries.trans (entries_seated words)), fun a b k ha hb => ?_, fun f hf d => ?_⟩
  · rw [hkey] at ha hb
    split at ha <;> split at hb
    next h1 h2 => exact h1.symm.trans h2
    next => cases ha; exact absurd hb (both e hmem b)
    next => cases hb; exact absurd ha (both e hmem a)
    next => exact playing a b k ha hb
  · obtain ⟨hseat, hne⟩ := List.mem_filter.mp (hdrop.subset hf)
    rw [hkey]
    split
    · intro heq
      exact of_decide_eq_true hne (Option.some.inj (Option.some.inj heq)).symm
    · exact both f ((entries_seated words).subset hseat) d

end

/-- What the tests of R97 to R99 give: a FREE channel and zones in service, outside evacuation. -/
theorem of_verdict_go {s : State} {e : Entry} {c : ChanId} {zs : ZoneSet} (h : s.verdict e = .go c zs) :
    s.chan c = none ∧ zs = s.effective e ∧ s.evac.active = false := by
  unfold State.verdict at h
  split at h
  · cases h
  split at h
  · cases h
  next hactive =>
    split at h
    · cases h
    split at h
    · cases h
    dsimp only at h
    split at h
    · cases h
    split at h
    · cases h
    next d hd =>
      split at h
      · cases h
      split at h
      · cases h
        refine ⟨?_, rfl, Bool.not_eq_true _ ▸ hactive⟩
        have hfree := List.find?_some hd
        exact Option.isNone_iff_eq_none.mp hfree
      · cases h

theorem state_ne_off_of_mem_effective {s : State} {e : Entry} {z : ZoneId} (h : z ∈ s.effective e) : (s.zone z).state ≠ .off := by
  have hservice := (List.mem_filter.mp h).2
  simp only [State.inService, Bool.and_eq_true, decide_eq_true_eq] at hservice
  exact hservice.1

theorem sound_dispatch {s : State} {e : Entry} {c : ChanId} {zs : ZoneSet} (h : s.verdict e = .go c zs) : Sound s (s.dispatch e c zs) := by
  obtain ⟨-, rfl, hcalm⟩ := of_verdict_go h
  unfold State.dispatch
  split
  next hw => exact (upholds_of_calm ((calm_words hw).trans (calm_removeEntry _ _ _))).toSound
  next t l hw =>
    have hc := calm_words hw
    refine (upholds_of_calm hc).toSound.trans (sound_launch l (fun z hz => ?_) ?_)
    · rw [(hc.zone z).2]
      exact state_ne_off_of_mem_effective hz
    · rw [hc.keeps.evac]
      exact hcalm

theorem entries_words {s t : State} {e : Entry} {l : Option (List Nat)} (h : s.words e = (t, l)) : t.queue = s.queue := by
  unfold State.words at h
  split at h
  · cases h
    rfl
  · unfold State.assemble at h
    split at h <;> cases h
    · rfl
    · unfold State.raise State.raiseAs
      split
      · exact (offersOnly_pumpN 16 _).queue
      · rfl

theorem keysApart_dispatch {s : State} {e : Entry} {c : ChanId} {zs : ZoneSet} (hmem : e ∈ s.queue.entries) (hk : s.KeysApart) :
    (s.dispatch e c zs).KeysApart := by
  unfold State.dispatch
  split
  next hw => exact (upholds_of_calm ((calm_words hw).trans (calm_removeEntry _ _ _))).keys hk
  next hw => exact keysApart_launch _ (by rwa [entries_words hw]) ((upholds_of_calm (calm_words hw)).keys hk)

theorem sound_pass (l : List Entry) (s : State) : Sound s (State.pass l s).1 := by
  induction l generalizing s with
  | nil => exact Sound.refl s
  | cons e rest ih =>
    unfold State.pass
    split
    · exact ih s
    · exact (upholds_of_calm (calm_removeEntry s _ _)).toSound.trans (ih _)
    next h => exact sound_dispatch h

/-- The entries still to be looked at wait until their turn, for a removal takes out the entries of its own key alone. -/
theorem keysApart_pass (l : List Entry) (s : State) (hmem : ∀ e ∈ l, e ∈ s.queue.entries)
    (hapart : l.Pairwise fun a b => a.key ≠ b.key) (hk : s.KeysApart) : (State.pass l s).1.KeysApart := by
  induction l generalizing s with
  | nil => exact hk
  | cons e rest ih =>
    obtain ⟨hne, hapart'⟩ := List.pairwise_cons.mp hapart
    obtain ⟨he, hrest⟩ := List.forall_mem_cons.mp hmem
    unfold State.pass
    split
    · exact ih s hrest hapart' hk
    next r h =>
      refine ih _ (fun f hf => ?_) hapart' ((upholds_of_calm (calm_removeEntry s e.key r)).keys hk)
      rw [entries_removeEntry]
      exact List.mem_filter.mpr ⟨hrest f hf, decide_eq_true (hne f hf).symm⟩
    · exact keysApart_dispatch he hk

theorem upholds_pass_entries (s : State) : Upholds s (State.pass s.queue.entries s).1 :=
  ⟨sound_pass _ s, fun hk => keysApart_pass _ s (fun _ => id) hk.waiting hk⟩

theorem upholds_walkN (n : Nat) (s : State) : Upholds s (State.walkN n s) := by
  induction n generalizing s with
  | zero => exact Upholds.refl s
  | succ n ih =>
    unfold State.walkN
    have hpass := upholds_pass_entries s
    split
    next h =>
      rw [h] at hpass
      exact hpass.trans (ih _)
    next h =>
      rw [h] at hpass
      exact hpass

/-- A walk (R96). -/
theorem upholds_walk (s : State) : Upholds s s.walk := by
  unfold State.walk
  exact (upholds_walkN _ s).trans (upholds_of_calm (((calm_walkedAt _ _).trans (calm_arbitrate _)).trans (calm_settleGates _)))

/-! ### Offers and the end of an instance (R91 to R95, R103 to R105) -/

theorem keyOn_calm {s t : State} (h : Calm s t) (c : ChanId) : keyOn t c = keyOn s c := h.key c

theorem upholds_offerNew {s : State} {e : Entry} (hwaiting : s.entryOf e.key = none) (hplaying : s.chanOfKey e.key = none) :
    Upholds s (s.offerNew e) := by
  have hw := entryOf_eq_none_iff.mp hwaiting
  have hp := chanOfKey_eq_none_iff.mp hplaying
  unfold State.offerNew
  split
  next hroom => exact (upholds_insertNew hroom hw hp).trans (upholds_walk _)
  next hfull =>
    split
    next f hf =>
      split
      · have hremove := calm_removeEntry s f.key .evicted
        have hmem : f ∈ s.queue.entries := List.mem_of_getLast? hf
        -- the queue may hold more than 24 only where the invariant fails already
        have hinsert : Sound s ((s.removeEntry f.key .evicted).insertNew e) := by
          refine sound_of_keeps (hremove.keeps.trans (keeps_insertNew _ e)) hremove.faults (fun h => ?_) fun _ o => ?_
          · have hlen : ((s.removeEntry f.key .evicted).insertNew e).queue.entries.length
                = (s.removeEntry f.key .evicted).queue.entries.length + 1 := insertEntry_length _ _
            have hless : (s.removeEntry f.key .evicted).queue.entries.length < s.queue.entries.length := by
              rw [entries_removeEntry]
              exact List.length_filter_lt_length_iff_exists.mpr ⟨f, hmem, by simp⟩
            unfold State.EntriesFit at h ⊢
            omega
          · obtain ⟨a, b, d, g⟩ := owners_of_calm hremove o
            exact ⟨a, b, d, g⟩
        refine Upholds.trans ⟨hinsert, fun hk => ?_⟩ (upholds_walk _)
        refine keysApart_insert (e := { e with tag := (s.removeEntry f.key .evicted).nextTag, seq := _ }) rfl (fun _ => rfl)
          (fun g hg => hw g (hremove.entries.subset hg)) (fun c => ?_) ((upholds_of_calm hremove).keys hk)
        rw [keyOn_calm hremove]
        exact hp c
      · exact upholds_of_calm (calm_give s _ _)
    · exact upholds_of_calm (calm_give s _ _)

theorem upholds_offerEntry (s : State) (e : Entry) : Upholds s (s.offerEntry e) := by
  unfold State.offerEntry
  split
  next f hf =>
    refine Upholds.trans ⟨sound_entries rfl fun h => ?_, fun hk => ?_⟩ (upholds_walk _)
    · have hlen : ((s.dropEntry e.key).setEntries (insertEntry { e with tag := f.tag, seq := f.seq, attempts := 0 }
          (s.dropEntry e.key).queue.entries)).queue.entries.length = (s.dropEntry e.key).queue.entries.length + 1 :=
        insertEntry_length _ _
      have hless : (s.dropEntry e.key).queue.entries.length < s.queue.entries.length :=
        List.length_filter_lt_length_iff_exists.mpr ⟨f, List.mem_of_find?_eq_some hf, by simpa using List.find?_some hf⟩
      unfold State.EntriesFit at h ⊢
      omega
    · have hfkey : f.key = e.key := by simpa using List.find?_some hf
      refine keysApart_insert (s := s.dropEntry e.key) (e := { e with tag := f.tag, seq := f.seq, attempts := 0 }) rfl (fun _ => rfl)
        (fun g hg => of_decide_eq_true (List.mem_filter.mp hg).2) (fun c => ?_) ((upholds_of_calm (calm_dropEntry s e.key)).keys hk)
      have hboth := ((keysApart_iff s).mp hk).2.2 f (List.mem_of_find?_eq_some hf) c
      rw [hfkey] at hboth
      exact hboth
  next hw =>
    split
    next hp => exact upholds_offerNew hw hp
    · split
      · exact (upholds_of_calm (calm_setCont s _ _)).trans (upholds_walk _)
      · exact Upholds.refl s
      · exact Upholds.refl s

theorem upholds_stopKey (s : State) (k : Key) (m : StopMark) : Upholds s (s.stopKey k m) := by
  unfold State.stopKey
  split
  · exact upholds_of_calm (calm_removeEntry s _ _)
  · split
    · exact Upholds.refl s
    · split
      · exact upholds_of_calm (calm_setCont s _ _)
      · exact upholds_of_calm (calm_stopInstance s _ _)

theorem upholds_give (s : State) (k : Key) (r : Result) : Upholds s (s.give k r) := upholds_of_calm (calm_give s k r)

theorem upholds_offerRenewal (s : State) (k : Continuation) : Upholds s (s.offerRenewal k) := by
  unfold State.offerRenewal
  split
  · exact Upholds.refl s
  · exact upholds_offerEntry s _

theorem upholds_offerNext (s : State) (k : Continuation) : Upholds s (s.offerNext k) := by
  unfold State.offerNext
  split
  · exact upholds_offerRenewal s k
  · split
    · exact Upholds.refl s
    · exact Upholds.ite (upholds_offerEntry s _) (Upholds.refl s)

theorem upholds_requeue (s : State) (k : Continuation) (o : Ending) : Upholds s (s.requeue k o) := by
  unfold State.requeue
  split
  · exact upholds_give s _ _
  · exact upholds_offerEntry s _

theorem upholds_settleEnd (s : State) (k : Continuation) (o : Ending) : Upholds s (s.settleEnd k o) := by
  have hrenew (r : Result) : Upholds s ((s.give k.entry.key r).offerRenewal k) := (upholds_give s _ r).trans (upholds_offerRenewal _ k)
  unfold State.settleEnd
  dsimp only
  split
  · exact (upholds_give s _ _).trans (upholds_offerNext _ k)
  · exact upholds_requeue s k _
  · exact upholds_requeue s k _
  · exact hrenew _
  · exact hrenew _
  · exact upholds_give s _ _
  · exact upholds_give s _ _
  all_goals exact hrenew _

theorem upholds_reportEnd (s : State) (c : ChanId) (i : ChanInst) : Upholds s (s.reportEnd c i) := by
  unfold State.reportEnd
  split
  · exact (upholds_of_calm (calm_setCont s _ _)).trans (upholds_settleEnd _ _ _)
  · exact Upholds.refl s

end Sys2Proof.Proofs.Uphold
end

section
/-! What the calls uphold (R32 to R73): the call table within its bounds, and the operations of the Cue Engine and the Call Table. -/

namespace Sys2Proof.Proofs.CallRules

open Sys2Proof.Machine
open Sys2Proof.Proofs.Upkeep Sys2Proof.Proofs.Uphold

/-! ### The call table (R32, R35) -/

/-- The cells that some records hold. -/
def cellsOf (l : List CallRecord) : Nat := (l.map fun r => r.points.length).sum

/-- The records of other calls. -/
def othersOf (id : Nat) (l : List CallRecord) : List CallRecord := l.filter fun q => decide (q.id ≠ id)

theorem id_of_call {s : State} {id : Nat} {r : CallRecord} (h : s.call id = some r) : r.id = id := by
  simpa using List.find?_some h

theorem mem_of_call {s : State} {id : Nat} {r : CallRecord} (h : s.call id = some r) : r ∈ s.calls := List.mem_of_find?_eq_some h

theorem mem_insertCall {r q : CallRecord} {l : List CallRecord} (h : q ∈ insertCall r l) : q = r ∨ q ∈ l := by
  induction l with
  | nil => simpa [insertCall] using h
  | cons p rest ih =>
    unfold insertCall at h
    split at h
    · simpa using h
    · split at h
      · obtain rfl | h := List.mem_cons.mp h
        · exact .inl rfl
        · exact .inr (List.mem_cons_of_mem _ h)
      · obtain rfl | h := List.mem_cons.mp h
        · exact .inr List.mem_cons_self
        · exact (ih h).imp id (List.mem_cons_of_mem _)

theorem ordered_insertCall (r : CallRecord) {l : List CallRecord} (h : l.Pairwise fun a b => a.id < b.id) :
    (insertCall r l).Pairwise fun a b => a.id < b.id := by
  induction l with
  | nil => exact List.pairwise_singleton _ _
  | cons p rest ih =>
    obtain ⟨hp, hrest⟩ := List.pairwise_cons.mp h
    unfold insertCall
    split
    next hlt =>
      refine List.pairwise_cons.mpr ⟨fun q hq => ?_, h⟩
      obtain rfl | hq := List.mem_cons.mp hq
      · exact hlt
      · exact hlt.trans (hp q hq)
    next hge =>
      split
      next heq => exact List.pairwise_cons.mpr ⟨fun q hq => heq ▸ hp q hq, hrest⟩
      next hne =>
        refine List.pairwise_cons.mpr ⟨fun q hq => ?_, ih hrest⟩
        obtain rfl | hq := mem_insertCall hq
        · omega
        · exact hp q hq

/-- In an ordered table a put leaves the other records beside the new one. -/
theorem insertCall_perm (r : CallRecord) {l : List CallRecord} (h : l.Pairwise fun a b => a.id < b.id) :
    (insertCall r l).Perm (r :: othersOf r.id l) := by
  induction l with
  | nil => exact List.Perm.refl _
  | cons p rest ih =>
    obtain ⟨hp, hrest⟩ := List.pairwise_cons.mp h
    have hkeep (hlt : ∀ q ∈ rest, q.id ≠ r.id) : othersOf r.id rest = rest :=
      List.filter_eq_self.mpr fun q hq => decide_eq_true (hlt q hq)
    unfold insertCall
    split
    next hlt =>
      have hne : p.id ≠ r.id := by omega
      have hall : othersOf r.id (p :: rest) = p :: rest := by
        refine List.filter_eq_self.mpr fun q hq => decide_eq_true ?_
        obtain rfl | hq := List.mem_cons.mp hq
        · exact hne
        · have := hp q hq
          omega
      rw [hall]
    next hge =>
      split
      next heq =>
        have hall : othersOf r.id (p :: rest) = rest := by
          rw [othersOf, List.filter_cons_of_neg (by simp [heq])]
          exact hkeep fun q hq => by have := hp q hq; omega
        rw [hall]
      next hne =>
        have hall : othersOf r.id (p :: rest) = p :: othersOf r.id rest :=
          List.filter_cons_of_pos (decide_eq_true fun e => hne e.symm)
        rw [hall]
        exact ((ih hrest).cons p).trans (List.Perm.swap r p _)

theorem cellsOf_perm {l m : List CallRecord} (h : l.Perm m) : cellsOf l = cellsOf m := (h.map _).sum_nat

theorem othersOf_perm {l : List CallRecord} (hordered : l.Pairwise fun a b => a.id < b.id) {q : CallRecord} (hq : q ∈ l) :
    l.Perm (q :: othersOf q.id l) := by
  induction l with
  | nil => cases hq
  | cons p rest ih =>
    obtain ⟨hp, hrest⟩ := List.pairwise_cons.mp hordered
    obtain rfl | hmem := List.mem_cons.mp hq
    · have hall : othersOf q.id (q :: rest) = rest := by
        rw [othersOf, List.filter_cons_of_neg (by simp)]
        exact List.filter_eq_self.mpr fun x hx => decide_eq_true (Nat.ne_of_gt (hp x hx))
      rw [hall]
    · have hne : p.id ≠ q.id := Nat.ne_of_lt (hp q hmem)
      have hall : othersOf q.id (p :: rest) = p :: othersOf q.id rest := List.filter_cons_of_pos (decide_eq_true hne)
      rw [hall]
      exact ((ih hrest hmem).cons p).trans (List.Perm.swap q p _)

theorem othersOf_sublist (id : Nat) (l : List CallRecord) : (othersOf id l).Sublist l := List.filter_sublist

theorem cellsOf_othersOf_le (id : Nat) (l : List CallRecord) : cellsOf (othersOf id l) ≤ cellsOf l :=
  ((othersOf_sublist id l).map _).sum_le_sum fun _ _ => Nat.zero_le _

/-- A put fits where the other records leave room for the record and its points. -/
theorem callsFit_putCall {s : State} {r : CallRecord} (h : s.CallsFit) (hcount : (othersOf r.id s.calls).length < 48)
    (hcells : r.points.length + cellsOf (othersOf r.id s.calls) ≤ 256) : (s.putCall r).CallsFit := by
  have hperm := insertCall_perm r h.ordered
  refine ⟨?_, ordered_insertCall r h.ordered, ?_⟩
  · rw [putCall_calls_eq, hperm.length_eq, List.length_cons]
    exact hcount
  · change cellsOf (insertCall r s.calls) ≤ 256
    rw [cellsOf_perm hperm]
    exact hcells

theorem length_othersOf_lt {s : State} {q : CallRecord} (h : s.CallsFit) (hq : q ∈ s.calls) : (othersOf q.id s.calls).length < 48 := by
  have hlen := (othersOf_perm h.ordered hq).length_eq
  have hcount := h.count
  rw [List.length_cons] at hlen
  omega

theorem callsFit_putCall_of_call {s : State} {id : Nat} {q r : CallRecord} (hq : s.call id = some q) (hid : r.id = id)
    (hpoints : r.points.length ≤ q.points.length) (h : s.CallsFit) : (s.putCall r).CallsFit := by
  have hmem := mem_of_call hq
  obtain rfl : q.id = id := id_of_call hq
  have hlen := length_othersOf_lt h hmem
  have hcells : cellsOf s.calls = q.points.length + cellsOf (othersOf q.id s.calls) := cellsOf_perm (othersOf_perm h.ordered hmem)
  have htotal : cellsOf s.calls ≤ 256 := h.cells
  refine callsFit_putCall h ?_ ?_ <;> rw [hid]
  · exact hlen
  · omega

/-- The stored points of a put fit, for they are cut to the cells that the other records leave (R35). -/
theorem callsFit_putCall_givePoints {s : State} {r : CallRecord} (points : List Nat) (posted : Nat)
    (hroom : (∃ q, s.call r.id = some q) ∨ s.calls.length < 48) (h : s.CallsFit) {r' : CallRecord} (hid : r'.id = r.id)
    (hpoints : r'.points = (r.givePoints s.calls points posted).points) : (s.putCall r').CallsFit := by
  have hothers := cellsOf_othersOf_le r.id s.calls
  have htotal : cellsOf s.calls ≤ 256 := h.cells
  have hpool : poolFree (s.calls.filter fun q => decide (q.id ≠ r.id)) = 256 - cellsOf (othersOf r.id s.calls) := rfl
  refine callsFit_putCall h ?_ ?_ <;> rw [hid]
  · obtain ⟨q, hq⟩ | hlt := hroom
    · rw [← id_of_call hq]
      exact length_othersOf_lt h (mem_of_call hq)
    · exact (othersOf_sublist r.id s.calls).length_le.trans_lt hlt
  · rw [hpoints]
    simp only [CallRecord.givePoints, hpool, List.length_take]
    omega

theorem upholds_putCall {s : State} {r : CallRecord} (h : s.CallsFit → (s.putCall r).CallsFit) : Upholds s (s.putCall r) where
  pending := rfl
  startup := rfl
  handedOver := rfl
  txLegal := txLegal_of_queue rfl rfl
  counters := id
  faults := id
  testStep := id
  calls := h
  entries := id
  owners _ o := ⟨o.absent, o.held, o.evacuation, o.claims⟩
  keys k := ⟨k.waiting, k.playing, k.both⟩

/-- A held record changed, but for its points. -/
theorem upholds_putCall_of_call {s : State} {id : Nat} {q r : CallRecord} (hq : s.call id = some q) (hid : r.id = q.id)
    (hpoints : r.points = q.points) : Upholds s (s.putCall r) :=
  upholds_putCall (callsFit_putCall_of_call hq (hid.trans (id_of_call hq)) (by rw [hpoints]))

theorem upholds_calls {s : State} {l : List CallRecord} (h : l.Sublist s.calls) : Upholds s { s with calls := l } where
  pending := rfl
  startup := rfl
  handedOver := rfl
  txLegal := txLegal_of_queue rfl rfl
  counters := id
  faults := id
  testStep := id
  calls k := ⟨h.length_le.trans k.count, k.ordered.sublist h, ((h.map _).sum_le_sum fun _ _ => Nat.zero_le _).trans k.cells⟩
  entries := id
  owners _ o := ⟨o.absent, o.held, o.evacuation, o.claims⟩
  keys k := ⟨k.waiting, k.playing, k.both⟩

theorem upholds_offer (s : State) (f : TxFrame) (hf : f.sending = false) : Upholds s (s.offer f) := upholds_of_calm (calm_offer s f hf)

theorem upholds_count (s : State) (k : Counter) : Upholds s (s.count k) := upholds_of_calm (calm_count s k)

theorem upholds_raise (s : State) (k : FaultKind) (subject : Option Nat) : Upholds s (s.raise k subject) :=
  upholds_of_calm (calm_raise s k subject)

theorem upholds_clear (s : State) (k : FaultKind) (subject : Option Nat) : Upholds s (s.clear k subject) :=
  upholds_of_calm (calm_clear s k subject)

/-! ### Cues (R56 to R73) -/

theorem upholds_setSlot (s : State) (id : Nat) (n : CueName) (f : CueSlot → CueSlot) : Upholds s (s.setSlot id n f) := by
  unfold State.setSlot
  split
  · exact Upholds.refl s
  next r hr => exact upholds_putCall_of_call hr rfl rfl

theorem upholds_fire (s : State) (id : Nat) (n : CueName) (platforms : List Nat) : Upholds s (s.fire id n platforms) := by
  unfold State.fire
  split
  · exact Upholds.refl s
  next r hr =>
    dsimp only
    have hput (x : CueSlot) : Upholds s (s.putCall (r.setSlot n x)) := upholds_putCall_of_call hr rfl rfl
    exact Upholds.ite (hput _) ((upholds_offerEntry _ _).after (hput _))

theorem upholds_fireHere (s : State) (id : Nat) (n : CueName) : Upholds s (s.fireHere id n) := by
  unfold State.fireHere
  split
  · exact Upholds.refl s
  · exact upholds_fire s id n _

theorem upholds_withdraw (s : State) (id : Nat) (n : CueName) : Upholds s (s.withdraw id n) := upholds_stopKey s _ _

theorem upholds_compare (s : State) (id : Nat) (n : CueName) : Upholds s (s.compare id n) := by
  have hset (f : CueSlot → CueSlot) : Upholds s (s.setSlot id n f) := upholds_setSlot s id n f
  unfold State.compare
  split
  · exact Upholds.refl s
  · dsimp only
    split
    · exact Upholds.ite (hset _) (Upholds.refl s)
    · split
      · exact Upholds.ite (hset _) (Upholds.refl s)
      · exact hset _
      · exact (hset _).trans (upholds_withdraw _ id n)
      · exact (hset _).trans (upholds_withdraw _ id n)
      · exact Upholds.refl s

theorem upholds_compareAll (s : State) (id : Nat) : Upholds s (s.compareAll id) := Upholds.foldl (fun s n => upholds_compare s id n) _ s

theorem upholds_withdrawList (s : State) (id : Nat) (l : List CueName) : Upholds s (l.foldl (fun s n => s.withdraw id n) s) :=
  Upholds.foldl (fun s n => upholds_withdraw s id n) l s

theorem upholds_withdrawMoved (s : State) (id : Nat) : Upholds s (s.withdrawMoved id) := by
  unfold State.withdrawMoved
  split
  · exact upholds_withdrawList s id _
  · exact upholds_withdrawList s id _
  · exact upholds_withdrawList s id _
  · exact Upholds.refl s

theorem upholds_readEvent (s : State) (id : Nat) (e : TrainEvent) : Upholds s (s.readEvent id e) := by
  unfold State.readEvent
  split
  · exact Upholds.refl s
  next r hr => exact upholds_putCall_of_call hr rfl rfl

theorem upholds_readFor (s : State) (id : Nat) (n : CueName) (q : Cue) : Upholds s (s.readFor id n q) := by
  unfold State.readFor
  split
  · exact upholds_readEvent s id _
  · exact Upholds.refl s

theorem upholds_examineArmed (s : State) (id : Nat) (n : CueName) (q : Cue) (m : Nat) : Upholds s (s.examineArmed id n q m) := by
  unfold State.examineArmed
  dsimp only
  refine Upholds.trans (upholds_readFor s id n q) ?_
  split
  · exact Upholds.refl _
  · split
    · exact Upholds.refl _
    · exact Upholds.ite (upholds_fireHere _ id n) ((upholds_setSlot _ id n _).trans (upholds_count _ _))

theorem upholds_examineFired (s : State) (id : Nat) (n : CueName) (q : Cue) (m : Nat) (next : Option Nat) :
    Upholds s (s.examineFired id n q m next) := by
  unfold State.examineFired
  split
  · exact upholds_setSlot s id n _
  · split
    · exact Upholds.refl _
    · exact Upholds.ite (upholds_fireHere _ id n) ((upholds_setSlot _ id n _).trans (upholds_count _ _))

theorem upholds_examine (s : State) (m id : Nat) (n : CueName) : Upholds s (s.examine m id n) := by
  unfold State.examine
  split
  · exact Upholds.refl s
  · dsimp only
    split
    · split
      · exact upholds_examineArmed s id n _ m
      · exact Upholds.ite (upholds_examineFired s id n _ m _) (Upholds.refl s)
      · exact Upholds.refl s
      · exact Upholds.refl s
    · exact Upholds.refl s

/-- A second event (R61, R64). -/
theorem upholds_secondEvent (s : State) : Upholds s s.secondEvent := by
  unfold State.secondEvent
  split
  · exact Upholds.refl s
  next m _ => exact Upholds.foldl (fun s id => Upholds.foldl (fun s n => upholds_examine s m id n) allCues s) _ s

theorem upholds_delayTest (s : State) (id : Nat) : Upholds s (s.delayTest id) := by
  unfold State.delayTest
  split
  · exact Upholds.refl s
  next r hr =>
    split
    · exact Upholds.refl s
    next d hd =>
      have hput : Upholds s (s.putCall { r with lastDelay := some d }) := upholds_putCall_of_call hr rfl rfl
      exact Upholds.ite (hput.trans (upholds_fireHere _ id _)) (Upholds.refl s)

theorem upholds_delayEnd (s : State) (id : Nat) : Upholds s (s.delayEnd id) := by
  unfold State.delayEnd
  split
  · exact Upholds.refl s
  next r hr =>
    refine Upholds.ite (Upholds.trans ?_ (upholds_withdraw _ id _)) (Upholds.refl s)
    exact upholds_putCall_of_call hr rfl rfl

theorem upholds_delayRules (s : State) (id : Nat) : Upholds s (s.delayRules id) :=
  (upholds_delayTest s id).trans (upholds_delayEnd _ id)

theorem upholds_rearm (s : State) (id : Nat) (n : CueName) : Upholds s (s.rearm id n) := by
  unfold State.rearm
  split
  · exact Upholds.ite (upholds_setSlot s id n _) (Upholds.refl s)
  · exact Upholds.refl s

theorem upholds_rearmAll (s : State) (id : Nat) : Upholds s (s.rearmAll id) := Upholds.foldl (fun s n => upholds_rearm s id n) _ s

theorem upholds_cancelOccasion (s : State) (id : Nat) : Upholds s (s.cancelOccasion id) := by
  unfold State.cancelOccasion
  split
  · exact Upholds.refl s
  · exact Upholds.ite (upholds_fireHere s id _) (Upholds.refl s)

theorem upholds_alterationOccasion (s : State) (id : Nat) (platforms : List Nat) : Upholds s (s.alterationOccasion id platforms) := by
  unfold State.alterationOccasion
  split
  · exact Upholds.refl s
  · exact Upholds.ite (upholds_fire s id _ _) (Upholds.refl s)

theorem upholds_onEvent (s : State) (id : Nat) (e : TrainEvent) (n : CueName) : Upholds s (s.onEvent id e n) := by
  unfold State.onEvent
  split
  · exact Upholds.refl s
  · exact Upholds.ite (upholds_fireHere s id n) (Upholds.refl s)

theorem upholds_noticeInserted (s : State) (id : Nat) : Upholds s (s.noticeInserted id) :=
  (upholds_compareAll s id).trans (upholds_delayRules _ id)

theorem upholds_noticeState (s : State) (id : Nat) (old : CallState) (event : Option TrainEvent) :
    Upholds s (s.noticeState id old event) := by
  have hfirst := (upholds_compareAll s id).trans (upholds_withdrawMoved _ id)
  unfold State.noticeState
  obtain _ | e := event <;> dsimp only
  on_goal 1 => refine hfirst.trans ?_
  on_goal 2 => refine (hfirst.trans (Upholds.foldl (fun s n => upholds_onEvent s id e n) allCues _)).trans ?_
  all_goals
    split
    · exact Upholds.refl _
    · split
      · exact upholds_cancelOccasion _ id
      · exact upholds_alterationOccasion _ id _
      · exact Upholds.ite (Upholds.refl _) (upholds_alterationOccasion _ id _)
      all_goals exact Upholds.refl _

theorem upholds_noticeAmended (s : State) (id : Nat) : Upholds s (s.noticeAmended id) :=
  (upholds_delayRules s id).trans (upholds_rearmAll _ id)

theorem upholds_noticeReplaced (s : State) (id : Nat) (x : Replaced) : Upholds s (s.noticeReplaced id x) := by
  unfold State.noticeReplaced
  dsimp only
  refine Upholds.trans (Upholds.trans (Upholds.ite ((upholds_withdrawList s id _).trans (upholds_compareAll _ id)) (Upholds.refl s))
    (Upholds.ite (upholds_delayRules _ id) (Upholds.refl _))) (Upholds.ite (upholds_rearmAll _ id) (Upholds.refl _))

theorem upholds_noticeReinstated (s : State) (id : Nat) : Upholds s (s.noticeReinstated id) := by
  unfold State.noticeReinstated
  split
  · exact Upholds.refl s
  · exact ((upholds_withdrawList s id _).trans (upholds_compareAll _ id)).trans (upholds_delayRules _ id)

theorem upholds_noticeLocalMove (s : State) (id old new : Nat) : Upholds s (s.noticeLocalMove id old new) :=
  upholds_alterationOccasion s id _

theorem upholds_noticeAdopted (s : State) (id : Nat) (created : Bool) (before : Nat) : Upholds s (s.noticeAdopted id created before) := by
  unfold State.noticeAdopted
  dsimp only
  refine Upholds.trans ((upholds_compareAll s id).trans (upholds_delayRules _ id)) ?_
  split
  · exact Upholds.refl _
  · exact Upholds.ite (upholds_alterationOccasion _ id _) (Upholds.refl _)

/-! ### The call table's frames (R37 to R55) -/

theorem upholds_freeCall (s : State) (id : Nat) : Upholds s (s.freeCall id) := by
  unfold State.freeCall
  exact (upholds_calls List.filter_sublist).trans (Upholds.foldl (fun s (e : Entry) => upholds_of_calm (calm_removeEntry s e.key _)) _ _)

theorem calls_removeEntry (s : State) (k : Key) (r : Result) : (s.removeEntry k r).calls = s.calls := (keeps_removeEntry s k r).calls

theorem calls_freeCall (s : State) (id : Nat) : (s.freeCall id).calls = othersOf id s.calls := by
  unfold State.freeCall
  exact List.foldlRecOn (motive := fun t : State => t.calls = othersOf id s.calls) _ _ rfl
    fun t h e _ => (calls_removeEntry t e.key _).trans h

theorem call_freeCall_of_ne {s : State} {id j : Nat} (h : j ≠ id) : (s.freeCall id).call j = s.call j := by
  unfold State.call
  rw [calls_freeCall, othersOf, List.find?_filter]
  congr 1
  funext r
  by_cases hr : r.id = j
  · simp [hr, h]
  · simp [hr]

theorem mem_of_evictee {l : List CallRecord} {r : CallRecord} (h : evictee l = some r) : r ∈ l := by
  have hinv : ∀ b, evictee l = some b → b ∈ l := by
    unfold evictee
    refine List.foldlRecOn (motive := fun best : Option CallRecord => ∀ b, best = some b → b ∈ l) l _ (fun b hb => nomatch hb) ?_
    intro best ih r hr b hb
    split at hb
    · exact ih b hb
    · cases hb
      exact hr
    · split at hb
      · cases hb
        exact hr
      · exact ih b hb
  exact hinv r h

/-- Room is made by freeing an ended record (R40): where it is, the table has fewer than 48 records, and no other call is touched. -/
theorem upholds_makeRoom (s : State) : Upholds s s.makeRoom.1 := by
  unfold State.makeRoom
  split
  · exact Upholds.refl s
  · split
    · exact upholds_freeCall s _
    · exact Upholds.refl s

theorem room_of_makeRoom {s t : State} (h : s.makeRoom = (t, true)) (hfit : s.CallsFit) : t.calls.length < 48 := by
  unfold State.makeRoom at h
  split at h
  next hlt =>
    cases h
    exact hlt
  next =>
    split at h
    next r hr =>
      cases h
      have hmem : r ∈ s.calls := (List.mem_filter.mp (mem_of_evictee hr)).1
      rw [calls_freeCall]
      exact length_othersOf_lt hfit hmem
    · cases h

theorem upholds_refuseCall (s : State) (id platform : Nat) : Upholds s (s.refuseCall id platform) :=
  (upholds_offer s _ rfl).trans (upholds_count _ _)

/-- A new record put after room was made for it. -/
theorem upholds_putNew {s t : State} {r : CallRecord} (points : List Nat) (posted : Nat) (h : s.makeRoom = (t, true)) :
    Upholds s (t.putCall (r.givePoints t.calls points posted)) := by
  have hroom := upholds_makeRoom s
  rw [h] at hroom
  -- the table has room only where it fitted before
  have hfit : s.CallsFit → (t.putCall (r.givePoints t.calls points posted)).CallsFit := fun hs =>
    callsFit_putCall_givePoints points posted (.inr (room_of_makeRoom h hs)) (hroom.calls hs) (r := r) rfl rfl
  refine ⟨⟨hroom.pending, hroom.startup, hroom.handedOver, fun k => ?_, hroom.counters, hroom.faults, hroom.testStep, hfit, hroom.entries,
    fun k o => ?_⟩, fun k => ?_⟩
  · exact txLegal_of_queue (s := t) rfl rfl (hroom.txLegal k)
  · obtain ⟨a, b, c, d⟩ := hroom.owners k o
    exact ⟨a, b, c, d⟩
  · obtain ⟨a, b, c⟩ := hroom.keys k
    exact ⟨a, b, c⟩

/-- A held record changed and given points (R35). -/
theorem upholds_putPoints {s : State} {r r' : CallRecord} {id : Nat} {q : CallRecord} (points : List Nat) (posted : Nat)
    (hq : s.call id = some q) (hr : r.id = id) (hid : r'.id = r.id) (hpoints : r'.points = (r.givePoints s.calls points posted).points) :
    Upholds s (s.putCall r') :=
  upholds_putCall fun h => callsFit_putCall_givePoints points posted (.inl ⟨q, by rw [hr]; exact hq⟩) h hid hpoints

theorem upholds_endCall {s : State} {id : Nat} {q r : CallRecord} (hq : s.call id = some q) (hid : r.id = q.id)
    (hpoints : r.points = q.points) (st : CallState) (event : Option TrainEvent) : Upholds s (s.endCall r st event) :=
  (upholds_putCall_of_call (r := r.enterEnded st s.lingerEnd) hq hid hpoints).trans (upholds_noticeState _ _ _ _)

theorem upholds_sendHandover {s : State} {id : Nat} {q r : CallRecord} (hq : s.call id = some q) (hid : r.id = q.id)
    (hpoints : r.points = q.points) (target : Nat) (st : CallState) : Upholds s (s.sendHandover r target st) :=
  (upholds_putCall_of_call (r := r.readEvents s.now s.minuteNow) hq hid hpoints).trans (upholds_offer _ _ rfl)

theorem upholds_resendHandover (s : State) (id : Nat) : Upholds s (s.resendHandover id) := by
  unfold State.resendHandover
  split
  · exact Upholds.refl s
  next r hr =>
    split
    · exact Upholds.refl s
    · exact upholds_sendHandover hr rfl rfl _ _

theorem upholds_insertPost (s : State) (p : PostFields) : Upholds s (s.insertPost p) := by
  unfold State.insertPost
  split
  next h => exact (upholds_putNew p.points p.points.length h).trans (upholds_noticeInserted _ _)
  next h =>
    have hroom := upholds_makeRoom s
    rw [h] at hroom
    exact hroom.trans (upholds_refuseCall _ _ _)

theorem upholds_reinstate {s : State} {p : PostFields} {q : CallRecord} (hq : s.call p.id = some q) : Upholds s (s.reinstate p) := by
  refine (upholds_noticeReinstated _ _).after ((upholds_noticeState _ _ _ _).after ?_)
  exact upholds_putPoints (r := p.record) p.points p.points.length hq rfl rfl rfl

theorem upholds_replacePost {s : State} {p : PostFields} {r : CallRecord} (hr : s.call p.id = some r) : Upholds s (s.replacePost r p) := by
  unfold State.replacePost
  dsimp only
  refine Upholds.trans (Upholds.trans ?_ (upholds_noticeReplaced _ _ _)) (Upholds.ite (upholds_resendHandover _ _) (Upholds.refl _))
  exact upholds_putPoints (r := r) p.points p.points.length hr (id_of_call hr) rfl rfl

theorem upholds_callPost (s : State) (p : PostFields) : Upholds s (s.callPost p) := by
  unfold State.callPost
  split
  · split
    · exact upholds_insertPost s p
    next r hr => exact Upholds.ite (upholds_reinstate hr) (upholds_replacePost hr)
  · exact Upholds.refl s

theorem upholds_callAmend (s : State) (a : AmendFields) : Upholds s (s.callAmend a) := by
  unfold State.callAmend
  split
  · exact Upholds.refl s
  next r hr =>
    dsimp only
    refine Upholds.ite (Upholds.trans ?_ (Upholds.ite (upholds_resendHandover _ _) (Upholds.refl _))) (Upholds.refl s)
    exact (upholds_putCall_of_call (r := { r with expected := a.expected }) hr rfl rfl).trans (upholds_noticeAmended _ _)

theorem upholds_cancelCall {s : State} {id : Nat} {r : CallRecord} (hr : s.call id = some r) : Upholds s (s.cancelCall r) := by
  unfold State.cancelCall
  obtain _ | m := r.moving <;> dsimp only
  on_goal 2 => refine Upholds.trans (upholds_sendHandover hr rfl rfl m.target .cancelled) ?_
  all_goals
    split
    · exact Upholds.refl _
    next q hq => exact upholds_endCall hq rfl rfl _ _

theorem upholds_callCancel (s : State) (id : Nat) : Upholds s (s.callCancel id) := by
  unfold State.callCancel
  split
  · exact Upholds.refl s
  next r hr => exact Upholds.ite (upholds_cancelCall hr) (Upholds.refl s)

theorem upholds_trainEvent (s : State) (x : EventFields) : Upholds s (s.trainEvent x) := by
  unfold State.trainEvent
  split
  · exact Upholds.refl s
  next r hr =>
    split
    · split
      · exact upholds_count s _
      next st hst =>
        split
        · dsimp only
          split
          · refine (upholds_noticeState _ _ _ _).after ?_
            exact upholds_putCall_of_call hr rfl rfl
          · refine upholds_endCall hr ?_ ?_ st _ <;> rfl
        · exact upholds_count s _
    · exact Upholds.refl s

theorem call_putCall {s : State} {r : CallRecord} {id : Nat} (h : r.id = id) : (s.putCall r).call id = some r := by
  subst h
  exact call_putCall_self s r

theorem upholds_beginHandover {s : State} {id : Nat} {r : CallRecord} (hr : s.call id = some r) (target : Nat) :
    Upholds s (s.beginHandover r target) := by
  unfold State.beginHandover
  dsimp only
  refine (upholds_noticeState _ _ _ _).after (Upholds.after (upholds_sendHandover (call_putCall rfl) rfl rfl _ _) ?_)
  exact upholds_putCall_of_call hr rfl rfl

theorem upholds_localMove {s : State} {id : Nat} {r : CallRecord} (hr : s.call id = some r) (platform : Nat) :
    Upholds s (s.localMove r platform) :=
  (upholds_putCall_of_call (r := { r with platform := platform }) hr rfl rfl).trans (upholds_noticeLocalMove _ _ _ _)

theorem upholds_moveAgain {s : State} {id : Nat} {r : CallRecord} (hr : s.call id = some r) (m : Moving) (platform : Nat) :
    Upholds s (s.moveAgain r m platform) := by
  unfold State.moveAgain
  dsimp only
  split
  · refine (upholds_noticeLocalMove _ _ _ _).after ((upholds_noticeState _ _ _ _).after ?_)
    exact upholds_putCall_of_call hr rfl rfl
  · refine Upholds.after (upholds_sendHandover (call_putCall rfl) rfl rfl _ _) ?_
    exact upholds_putCall_of_call hr rfl rfl

theorem upholds_callMove (s : State) (x : CallPlatform) : Upholds s (s.callMove x) := by
  unfold State.callMove
  split
  · exact Upholds.refl s
  next r hr =>
    split
    · exact upholds_moveAgain hr _ _
    · exact Upholds.ite (Upholds.ite (Upholds.refl s) (Upholds.ite (upholds_localMove hr _) (upholds_beginHandover hr _))) (Upholds.refl s)

theorem upholds_callAdopt (s : State) (x : CallPlatform) : Upholds s (s.callAdopt x) := by
  unfold State.callAdopt
  split
  · exact Upholds.refl s
  next r hr =>
    split
    · exact Upholds.refl s
    · exact Upholds.ite (upholds_endCall hr rfl rfl _ _) (Upholds.refl s)

theorem upholds_failMove {s : State} {id : Nat} {r : CallRecord} (hr : s.call id = some r) : Upholds s (s.failMove r) :=
  ((upholds_putCall_of_call (r := r.enterEnded .moveFailed s.lingerEnd) hr rfl rfl).trans (upholds_raise _ _ _)).trans
    (upholds_noticeState _ _ _ _)

theorem upholds_callRefuse (s : State) (x : CallPlatform) : Upholds s (s.callRefuse x) := by
  unfold State.callRefuse
  split
  · exact Upholds.refl s
  next r hr =>
    split
    · exact Upholds.refl s
    · exact Upholds.ite (upholds_failMove hr) (Upholds.refl s)

theorem upholds_sendAdopt (s : State) (h : Handover) : Upholds s (s.sendAdopt h) := upholds_offer s _ rfl

theorem upholds_adoptNew (s : State) (h : Handover) : Upholds s (s.adoptNew h) := by
  unfold State.adoptNew
  split
  next hr => exact ((upholds_putNew h.points h.posted hr).trans (upholds_sendAdopt _ h)).trans (upholds_noticeAdopted _ _ _ _)
  next hr =>
    have hroom := upholds_makeRoom s
    rw [hr] at hroom
    exact hroom.trans (upholds_refuseCall _ _ _)

theorem upholds_adopt (s : State) (h : Handover) : Upholds s (s.adopt h) := by
  unfold State.adopt
  split
  · exact upholds_adoptNew s h
  next r hr =>
    have hput {r' : CallRecord} (hid : r'.id = r.id) (hpoints : r'.points = (r.carry h s.calls).points) : Upholds s (s.putCall r') :=
      upholds_putPoints (r := r) h.points h.posted hr (id_of_call hr) hid hpoints
    split
    · exact Upholds.refl s
    · unfold State.adoptMoving
      refine (upholds_noticeAdopted _ _ _ _).after ((upholds_noticeState _ _ _ _).after ((upholds_sendAdopt _ h).after ?_))
      refine hput ?_ ?_ <;> rfl
    · split
      · unfold State.adoptLive
        refine (upholds_noticeAdopted _ _ _ _).after ((upholds_sendAdopt _ h).after ?_)
        refine hput ?_ ?_ <;> rfl
      · unfold State.adoptEnded
        refine (upholds_noticeAdopted _ _ _ _).after ((upholds_noticeState _ _ _ _).after ((upholds_sendAdopt _ h).after ?_))
        refine hput ?_ ?_ <;> rfl

theorem upholds_callHandover (s : State) (h : Handover) : Upholds s (s.callHandover h) := by
  unfold State.callHandover
  split
  · exact Upholds.ite (upholds_callCancel s _) (upholds_adopt s h)
  · split
    · exact Upholds.refl s
    next r hr => exact Upholds.ite (upholds_endCall hr rfl rfl _ _) (Upholds.refl s)

theorem upholds_purge (s : State) : Upholds s s.purge := by
  unfold State.purge
  refine (upholds_walk _).after ?_
  exact (upholds_calls (List.nil_sublist _)).trans (Upholds.foldl (fun s (e : Entry) => upholds_of_calm (calm_removeEntry s e.key _)) _ _)

theorem upholds_lingerOver (s : State) (id : Nat) : Upholds s (s.lingerOver id) := by
  unfold State.lingerOver
  split
  · exact Upholds.refl s
  · exact (upholds_advanceTo s _).trans (upholds_freeCall _ id)

theorem upholds_moveOver (s : State) (id : Nat) : Upholds s (s.moveOver id) := by
  unfold State.moveOver
  split
  · exact Upholds.refl s
  next r hr =>
    split
    · exact Upholds.refl s
    · exact Upholds.ite ((upholds_advanceTo s _).trans (upholds_failMove (id := id) hr)) (Upholds.refl s)

end Sys2Proof.Proofs.CallRules
end

section
/-! What evacuation, the contacts, the zones and the line uphold (R1 to R19, R142 to R169): the commands other than those of start-up. -/

namespace Sys2Proof.Proofs.Commands

open Sys2Proof.Machine
open Sys2Proof.Proofs.LiveClose Sys2Proof.Proofs.Faults Sys2Proof.Proofs.Upkeep Sys2Proof.Proofs.Uphold Sys2Proof.Proofs.CallRules

/-- What `Upholds` says but for the owners, which an operation of several steps may leave apart in between. -/
structure Lawful (s t : State) : Prop where
  pending : t.pending = s.pending
  startup : t.startup = s.startup
  handedOver : t.port.handedOver = s.port.handedOver
  txLegal : s.TxQueueLegal → t.TxQueueLegal
  counters : s.CountersFit → t.CountersFit
  faults : s.FaultsDistinct → t.FaultsDistinct
  testStep : s.TestStepLegal → t.TestStepLegal
  calls : s.CallsFit → t.CallsFit
  entries : s.EntriesFit → t.EntriesFit
  keys : s.KeysApart → t.KeysApart

theorem lawful_of_upholds {s t : State} (h : Upholds s t) : Lawful s t :=
  ⟨h.pending, h.startup, h.handedOver, h.txLegal, h.counters, h.faults, h.testStep, h.calls, h.entries, h.keys⟩

theorem lawful_of_calm {s t : State} (h : Calm s t) : Lawful s t := lawful_of_upholds (upholds_of_calm h)

theorem upholds_of_lawful {s t : State} (h : Lawful s t) (ho : s.StartOrder → s.OwnersAgree → t.OwnersAgree) : Upholds s t :=
  ⟨⟨h.pending, h.startup, h.handedOver, h.txLegal, h.counters, h.faults, h.testStep, h.calls, h.entries, ho⟩, h.keys⟩

namespace Lawful

theorem refl (s : State) : Lawful s s := lawful_of_upholds (Upholds.refl s)

theorem trans {s t u : State} (h : Lawful s t) (k : Lawful t u) : Lawful s u where
  pending := k.pending.trans h.pending
  startup := k.startup.trans h.startup
  handedOver := k.handedOver.trans h.handedOver
  txLegal := k.txLegal ∘ h.txLegal
  counters := k.counters ∘ h.counters
  faults := k.faults ∘ h.faults
  testStep := k.testStep ∘ h.testStep
  calls := k.calls ∘ h.calls
  entries := k.entries ∘ h.entries
  keys := k.keys ∘ h.keys

theorem foldl {α : Type} {f : State → α → State} (hf : ∀ s a, Lawful s (f s a)) (l : List α) (s : State) : Lawful s (l.foldl f s) :=
  List.foldlRecOn l f (refl s) fun t h a _ => h.trans (hf t a)

end Lawful

theorem lawful_setZone (s : State) (z : ZoneId) (f : Zone → Zone) : Lawful s (s.setZone z f) :=
  ⟨rfl, rfl, rfl, txLegal_of_queue rfl rfl, id, id, id, fun h => ⟨h.count, h.ordered, h.cells⟩, id,
    fun h => ⟨h.waiting, h.playing, h.both⟩⟩

theorem keysApart_setChan {s : State} {c : ChanId} {o : Option ChanInst} (ho : ∀ i, o = some i → i.key = none) (h : s.KeysApart) :
    (s.setChan c o).KeysApart := by
  obtain ⟨waiting, playing, both⟩ := (keysApart_iff s).mp h
  have hold (d : ChanId) (k : Key) (hd : keyOn (s.setChan c o) d = some (some k)) : keyOn s d = some (some k) := by
    obtain rfl | hne := eq_or_ne c d
    · obtain ⟨i, hi, hik⟩ := keyOn_eq_some_iff.mp hd
      rw [chan_setChan_self] at hi
      rw [ho i hi] at hik
      cases hik
    · unfold keyOn at hd
      rwa [chan_setChan_of_ne s c d o hne] at hd
  exact (keysApart_iff _).mpr ⟨waiting, fun a b k ha hb => playing a b k (hold a k ha) (hold b k hb),
    fun e he d hd => both e he d (hold d e.key hd)⟩

/-- A channel set FREE, or given an instance without a key. -/
theorem lawful_setChan (s : State) (c : ChanId) {o : Option ChanInst} (ho : ∀ i, o = some i → i.key = none) : Lawful s (s.setChan c o) :=
  ⟨rfl, rfl, rfl, txLegal_of_queue rfl rfl, id, id, id, fun h => ⟨h.count, h.ordered, h.cells⟩, id, keysApart_setChan ho⟩

/-! ### What stands still while evacuation is ACTIVE (R97, R154) -/

/-- From `s` to `t` no zone changed its state, no channel its key, and own claim records stand as they did; the queue may have grown. -/
structure Still (s t : State) : Prop where
  startup : t.startup = s.startup
  evac : t.evac = s.evac
  zone : ∀ z : ZoneId, (t.zone z).present = (s.zone z).present ∧ (t.zone z).state = (s.zone z).state
  key : ∀ c : ChanId, keyOn t c = keyOn s c
  claims : ClaimsStand s → ClaimsStand t

theorem still_of_calm {s t : State} (h : Calm s t) : Still s t := ⟨h.keeps.startup, h.keeps.evac, h.zone, h.key, h.claims⟩

theorem Still.refl (s : State) : Still s s := still_of_calm (Calm.refl s)

theorem Still.trans {s t u : State} (h : Still s t) (k : Still t u) : Still s u where
  startup := k.startup.trans h.startup
  evac := k.evac.trans h.evac
  zone z := ⟨(k.zone z).1.trans (h.zone z).1, (k.zone z).2.trans (h.zone z).2⟩
  key c := (k.key c).trans (h.key c)
  claims := k.claims ∘ h.claims

theorem Still.active {s t : State} (h : Still s t) (hactive : s.evac.active = true) : t.evac.active = true := by
  rw [h.evac]
  exact hactive

theorem pass_of_active {s : State} (hactive : s.evac.active = true) (l : List Entry) : State.pass l s = (s, false) := by
  induction l with
  | nil => rfl
  | cons e rest ih =>
    have hverdict : s.verdict e = .pass := by
      by_cases hearly : s.now < e.notBefore <;> simp [State.verdict, hactive, hearly]
    unfold State.pass
    rw [hverdict]
    exact ih

/-- A walk passes over every entry while evacuation is ACTIVE (R97, test 2). -/
theorem calm_walk_of_active {s : State} (hactive : s.evac.active = true) : Calm s s.walk := by
  have hwalk : State.walkN (s.queue.entries.length + 1) s = s := by
    unfold State.walkN
    rw [pass_of_active hactive]
  unfold State.walk
  rw [hwalk]
  exact ((calm_walkedAt s _).trans (calm_arbitrate _)).trans (calm_settleGates _)

theorem still_walk {s : State} (hactive : s.evac.active = true) : Still s s.walk := still_of_calm (calm_walk_of_active hactive)

theorem still_insertNew (s : State) (e : Entry) : Still s (s.insertNew e) := ⟨rfl, rfl, fun _ => ⟨rfl, rfl⟩, fun _ => rfl, id⟩

theorem still_setEntries (s : State) (l : List Entry) : Still s (s.setEntries l) := ⟨rfl, rfl, fun _ => ⟨rfl, rfl⟩, fun _ => rfl, id⟩

section
variable {s : State} (hactive : s.evac.active = true)
include hactive

theorem still_offerNew (e : Entry) : Still s (s.offerNew e) := by
  unfold State.offerNew
  have hins (t : State) (h : Still s t) : Still s (t.insertNew e).walk :=
    (h.trans (still_insertNew t e)).trans (still_walk ((h.trans (still_insertNew t e)).active hactive))
  split
  · exact hins s (Still.refl s)
  · split
    · split
      · exact hins _ (still_of_calm (calm_removeEntry s _ _))
      · exact still_of_calm (calm_give s _ _)
    · exact still_of_calm (calm_give s _ _)

theorem still_offerEntry (e : Entry) : Still s (s.offerEntry e) := by
  unfold State.offerEntry
  split
  · have hset (l : List Entry) := (still_of_calm (calm_dropEntry s e.key)).trans (still_setEntries _ l)
    exact (hset _).trans (still_walk ((hset _).active hactive))
  · split
    · exact still_offerNew hactive e
    · split
      · have hset (c : ChanId) (k : Option Continuation) := still_of_calm (calm_setCont s c k)
        exact (hset _ _).trans (still_walk ((hset _ _).active hactive))
      · exact Still.refl s
      · exact Still.refl s

theorem still_offerRenewal (k : Continuation) : Still s (s.offerRenewal k) := by
  unfold State.offerRenewal
  split
  · exact Still.refl s
  · exact still_offerEntry hactive _

theorem still_offerNext (k : Continuation) : Still s (s.offerNext k) := by
  unfold State.offerNext
  split
  · exact still_offerRenewal hactive k
  · split
    · exact Still.refl s
    · split
      · exact still_offerEntry hactive _
      · exact Still.refl s

theorem still_requeue (k : Continuation) (o : Ending) : Still s (s.requeue k o) := by
  unfold State.requeue
  split
  · exact still_of_calm (calm_give s _ _)
  · exact still_offerEntry hactive _

theorem still_settleEnd (k : Continuation) (o : Ending) : Still s (s.settleEnd k o) := by
  have hgive (r : Result) : Still s (s.give k.entry.key r) := still_of_calm (calm_give s _ r)
  have hrenew (r : Result) : Still s ((s.give k.entry.key r).offerRenewal k) :=
    (hgive r).trans (still_offerRenewal ((hgive r).active hactive) k)
  unfold State.settleEnd
  dsimp only
  split
  · exact (hgive _).trans (still_offerNext ((hgive _).active hactive) k)
  · exact still_requeue hactive k _
  · exact still_requeue hactive k _
  · exact hrenew _
  · exact hrenew _
  · exact hgive _
  · exact hgive _
  all_goals exact hrenew _

theorem still_reportEnd (c : ChanId) (i : ChanInst) : Still s (s.reportEnd c i) := by
  unfold State.reportEnd
  split
  · have hset := still_of_calm (calm_setCont s c none)
    exact hset.trans (still_settleEnd (hset.active hactive) _ _)
  · exact Still.refl s

end

/-! ### Entering evacuation (R154, R155) -/

theorem state_enterTail {s : State} {c : ChanId} {i : ChanInst} (o : Ending) (h : (s.enterTail c o).chan c = some i) : i.state = .tail := by
  cases hchan : s.chan c with
  | none =>
    have hs : s.enterTail c o = s := by simp only [State.enterTail, hchan]
    rw [hs, hchan] at h
    cases h
  | some j =>
    obtain htail | htail := eq_or_ne j.state .tail
    · rw [enterTail_of_tail o hchan htail, hchan] at h
      cases h
      exact htail
    · rw [chan_enterTail_self o hchan htail] at h
      cases h
      rfl

/-- After an entry to TAIL the channel has no own claim record (R107, R112). -/
theorem claimOf_enterTail {s : State} (c : ChanId) (o : Ending) (h : ClaimsStand s) : (s.enterTail c o).claimOf c = none := by
  cases hr : (s.enterTail c o).claimOf c with
  | none => rfl
  | some r =>
    obtain ⟨i, hi, hlive⟩ := (calm_enterTail s c o).claims h c r hr
    exact absurd (state_enterTail o hi) hlive

theorem claimsStand_setChan_none {s : State} {c : ChanId} (hclaim : s.claimOf c = none) (h : ClaimsStand s) :
    ClaimsStand (s.setChan c none) := by
  intro d r hr
  have hr' : s.claimOf d = some r := hr
  obtain rfl | hne := eq_or_ne c d
  · rw [hclaim] at hr'
    cases hr'
  · rw [chan_setChan_of_ne s c d none hne]
    exact h d r hr'

theorem lawful_displace (s : State) : Lawful s s.displace := by
  unfold State.displace
  split
  · exact Lawful.refl s
  · dsimp only
    have htail := lawful_of_calm (calm_enterTail s 0 .preempted)
    split
    · exact htail
    · refine Lawful.trans (htail.trans ?_) (lawful_of_upholds (upholds_reportEnd _ 0 _))
      exact lawful_setChan _ 0 fun _ h => nomatch h

theorem lawful_takeChannels (s : State) : Lawful s s.takeChannels :=
  (((lawful_displace s).trans (lawful_of_calm (calm_enterTail _ 1 _))).trans (lawful_of_calm (calm_enterTail _ 2 _))).trans
    (lawful_of_calm (calm_enterTail _ 3 _))

/-- What is known of the zones and the claims while the channels are taken. -/
structure Taken (s t : State) : Prop where
  startup : t.startup = s.startup
  evac : t.evac = s.evac
  zone : ∀ z : ZoneId, (t.zone z).present = (s.zone z).present ∧ (t.zone z).state = (s.zone z).state
  claims : ClaimsStand s → ClaimsStand t

theorem taken_of_still {s t : State} (h : Still s t) : Taken s t := ⟨h.startup, h.evac, h.zone, h.claims⟩

theorem taken_of_calm {s t : State} (h : Calm s t) : Taken s t := taken_of_still (still_of_calm h)

theorem Taken.trans {s t u : State} (h : Taken s t) (k : Taken t u) : Taken s u where
  startup := k.startup.trans h.startup
  evac := k.evac.trans h.evac
  zone z := ⟨(k.zone z).1.trans (h.zone z).1, (k.zone z).2.trans (h.zone z).2⟩
  claims := k.claims ∘ h.claims

theorem taken_displace {s : State} (hactive : s.evac.active = true) : Taken s s.displace := by
  unfold State.displace
  split
  · exact taken_of_calm (Calm.refl s)
  · dsimp only
    have htail := calm_enterTail s 0 .preempted
    split
    · exact taken_of_calm htail
    next i hi =>
      have hactive' : ((s.enterTail 0 .preempted).setChan 0 none).evac.active = true := (still_of_calm htail).active hactive
      refine Taken.trans (t := (s.enterTail 0 .preempted).setChan 0 none)
        ⟨htail.keeps.startup, htail.keeps.evac, htail.zone, fun h => ?_⟩ (taken_of_still (still_reportEnd hactive' 0 i))
      exact claimsStand_setChan_none (claimOf_enterTail 0 .preempted h) (htail.claims h)

theorem taken_takeChannels {s : State} (hactive : s.evac.active = true) : Taken s s.takeChannels :=
  (((taken_displace hactive).trans (taken_of_calm (calm_enterTail _ 1 _))).trans (taken_of_calm (calm_enterTail _ 2 _))).trans
    (taken_of_calm (calm_enterTail _ 3 _))

/-- A fold of idempotent changes of single zones changes exactly the zones of the list. -/
theorem zone_foldl {f : State → ZoneId → State} {g : Zone → Zone} {P : State → Prop} (hP : ∀ s z, P s → P (f s z))
    (hself : ∀ s z, P s → (f s z).zone z = g (s.zone z)) (hother : ∀ s z y, z ≠ y → (f s z).zone y = s.zone y)
    (hg : ∀ x, g (g x) = g x) (zs : ZoneSet) {s : State} (hs : P s) (z : ZoneId) :
    (zs.foldl f s).zone z = if z ∈ zs then g (s.zone z) else s.zone z := by
  induction zs generalizing s with
  | nil => rfl
  | cons y rest ih =>
    rw [List.foldl_cons, ih (hP s y hs)]
    obtain rfl | hne := eq_or_ne y z
    · rw [hself s y hs, hg]
      simp
    · rw [hother s y z hne]
      simp [hne.symm]

theorem zone_foldl_idle (zs : ZoneSet) (s : State) (z : ZoneId) :
    (zs.foldl (fun s z => s.setZone z fun x => { x with state := .idle }) s).zone z
      = if z ∈ zs then { s.zone z with state := .idle } else s.zone z :=
  zone_foldl (P := fun _ => True) (g := fun x => { x with state := .idle }) (fun _ _ => id) (fun s z _ => zone_setZone_self s z _)
    (fun s z y h => zone_setZone_of_ne s z y _ h) (fun _ => rfl) zs trivial z

/-- The state of an abort of the round after its tests are aborted and their zones are IDLE. -/
def testsAborted (s : State) : State :=
  (allZones.filter s.inTest).foldl (fun s z => s.setZone z fun x => { x with state := .idle })
    ((allZones.filter s.inTest).foldl State.abortTest s)

theorem abortRound_eq (s : State) : s.abortRound =
    if (testsAborted s).sup.scan.inRound then
      (((testsAborted s).skipZones (match (testsAborted s).sup.scan.group with
        | some g => ((testsAborted s).cfg.groupsAfter g).flatMap (testsAborted s).cfg.groupZones
        | none => []))).endRound
    else testsAborted s := rfl

theorem calm_after_testsAborted (s : State) : Calm (testsAborted s) s.abortRound := by
  rw [abortRound_eq]
  exact Calm.ite ((calm_endRound _).after (calm_skipZones _ _)) (Calm.refl _)

theorem lawful_abortRound (s : State) : Lawful s s.abortRound := by
  refine Lawful.trans ?_ (lawful_of_calm (calm_after_testsAborted s))
  exact (Lawful.foldl (fun s z => lawful_of_calm (calm_abortTest s z)) _ s).trans (Lawful.foldl (fun s z => lawful_setZone s z _) _ _)

theorem mem_allZones (z : ZoneId) : z ∈ allZones := by
  revert z
  decide

theorem foldl_setZone_eq (g : Zone → Zone) (zs : ZoneSet) (s : State) :
    zs.foldl (fun s z => s.setZone z g) s = { s with zones := (zs.foldl (fun s z => s.setZone z g) s).zones } :=
  List.foldlRecOn (motive := fun t : State => t = { s with zones := t.zones }) zs _ rfl fun t h z _ => by
    rw [h]
    rfl

/-- After the abort every zone that was in TEST is IDLE and the others are as they were (R167). -/
theorem zone_abortRound (s : State) (z : ZoneId) : (s.abortRound.zone z).present = (s.zone z).present
    ∧ (s.abortRound.zone z).state = if s.inTest z then .idle else (s.zone z).state := by
  have hlast := calm_after_testsAborted s
  have hfirst := Calm.foldl calm_abortTest (allZones.filter s.inTest) s
  have hmem : z ∈ allZones.filter s.inTest ↔ s.inTest z = true := by simp [mem_allZones]
  have hzone : (testsAborted s).zone z = _ := zone_foldl_idle (allZones.filter s.inTest) _ z
  rw [(hlast.zone z).1, (hlast.zone z).2, hzone]
  by_cases h : s.inTest z = true
  · rw [if_pos (hmem.mpr h), if_pos h]
    exact ⟨(hfirst.zone z).1, rfl⟩
  · rw [if_neg (fun k => h (hmem.mp k)), if_neg h]
    exact hfirst.zone z

theorem taken_abortRound (s : State) : s.abortRound.startup = s.startup ∧ s.abortRound.evac = s.evac
    ∧ (ClaimsStand s → ClaimsStand s.abortRound) := by
  have hlast := calm_after_testsAborted s
  have hfirst := Calm.foldl calm_abortTest (allZones.filter s.inTest) s
  have hmid : testsAborted s = { (allZones.filter s.inTest).foldl State.abortTest s with zones := (testsAborted s).zones } :=
    foldl_setZone_eq _ _ _
  refine ⟨hlast.keeps.startup.trans ?_, hlast.keeps.evac.trans ?_, fun h => hlast.claims ?_⟩
  · rw [hmid]
    exact hfirst.keeps.startup
  · rw [hmid]
    exact hfirst.keeps.evac
  · rw [hmid]
    exact hfirst.claims h

theorem foldl_setGains_eq (s : State) (g : List (ZoneId × Nat)) : s.setGains g = { s with zones := (s.setGains g).zones } := by
  unfold State.setGains
  exact List.foldlRecOn (motive := fun t : State => t = { s with zones := t.zones }) g _ rfl fun t h p _ => by
    rw [h]
    rfl

/-- The instance of a channel as it enters LEAD_IN (R127). -/
def leadingInst (s : State) (c : ChanId) (i : ChanInst) : ChanInst :=
  { i with
    state := .leadIn, stage := .wake, gains := (s.heldBy c).map (fun z => (z, s.gainFor z i.cls)),
    defaultLevel := s.defaultFlag (s.heldBy c) i.cls, levelLimited := s.limitedFlag (s.heldBy c) i.cls,
    wakeEnd := some (s.now + s.cfg.ampWake), listenEnd := some (s.now + 300) }

theorem enterLeadIn_of_chan {s : State} {c : ChanId} {i : ChanInst} (h : s.chan c = some i) :
    s.enterLeadIn c = (s.setChan c (some (leadingInst s c i))).setGains (leadingInst s c i).gains := by
  simp only [State.enterLeadIn, h]
  rfl

theorem chan_enterLeadIn_self {s : State} {c : ChanId} {i : ChanInst} (h : s.chan c = some i) :
    (s.enterLeadIn c).chan c = some (leadingInst s c i) := by
  rw [enterLeadIn_of_chan h, foldl_setGains_eq]
  exact chan_setChan_self s c _

theorem offersOnly_raise (s : State) (k : FaultKind) (subject : Option Nat) (t : FaultTable)
    (h : s.faults.raise k subject false s.stampNow s.now = some t) : OffersOnly s (s.raise k subject) := by
  simp only [State.raise, State.raiseAs, h]
  exact (offersOnly_faults s t).trans (offersOnly_pumpN 16 _)

theorem chans_pump (s : State) : s.pump.chans = s.chans := by
  unfold State.pump
  rw [(offersOnly_pumpN 16 s).frame]

theorem chans_raise (s : State) (k : FaultKind) (subject : Option Nat) : (s.raise k subject).chans = s.chans := by
  unfold State.raise State.raiseAs
  split
  · exact chans_pump _
  · rfl

theorem chans_assemble {s t : State} {n : Nat} {x : Inputs} {l : Option (List Nat)} (h : s.assemble n x = (t, l)) : t.chans = s.chans := by
  unfold State.assemble at h
  split at h <;> cases h
  · rfl
  · exact chans_raise s _ _

theorem chan_updChan_self {s : State} {c : ChanId} {i : ChanInst} (f : ChanInst → ChanInst) (h : s.chan c = some i) :
    (s.updChan c f).chan c = some (f i) := by
  unfold State.updChan
  rw [chan_setChan_self, h]
  rfl

/-- Choosing a playing leaves the instance's state. -/
theorem state_choosePlaying {s : State} {c : ChanId} {i : ChanInst} (h : s.chan c = some i) :
    ∃ j, (s.choosePlaying c).chan c = some j ∧ j.state = i.state := by
  unfold State.choosePlaying
  split
  · split
    next t l hl =>
      have ht : t.chan c = some i := by unfold State.chan at h ⊢; rw [chans_assemble hl]; exact h
      exact ⟨_, chan_updChan_self _ ht, rfl⟩
    next t hl =>
      have ht : t.chan c = some i := by unfold State.chan at h ⊢; rw [chans_assemble hl]; exact h
      exact ⟨_, chan_updChan_self _ ht, rfl⟩
  · exact ⟨_, chan_updChan_self _ h, rfl⟩

/-- The evacuation instance as it is put on channel 0 (R155). -/
def evacInst (s : State) : ChanInst :=
  { ChanInst.new 0 none s.nextTag (s.chimeFor 0) [] with evac := some { chosen := .tone, toneEnd := none, pauseEnd := none } }

/-- The state in which the evacuation instance stands on channel 0 with its zones, still in CLAIMING. -/
def evacSeated (s : State) : State := (s.tookTag.hold 0 s.tookTag.evacZones).setChan 0 (some (evacInst s))

theorem startInstance_eq (s : State) :
    s.startInstance = ((((evacSeated s).enterLeadIn 0).choosePlaying 0).makeClaim 0 s.nextTag 0 none).arbitrate := rfl

theorem calm_after_evacSeated (s : State) : Calm (evacSeated s) s.startInstance := by
  have hchan : (evacSeated s).chan 0 = some (evacInst s) := chan_setChan_self _ 0 _
  obtain ⟨j, hj, hstate⟩ := state_choosePlaying (chan_enterLeadIn_self hchan)
  rw [startInstance_eq]
  refine (calm_arbitrate _).after (Calm.after (calm_makeClaim hj ?_ _ _ _) ((calm_choosePlaying _ 0).after (calm_enterLeadIn _ 0)))
  rw [hstate]
  exact fun h => nomatch h

theorem lawful_hold (s : State) (c : ChanId) (zs : ZoneSet) : Lawful s (s.hold c zs) := Lawful.foldl (fun s z => lawful_setZone s z _) zs s

theorem lawful_startInstance (s : State) : Lawful s s.startInstance := by
  refine Lawful.trans ?_ (lawful_of_calm (calm_after_evacSeated s))
  refine ((lawful_of_calm (calm_tookTag s)).trans (lawful_hold _ 0 _)).trans (lawful_setChan _ 0 fun i hi => ?_)
  cases hi
  rfl

theorem mem_evacZones {s : State} {z : ZoneId} (h : s.startup.phase ≠ .limited) :
    z ∈ s.evacZones ↔ (s.zone z).present = true ∧ (s.zone z).state ≠ .off := by
  simp [State.evacZones, h, mem_allZones]

/-- Once the evacuation instance stands, no zone has another holder: every zone is its own or OFF. -/
theorem owners_evacSeated {s : State} (horder : s.StartOrder) (hphase : s.startup.phase ≠ .start)
    (habsent : s.startup.config.isSome = true → ∀ z : ZoneId, (s.zone z).present = false → (s.zone z).state = .off)
    (hclaims : ClaimsStand s) : (evacSeated s).OwnersAgree := by
  have hzone (z : ZoneId) : (evacSeated s).zone z = if z ∈ s.tookTag.evacZones then { s.zone z with state := .held 0 } else s.zone z :=
    zone_hold s.tookTag 0 _ z
  have hlimited (h : s.startup.phase = .limited) (z : ZoneId) : z ∈ s.tookTag.evacZones := by
    have hl : s.tookTag.startup.phase = .limited := h
    unfold State.evacZones
    rw [if_pos hl]
    exact mem_allZones z
  have hconfig (h : s.startup.phase ≠ .limited) : s.startup.config.isSome = true := by
    refine horder.applied ?_
    unfold State.onLink
    cases hp : s.startup.phase with
    | start => exact absurd hp hphase
    | limited => exact absurd hp h
    | joining => rfl
    | run => rfl
  have hheld (z : ZoneId) (c : ChanId) (hz : ((evacSeated s).zone z).state = .held c) : c = 0 := by
    rw [hzone] at hz
    split at hz
    · exact (ZoneState.held.inj hz).symm
    next hmem =>
      have hp : s.startup.phase ≠ .limited := fun h => hmem (hlimited h z)
      refine absurd ((mem_evacZones (s := s.tookTag) hp).mpr ⟨?_, fun hoff => ?_⟩) hmem
      · by_contra hpresent
        have hoff := habsent (hconfig hp) z (Bool.not_eq_true _ ▸ hpresent)
        rw [hoff] at hz
        cases hz
      · have hoff' : (s.zone z).state = .off := hoff
        rw [hoff'] at hz
        cases hz
  have hstartup : (evacSeated s).startup = s.startup := by unfold evacSeated; rw [hold_eq]; rfl
  have hchan : (evacSeated s).chan 0 = some (evacInst s) := chan_setChan_self _ 0 _
  refine ⟨fun hsome z hz => ?_, fun z c hz => ?_, fun _ z c hz => hheld z c hz, fun c r hr => ?_⟩
  · rw [hstartup] at hsome
    have hpresent : (s.zone z).present = false := by
      rw [hzone] at hz
      split at hz <;> exact hz
    have hoff := habsent hsome z hpresent
    have hp : s.startup.phase ≠ .limited := fun h => by rw [horder.limited h] at hsome; cases hsome
    rw [hzone, if_neg fun hmem => ((mem_evacZones (s := s.tookTag) hp).mp hmem).2 hoff]
    exact hoff
  · rw [hheld z c hz, hchan]
    rfl
  · have hr' : s.claimOf c = some r := (claimOf_hold s.tookTag 0 c _).symm.trans hr
    obtain ⟨i, hi, hlive⟩ := hclaims c r hr'
    obtain rfl | hne := eq_or_ne 0 c
    · exact ⟨_, hchan, fun h => nomatch h⟩
    · refine ⟨i, ?_, hlive⟩
      exact ((chan_setChan_of_ne _ 0 c _ hne).trans (chan_hold s.tookTag 0 c _)).trans hi

theorem upholds_sendStatus (s : State) (dest : Nat) (joining : Bool) : Upholds s (s.sendStatus dest joining) :=
  upholds_of_calm (calm_sendStatus s dest joining)

theorem upholds_sendEvacStart (s : State) : Upholds s s.sendEvacStart := by
  unfold State.sendEvacStart
  exact Upholds.ite ((upholds_offer _ _ rfl).after (upholds_evac s rfl)) (Upholds.refl s)

theorem upholds_settleGates (s : State) : Upholds s s.settleGates := upholds_of_calm (calm_settleGates s)

theorem lawful_evac (s : State) (e : Evac) : Lawful s { s with evac := e } :=
  ⟨rfl, rfl, rfl, txLegal_of_queue rfl rfl, id, id, id, fun h => ⟨h.count, h.ordered, h.cells⟩, id,
    fun h => ⟨h.waiting, h.playing, h.both⟩⟩

/-- The state in which evacuation has become ACTIVE and its instance stands (R154, R155). -/
def evacStood (s : State) (input link : Bool) : State :=
  ({ s with evac := { s.evac with active := true, input := input, link := link } } : State).takeChannels.abortRound.startInstance

theorem upholds_evacStood {s : State} (hphase : s.startup.phase ≠ .start) (input link : Bool) : Upholds s (evacStood s input link) := by
  have h0 := lawful_evac s { s.evac with active := true, input := input, link := link }
  have h1 := lawful_takeChannels ({ s with evac := { s.evac with active := true, input := input, link := link } } : State)
  have h2 := lawful_abortRound
    (({ s with evac := { s.evac with active := true, input := input, link := link } } : State).takeChannels)
  have hbefore := (h0.trans h1).trans h2
  refine upholds_of_lawful (hbefore.trans (lawful_startInstance _)) fun horder o => ?_
  refine owners_of_calm (calm_after_evacSeated _)
    (owners_evacSeated (startOrder_of_eq hbefore.startup hbefore.handedOver horder) (by rw [hbefore.startup]; exact hphase) ?_ ?_)
  · intro hsome z hz
    rw [hbefore.startup] at hsome
    have ht := taken_takeChannels
      (s := ({ s with evac := { s.evac with active := true, input := input, link := link } } : State)) rfl
    obtain ⟨hp, hst⟩ := zone_abortRound
      (({ s with evac := { s.evac with active := true, input := input, link := link } } : State).takeChannels) z
    have hoff := o.absent hsome z ((ht.zone z).1.symm.trans (hp.symm.trans hz))
    have hoff' := (ht.zone z).2.trans hoff
    rw [hst, if_neg (by simp [State.inTest, hoff'])]
    exact hoff'
  · refine (taken_abortRound _).2.2 ?_
    refine (taken_takeChannels (s := ({ s with evac := { s.evac with active := true, input := input, link := link } } : State)) rfl).claims ?_
    exact o.claims

theorem upholds_evacuate {s : State} (hphase : s.startup.phase ≠ .start) (input link : Bool) : Upholds s (s.evacuate input link) := by
  have hstood := (upholds_evacStood hphase input link).trans (upholds_sendStatus _ 0 false)
  have hlast : s.evacuate input link = (if ((evacStood s input link).sendStatus 0 false).triggered
      then ((evacStood s input link).sendStatus 0 false).sendEvacStart else (evacStood s input link).sendStatus 0 false).settleGates := rfl
  rw [hlast]
  exact (upholds_settleGates _).after (Upholds.ite (hstood.trans (upholds_sendEvacStart _)) hstood)

theorem upholds_evacFromLink {s : State} (hphase : s.startup.phase ≠ .start) (m : EvacSource) : Upholds s (s.evacFromLink m) := by
  unfold State.evacFromLink
  exact Upholds.ite (Upholds.ite (upholds_evac s rfl) (upholds_evacuate hphase _ _)) (Upholds.refl s)

theorem upholds_evacFromInput {s : State} (hphase : s.startup.phase ≠ .start) (others : Bool) : Upholds s (s.evacFromInput others) := by
  unfold State.evacFromInput
  refine Upholds.ite ?_ (upholds_evacuate hphase _ _)
  have hset : Upholds s { s with evac := { s.evac with input := true } } := upholds_evac s rfl
  exact Upholds.ite hset (hset.trans (upholds_sendEvacStart _))

theorem upholds_evacRelease (s : State) : Upholds s s.evacRelease := by
  unfold State.evacRelease
  exact Upholds.ite (Upholds.refl s) (upholds_evac s rfl)

/-- Evacuation made inactive (R159): no channel's zones are then bound to channel 0. -/
theorem upholds_evac_inactive (s : State) (e : Evac) (h : e.active = false) : Upholds s { s with evac := e } := by
  refine upholds_of_lawful (lawful_evac s e) fun _ o => ⟨o.absent, o.held, fun hactive => ?_, o.claims⟩
  rw [h] at hactive
  cases hactive

theorem upholds_endEvac (s : State) : Upholds s s.endEvac := by
  unfold State.endEvac
  exact (((upholds_of_calm (calm_enterTail s 0 .done)).trans (upholds_evac_inactive _ _ rfl)).trans (upholds_sendStatus _ 0 false)).trans
    (upholds_walk _)

theorem upholds_evacStop (s : State) : Upholds s s.evacStop := by
  unfold State.evacStop
  exact Upholds.ite (Upholds.ite (upholds_sendEvacStart s) (upholds_endEvac s)) (Upholds.refl s)

theorem upholds_repeatEvac (s : State) (d : Nat) : Upholds s (s.repeatEvac d) := by
  have ht := upholds_advanceTo s d
  unfold State.repeatEvac
  exact Upholds.ite (ht.trans (upholds_sendEvacStart _)) (ht.trans (upholds_evac _ rfl))

theorem upholds_toneOver (s : State) : Upholds s s.toneOver := by
  unfold State.toneOver
  split
  · exact Upholds.refl s
  next d _ => exact (upholds_advanceTo s d).trans (upholds_of_calm ((calm_startPause _ 0).trans (calm_arbitrate _)))

theorem upholds_pauseOver (s : State) : Upholds s s.pauseOver := by
  unfold State.pauseOver
  split
  · exact Upholds.refl s
  next d _ => exact (upholds_advanceTo s d).trans (upholds_of_calm ((calm_startPlaying _ 0).trans (calm_arbitrate _)))

/-! ### Contacts (R161 to R163) -/

theorem upholds_setContact (s : State) (c : ContactId) (d : Debouncer) : Upholds s (s.setContact c d) := upholds_sup s _

theorem upholds_bringIntoLine (s : State) (k : FaultKind) (subject : Nat) (present : Bool) :
    Upholds s (s.bringIntoLine k subject present) := by
  unfold State.bringIntoLine
  exact Upholds.ite (Upholds.ite (Upholds.refl s) (upholds_raise s k _)) (upholds_clear s k _)

theorem eight_get {α : Type} (f : Fin 8 → α) (i : Fin 8) : (eight f)[i] = f i := by
  fin_cases i <;> rfl

theorem zone_setAmpFlags (s : State) (z : ZoneId) : s.setAmpFlags.zone z = { s.zone z with ampFault := s.zoneAtFault z } :=
  eight_get _ z

theorem upholds_setAmpFlags (s : State) : Upholds s s.setAmpFlags := by
  have hzone (z : ZoneId) : (s.setAmpFlags.zone z).present = (s.zone z).present ∧ (s.setAmpFlags.zone z).state = (s.zone z).state := by
    rw [zone_setAmpFlags]
    exact ⟨rfl, rfl⟩
  refine ⟨⟨rfl, rfl, rfl, txLegal_of_queue rfl rfl, id, id, id, fun h => ⟨h.count, h.ordered, h.cells⟩, id, fun _ o => ?_⟩,
    fun h => ⟨h.waiting, h.playing, h.both⟩⟩
  refine ⟨fun hc z hz => ?_, fun z c hz => ?_, fun ha z c hz => ?_, o.claims⟩
  · rw [(hzone z).2]
    exact o.absent hc z ((hzone z).1.symm.trans hz)
  · exact o.held z c ((hzone z).2.symm.trans hz)
  · exact o.evacuation ha z c ((hzone z).2.symm.trans hz)

theorem upholds_evaluateAmp (s : State) (a : Fin 4) : Upholds s (s.evaluateAmp a) := by
  have ht := (upholds_bringIntoLine s .ampFault a.val (s.ampAtFault a)).trans (upholds_setAmpFlags _)
  unfold State.evaluateAmp
  exact Upholds.ite (ht.trans (upholds_walk _)) ht

theorem upholds_actOnContact {s : State} (hphase : s.startup.phase ≠ .start) (c : ContactId) (old : Accepted) (active batteryBefore
    others : Bool) : Upholds s (s.actOnContact c old active batteryBefore others) := by
  unfold State.actOnContact
  split
  · exact Upholds.refl s
  · exact Upholds.ite (upholds_evacFromInput hphase _) (Upholds.ite (upholds_evacRelease s) (Upholds.refl s))
  · have ht := upholds_bringIntoLine s .mainsBattery c.val active
    exact Upholds.ite ht (ht.trans (upholds_walk _))
  · exact upholds_bringIntoLine s _ _ _
  · exact upholds_evaluateAmp s _

theorem upholds_acceptLevel {s : State} (hphase : s.startup.phase ≠ .start) (c : ContactId) (active : Bool) :
    Upholds s (s.acceptLevel c active) :=
  Upholds.trans (upholds_setContact s c _) (upholds_actOnContact (s := s.setContact c _) hphase c _ active _ _)

theorem upholds_sampleContact {s : State} (hphase : s.startup.phase ≠ .start) (pins : BitVec 8) (c : ContactId) :
    Upholds s (s.sampleContact pins c) := by
  unfold State.sampleContact
  have hset := upholds_setContact s c
  exact Upholds.ite ((hset _).trans (upholds_acceptLevel (s := s.setContact c _) hphase c _)) (hset _)

theorem upholds_sampleContacts (s : State) (pins : BitVec 8) : Upholds s (s.sampleContacts pins) := by
  unfold State.sampleContacts
  split
  · exact Upholds.refl s
  next hphase =>
    refine List.foldlRecOn allContacts _ (upholds_sup s _) fun t ht c _ => ?_
    exact ht.trans (upholds_sampleContact (by rw [ht.startup]; exact hphase) pins c)

/-! ### Gates and line tests (R142 to R147, R164 to R166) -/

theorem upholds_gateOver (s : State) (z : ZoneId) : Upholds s (s.gateOver z) := by
  unfold State.gateOver
  split
  · exact Upholds.refl s
  next g _ => exact (upholds_advanceTo s _).trans (upholds_of_calm ((calm_judgeGate _ z g).trans (calm_settleGates _)))

theorem upholds_quietOver (s : State) (z : ZoneId) : Upholds s (s.quietOver z) := by
  unfold State.quietOver
  split
  · exact Upholds.refl s
  · exact (upholds_advanceTo s _).trans (upholds_of_calm ((calm_setLevel _ z _).trans (calm_settleGates _)))

theorem upholds_edge (s : State) (z : ZoneId) (i : PulseInput) : Upholds s (s.edge z i) := by
  unfold State.edge
  exact Upholds.ite (upholds_of_calm (calm_setLevel s z _)) (Upholds.refl s)

theorem upholds_startTest (s : State) (z : ZoneId) : Upholds s (s.startTest z) := by
  unfold State.startTest
  split
  next htest =>
    refine upholds_setZone rfl (fun _ h => nomatch h) fun _ _ hpresent => ?_
    simp [State.testable, hpresent] at htest
  · exact Upholds.ite (upholds_of_calm (calm_skipZone s z)) (Upholds.refl s)

theorem upholds_beginGroups (l : List Nat) (s : State) : Upholds s (beginGroups l s) := by
  induction l generalizing s with
  | nil => exact upholds_of_calm (calm_endRound s)
  | cons g rest ih =>
    have hfold := Upholds.foldl upholds_startTest (s.cfg.groupZones g) s
    unfold beginGroups
    exact Upholds.ite (hfold.trans (upholds_setScan _ _)) (hfold.trans (ih _))

theorem upholds_roundOver (s : State) : Upholds s s.roundOver := by
  unfold State.roundOver
  split
  · exact Upholds.refl s
  next d _ =>
    have hset (f : Scan → Scan) : Upholds s ((s.advanceTo d).setScan f) := (upholds_advanceTo s d).trans (upholds_setScan _ f)
    refine Upholds.ite ((upholds_of_calm (calm_skipZones _ _)).after (hset _)) ?_
    exact (upholds_settleGates _).after ((upholds_beginGroups _ _).after ((upholds_setScan _ _).after (hset _)))

theorem upholds_settleOver (s : State) : Upholds s s.settleOver := by
  unfold State.settleOver
  split
  · refine (upholds_setScan _ _).after ?_
    exact (upholds_advanceTo s _).trans (upholds_of_calm (Calm.foldl (fun s z => calm_setLevel s z _) _ _))
  · exact Upholds.refl s

/-- A completed test but for the last change of its zone's state (R165, R166, R169). -/
def testJudged (s : State) (z : ZoneId) : State :=
  let c := s.cfg.zones[z]
  let l := s.level z
  let runs := (s.sup.lines[z]).moveRuns (lineResult c.lo c.hi l.count l.overflow)
  let new := nextStatus (s.zone z).lineStatus runs
  ((((s.returnCounter z).setLine z fun _ => { runs with skips := 0 }).setZone z fun x => { x with lineStatus := new }).lineCondition z
    (s.zone z).lineStatus new).clear .lineUntested (some z.val)

/-- The line status that a completed test gives (R166). -/
def testStatus (s : State) (z : ZoneId) : LineStatus :=
  nextStatus (s.zone z).lineStatus ((s.sup.lines[z]).moveRuns (lineResult (s.cfg.zones[z]).lo (s.cfg.zones[z]).hi (s.level z).count
    (s.level z).overflow))

theorem completeTest_eq (s : State) (z : ZoneId) : s.completeTest z =
    ((testJudged s z).setZone z fun x => { x with state := if testStatus s z = .short then .off else .idle }).fallSilent z := rfl

theorem calm_testJudged (s : State) (z : ZoneId) : Calm s (testJudged s z) := by
  have hset : Calm s (((s.returnCounter z).setLine z fun _ => { (s.sup.lines[z]).moveRuns (lineResult (s.cfg.zones[z]).lo
      (s.cfg.zones[z]).hi (s.level z).count (s.level z).overflow) with skips := 0 }).setZone z
        fun x => { x with lineStatus := testStatus s z }) :=
    Calm.after (calm_setZone _ z rfl rfl) ((calm_setLevel s z _).trans (calm_setLine _ z _))
  exact hset.trans ((calm_lineCondition _ z _ _).trans (calm_clear _ _ _))

theorem lawful_completeTest (s : State) (z : ZoneId) : Lawful s (s.completeTest z) := by
  rw [completeTest_eq]
  exact ((lawful_of_calm (calm_testJudged s z)).trans (lawful_setZone _ z _)).trans (lawful_of_calm (calm_fallSilent _ z))

theorem owners_completeTest {s : State} {z : ZoneId} (hpresent : s.startup.config.isSome = true → (s.zone z).present = true)
    (horder : s.StartOrder) (o : s.OwnersAgree) : (s.completeTest z).OwnersAgree := by
  have hcalm := calm_testJudged s z
  rw [completeTest_eq]
  refine owners_of_calm (calm_fallSilent _ z) ((upholds_setZone rfl (fun c h => ?_) fun _ hconfig habsent => ?_).owners
    (startOrder_of_eq hcalm.keeps.startup hcalm.keeps.handedOver horder) (owners_of_calm hcalm o))
  · dsimp only at h
    split at h <;> cases h
  · rw [(hcalm.zone z).1, hpresent (by rwa [← hcalm.keeps.startup])] at habsent
    cases habsent

theorem present_completeTest (s : State) (z y : ZoneId) : ((s.completeTest z).zone y).present = (s.zone y).present := by
  have hcalm := calm_testJudged s z
  rw [completeTest_eq, ((calm_fallSilent _ z).zone y).1]
  obtain rfl | hne := eq_or_ne z y
  · rw [zone_setZone_self]
    exact (hcalm.zone z).1
  · rw [zone_setZone_of_ne _ z y _ hne]
    exact (hcalm.zone y).1

/-- The tests of a group completed: a zone in TEST is present, and stays so. -/
theorem upholds_completeTests (s : State) (l : List ZoneId) : Upholds s ((l.filter s.inTest).foldl State.completeTest s) := by
  refine upholds_of_lawful (Lawful.foldl lawful_completeTest _ s) fun horder o => ?_
  have hall : ∀ t : State, t = (l.filter s.inTest).foldl State.completeTest s → t.OwnersAgree := by
    rintro _ rfl
    refine (List.foldlRecOn (motive := fun t : State => t.OwnersAgree ∧ Lawful s t ∧ ∀ y : ZoneId, (t.zone y).present = (s.zone y).present)
      (l.filter s.inTest) State.completeTest ⟨o, Lawful.refl s, fun _ => rfl⟩ ?_).1
    rintro t ⟨ot, hlaw, hsame⟩ z hz
    refine ⟨owners_completeTest (fun hconfig => ?_) (startOrder_of_eq hlaw.startup hlaw.handedOver horder) ot,
      hlaw.trans (lawful_completeTest t z), fun y => (present_completeTest t z y).trans (hsame y)⟩
    rw [hsame]
    rw [hlaw.startup] at hconfig
    by_contra hpresent
    have htest := (List.mem_filter.mp hz).2
    simp [State.inTest, o.absent hconfig z (Bool.not_eq_true _ ▸ hpresent)] at htest
  exact hall _ rfl

theorem upholds_lineGateOver (s : State) : Upholds s s.lineGateOver := by
  unfold State.lineGateOver
  split
  next g d _ _ _ =>
    have hfold := (upholds_advanceTo s d).trans (upholds_completeTests (s.advanceTo d) ((s.advanceTo d).cfg.groupZones g))
    have hend := hfold.trans (upholds_of_calm (calm_groupEnded _))
    exact Upholds.ite (hend.trans (upholds_walk _)) (hend.trans (upholds_settleGates _))
  · exact Upholds.refl s

theorem upholds_spacingOver (s : State) : Upholds s s.spacingOver := by
  unfold State.spacingOver
  split
  · exact ((upholds_advanceTo s _).trans (upholds_beginGroups _ _)).trans (upholds_settleGates _)
  · exact Upholds.refl s

end Sys2Proof.Proofs.Commands
end

section
/-! What the line, the reception of frames and start-up uphold, and the statements on what every step keeps. -/

namespace Sys2Proof.Proofs.Steps

open Sys2Proof.Machine
open Sys2Proof.Proofs.LiveClose Sys2Proof.Proofs.Faults Sys2Proof.Proofs.Upkeep Sys2Proof.Proofs.Uphold Sys2Proof.Proofs.CallRules
open Sys2Proof.Proofs.Commands

/-! ### The line (R2 to R10) -/

theorem mem_queue_of_sendingFrame {s : State} {g : TxFrame} (h : s.sendingFrame = some g) : g ∈ s.link.queue ∧ g.sending = true :=
  ⟨List.mem_of_find?_eq_some h, List.find?_some h⟩

/-- A frame on the line says that the node is in JOINING or RUN (R7). -/
theorem onLink_of_sendingFrame {s : State} {g : TxFrame} (h : s.sendingFrame = some g) (hq : s.TxQueueLegal) : s.onLink = true := by
  by_contra hoff
  have hempty := hq.offLink (Bool.not_eq_true _ ▸ hoff)
  have hmem := (mem_queue_of_sendingFrame h).1
  rw [hempty] at hmem
  cases hmem

/-- A change of the transmit queue while a frame is on the line, within the bounds of R7 and R11. -/
theorem upholds_sent {s : State} {g : TxFrame} {l : Link} (h : s.sendingFrame = some g)
    (hsize : l.queue.length ≤ s.link.queue.length)
    (hsending : (l.queue.filter TxFrame.sending).length ≤ (s.link.queue.filter TxFrame.sending).length) :
    Upholds s { s with link := l } := by
  apply upholds_of_eq <;> first | rfl | skip
  intro hq
  refine ⟨hsize.trans hq.size, fun hoff => ?_, hsending.trans hq.oneSending⟩
  have hon := onLink_of_sendingFrame h hq
  have hoff' : s.onLink = false := hoff
  rw [hoff'] at hon
  cases hon

theorem collideQueue_length_le (q : List TxFrame) (g : TxFrame) : (collideQueue q g).length ≤ q.length := by
  unfold collideQueue
  dsimp only
  split
  · split
    · exact List.length_eraseP_le.trans List.length_eraseP_le
    · exact List.length_eraseP_le
  · split
    · rw [List.length_map]
    · exact List.length_eraseP_le

theorem filter_sending_map_collided (q : List TxFrame) :
    ((q.map fun h => if h.sending then h.collided else h).filter TxFrame.sending) = [] := by
  rw [List.filter_eq_nil_iff]
  intro f hf
  obtain ⟨h, -, rfl⟩ := List.mem_map.mp hf
  split
  · simp [TxFrame.collided]
  next hs => exact hs

theorem collideQueue_sending_le (q : List TxFrame) (g : TxFrame) :
    ((collideQueue q g).filter TxFrame.sending).length ≤ (q.filter TxFrame.sending).length := by
  have herase (p p' : TxFrame → Bool) : (((q.eraseP p).eraseP p').filter TxFrame.sending).length ≤ (q.filter TxFrame.sending).length :=
    ((List.eraseP_sublist.trans List.eraseP_sublist).filter _).length_le
  have herase1 (p : TxFrame → Bool) : ((q.eraseP p).filter TxFrame.sending).length ≤ (q.filter TxFrame.sending).length :=
    (List.eraseP_sublist.filter _).length_le
  unfold collideQueue
  dsimp only
  split
  · split
    · exact herase _ _
    · exact herase1 _
  · split
    · rw [filter_sending_map_collided]
      exact Nat.zero_le _
    · exact herase1 _

theorem upholds_pump (s : State) : Upholds s s.pump := upholds_of_calm (calm_pump s)

theorem upholds_collide (s : State) : Upholds s s.collide := by
  unfold State.collide
  split
  · exact Upholds.refl s
  next g hg =>
    dsimp only
    have hlink : Upholds s { s with
        link := { s.link with queue := collideQueue s.link.queue g, discarding := true, echoed := 0, echoAge := 0 } } :=
      upholds_sent hg (collideQueue_length_le _ _) (collideQueue_sending_le _ _)
    have hcount := hlink.trans (upholds_count _ .txCollisions)
    exact Upholds.ite ((hcount.trans (upholds_count _ _)).trans (upholds_pump _)) (hcount.trans (upholds_pump _))

theorem upholds_spend (s : State) : Upholds s s.spend := by
  unfold State.spend
  split
  · exact Upholds.refl s
  · refine Upholds.ite ((upholds_raise _ _ _).after ?_) ?_ <;> exact upholds_link s rfl

theorem upholds_enterDisturbed (s : State) : Upholds s s.enterDisturbed := by
  unfold State.enterDisturbed
  refine (upholds_collide _).after ((upholds_spend _).after ?_)
  exact upholds_link s rfl

theorem upholds_nonIdleLimit (s : State) : Upholds s s.nonIdleLimit := by
  unfold State.nonIdleLimit
  have hset (l : Link) (h : l.queue = s.link.queue) : Upholds s { s with link := l } := upholds_link s h
  exact Upholds.ite (hset _ rfl) ((upholds_enterDisturbed _).after (hset _ rfl))

theorem upholds_becomeQuiet (s : State) (idle : Nat) : Upholds s (s.becomeQuiet idle) := upholds_link s rfl

theorem upholds_unknownIdle (s : State) : Upholds s s.unknownIdle := by
  unfold State.unknownIdle
  exact Upholds.ite ((upholds_becomeQuiet s 40).trans (upholds_clear _ _ _)) (Upholds.refl s)

theorem upholds_disturbedLong (s : State) : Upholds s s.disturbedLong := by
  unfold State.disturbedLong
  split
  · exact Upholds.refl s
  next d _ =>
    refine Upholds.ite ((upholds_raise _ _ _).after ?_) (Upholds.refl s)
    exact Upholds.after (upholds_link (s.advanceTo d) (l := { s.link with disturbTimer := none }) rfl) (upholds_advanceTo s d)

theorem upholds_discardEnd (s : State) : Upholds s s.discardEnd := by
  unfold State.discardEnd
  exact Upholds.ite (upholds_link s rfl) (Upholds.refl s)

theorem readyHead_eq_some {s : State} {f : TxFrame} (h : s.readyHead = some f) :
    s.onLink = true ∧ s.sendingFrame = none ∧ ∃ rest, s.link.queue = f :: rest := by
  unfold State.readyHead at h
  split at h
  next hc => exact ⟨hc.2.1, hc.2.2, List.head?_eq_some_iff.mp h⟩
  · cases h

theorem upholds_slotReached (s : State) : Upholds s s.slotReached := by
  unfold State.slotReached
  split
  · exact Upholds.refl s
  next f hf =>
    obtain ⟨hon, hnone, rest, hqueue⟩ := readyHead_eq_some hf
    apply upholds_of_eq <;> first | rfl | skip
    rintro ⟨hsize, -, -⟩
    have hnot : ∀ g ∈ rest, g.sending = false := fun g hg =>
      Bool.not_eq_true _ ▸ List.find?_eq_none.mp hnone g (by rw [hqueue]; exact List.mem_cons_of_mem _ hg)
    have hempty : rest.filter TxFrame.sending = [] := List.filter_eq_nil_iff.mpr fun g hg => by simp [hnot g hg]
    rw [hqueue] at hsize ⊢
    refine ⟨hsize, fun hoff => ?_, ?_⟩
    · have hoff' : s.onLink = false := hoff
      rw [hoff'] at hon
      cases hon
    · simp [sendHead, hempty]

theorem upholds_claimSent (s : State) (tag : Option Nat) : Upholds s (s.claimSent tag) := by
  unfold State.claimSent
  split
  · exact Upholds.refl s
  next c _ =>
    have hmap (u : State) (f : OwnClaim → OwnClaim) : Upholds u (u.setClaim c ((u.claimOf c).map f)) := by
      refine upholds_of_calm (calm_setClaim u c fun r hr => .inl ?_)
      rw [Option.map_eq_some_iff] at hr
      obtain ⟨q, hq, -⟩ := hr
      rw [hq]
      rfl
    exact Upholds.ite ((upholds_of_calm (calm_enterLeadIn _ c)).after ((hmap _ _).after (hmap s _))) (hmap s _)

theorem upholds_completed {s : State} {g : TxFrame} (h : s.sendingFrame = some g) {l : Link} (hl : l.queue = (s.link.completed g).queue) :
    Upholds s { s with link := l } := by
  obtain ⟨hmem, hsend⟩ := mem_queue_of_sendingFrame h
  have herase : (s.link.queue.eraseP fun h => h.sending).length = s.link.queue.length - 1 := List.length_eraseP_of_mem hmem hsend
  have hpos := List.length_pos_of_mem hmem
  have hsub : ((s.link.queue.eraseP fun h => h.sending).filter TxFrame.sending).length ≤ (s.link.queue.filter TxFrame.sending).length :=
    (List.eraseP_sublist.filter _).length_le
  refine upholds_sent h ?_ ?_ <;> rw [hl] <;> unfold Link.completed <;> dsimp only <;> split
  · simp only [Link.join, insertFrame_length]
    omega
  · dsimp only
    omega
  · simp only [Link.join]
    rw [insertFrame_sending _ rfl]
    exact hsub
  · exact hsub

theorem upholds_transmitted (s : State) : Upholds s s.transmitted := by
  unfold State.transmitted
  split
  · exact Upholds.refl s
  next g hg =>
    dsimp only
    have hlink : Upholds s { s with link := { s.link.completed g with idleRun := 0, nonIdleRun := 0, echoed := 0, echoAge := 0 } } :=
      upholds_completed hg rfl
    have hcount := hlink.trans (upholds_count _ .txSent)
    exact (upholds_pump _).after (Upholds.ite (hcount.trans (upholds_claimSent _ _)) hcount)

theorem upholds_heardChar (s : State) (char : Byte) (framingError : Bool) : Upholds s (s.heardChar char framingError) := by
  unfold State.heardChar
  dsimp only
  refine Upholds.ite ((upholds_enterDisturbed _).after ?_) ?_ <;> exact upholds_link s rfl

theorem upholds_echo (s : State) (g : TxFrame) (char : Byte) (framingError : Bool) : Upholds s (s.echo g char framingError) := by
  unfold State.echo
  dsimp only
  have hset (l : Link) (h : l.queue = s.link.queue) : Upholds s { s with link := l } := upholds_link s h
  exact Upholds.ite ((upholds_collide _).after (hset _ rfl))
    (Upholds.ite ((upholds_transmitted _).after (hset _ rfl)) (hset _ rfl))

/-! ### Reception (R16 to R18) -/

theorem upholds_endOfFrame (s : State) : Upholds s s.endOfFrame := upholds_link s rfl

theorem upholds_goodFrame (s : State) : Upholds s s.goodFrame := upholds_link s rfl

theorem upholds_missed (s : State) : Upholds s s.missed := by
  unfold State.missed
  exact Upholds.ite (Upholds.refl s) (upholds_endOfFrame s)

theorem upholds_addressed {s t : State} {dst src : Byte} (h : s.addressed dst src = .stops t) : Upholds s t := by
  unfold State.addressed at h
  split at h
  · cases h
    exact Upholds.refl s
  · split at h
    · cases h
      exact Upholds.refl s
    · split at h
      · cases h
        exact upholds_raise s _ _
      · cases h

theorem onLink_of_goesOn {s : State} {dst src : Byte} (h : s.addressed dst src = .goesOn) : s.onLink = true := by
  unfold State.addressed at h
  split at h
  · cases h
  next hon => simpa using hon

theorem phase_of_onLink {s : State} (h : s.onLink = true) : s.startup.phase ≠ .start := by
  intro hp
  simp [State.onLink, hp] at h

theorem upholds_receive {α : Type} (s : State) (k : FrameKind) (dst src : Byte) (read : Option α) {act : State → α → State}
    (hact : ∀ t x, t.startup.phase ≠ .start → Upholds t (act t x)) : Upholds s (s.receive k dst src read act) := by
  unfold State.receive
  split
  · have hgood := upholds_goodFrame s
    split
    next t ht => exact hgood.trans (upholds_addressed ht)
    next hgo =>
      have hon := onLink_of_goesOn hgo
      dsimp only
      split
      · split
        · exact hgood.trans (upholds_count _ _)
        next x => exact (hgood.trans (upholds_count _ .rxGood)).trans (hact _ x (phase_of_onLink (s := s.goodFrame) hon))
      · exact hgood.trans (upholds_count _ _)
  · exact upholds_missed s

theorem upholds_failCheck (s : State) : Upholds s s.failCheck := by
  unfold State.failCheck
  exact Upholds.ite ((upholds_spend _).after ((upholds_count _ _).after (upholds_endOfFrame s))) (upholds_endOfFrame s)

theorem upholds_badFrame (s : State) (raw : List Byte) : Upholds s (s.badFrame raw) := by
  unfold State.badFrame
  exact Upholds.ite (Upholds.refl s) (Upholds.ite (upholds_failCheck s) (upholds_missed s))

theorem upholds_unknownKind (s : State) (dst src kind : Byte) : Upholds s (s.unknownKind dst src kind) := by
  unfold State.unknownKind
  split
  · exact Upholds.refl s
  · split
    · split
      next t ht => exact (upholds_goodFrame s).trans (upholds_addressed ht)
      · exact (upholds_goodFrame s).trans (upholds_count _ _)
    · exact upholds_missed s

/-! ### The owners' actions -/

theorem upholds_time (s : State) (x : TimeFields) : Upholds s (s.time x) := by
  unfold State.time
  have hset : Upholds s ((s.setClock x).clear .timeDoubtful none) := (upholds_clear _ _ _).after (upholds_clock s _)
  exact (upholds_secondEvent _).after (Upholds.ite (hset.trans (upholds_purge _)) hset)

theorem upholds_secondAdvance (s : State) : Upholds s s.secondAdvance := by
  unfold State.secondAdvance
  have htick : Upholds s (s.advanceTo (s.clock.secondStart + 1000)).tickClock :=
    Upholds.after (upholds_clock _ _) (upholds_advanceTo s _)
  exact Upholds.ite (Upholds.refl s) ((upholds_secondEvent _).after (Upholds.ite (htick.trans (upholds_purge _)) htick))

theorem upholds_doubt (s : State) : Upholds s s.doubt := by
  unfold State.doubt
  split
  · exact Upholds.refl s
  next d _ =>
    refine Upholds.ite ((upholds_raise _ _ _).after ?_) (Upholds.refl s)
    exact (upholds_clock (s.advanceTo d) _).after (upholds_advanceTo s d)

theorem upholds_announce (s : State) (desk : Nat) (a : AnnounceFields) : Upholds s (s.announce desk a) := by
  unfold State.announce
  exact Upholds.ite (Upholds.refl s) (upholds_offerEntry s _)

theorem upholds_announceStop (s : State) (desk tag : Nat) : Upholds s (s.announceStop desk tag) := by
  unfold State.announceStop
  dsimp only
  split
  · exact upholds_stopKey s _ _
  · exact (upholds_of_calm (calm_setCont s _ _)).trans (upholds_stopKey _ _ _)

theorem upholds_liveOpen (s : State) (desk : Nat) (zones : List Nat) : Upholds s (s.liveOpen desk zones) := by
  unfold State.liveOpen
  exact Upholds.ite (Upholds.refl s) (upholds_offerEntry s _)

theorem upholds_liveKeep (s : State) (desk : Nat) : Upholds s (s.liveKeep desk) := by
  unfold State.liveKeep
  split
  · exact Upholds.refl s
  next c _ =>
    refine upholds_of_calm (calm_updChan s c (fun i => ?_) fun i => ?_) <;> split
    · rfl
    · rfl
    · exact id
    · exact id

theorem upholds_liveClose (s : State) (desk : Nat) : Upholds s (s.liveClose desk) := by
  unfold State.liveClose
  split
  · exact upholds_of_calm (calm_enterTail s _ _)
  · exact Upholds.ite (upholds_of_calm (calm_removeEntry s _ _)) (Upholds.refl s)

theorem upholds_notBeforeReached (s : State) (tag : Nat) : Upholds s (s.notBeforeReached tag) := by
  unfold State.notBeforeReached
  split
  · exact Upholds.refl s
  · exact (upholds_advanceTo s _).trans (upholds_walk _)

theorem upholds_entryExpired (s : State) (tag : Nat) : Upholds s (s.entryExpired tag) := by
  unfold State.entryExpired
  split
  · exact Upholds.refl s
  · split
    · exact Upholds.refl s
    · exact (upholds_advanceTo s _).trans (upholds_of_calm (calm_removeEntry _ _ _))

theorem upholds_hearClaim (s : State) (src : Nat) (x : ClaimFields) : Upholds s (s.hearClaim src x) := by
  unfold State.hearClaim
  exact ((upholds_mapOccupancy s _).trans (upholds_of_calm (calm_judgeAll _ x src))).trans (upholds_settleGates _)

theorem upholds_hearRelease (s : State) (src tag : Nat) : Upholds s (s.hearRelease src tag) := by
  unfold State.hearRelease
  exact Upholds.ite ((upholds_mapOccupancy s _).trans (upholds_walk _)) (Upholds.refl s)

theorem upholds_occupancyExpired (s : State) (zone : Nat) : Upholds s (s.occupancyExpired zone) := by
  unfold State.occupancyExpired
  split
  · exact Upholds.refl s
  · exact ((upholds_advanceTo s _).trans (upholds_mapOccupancy _ _)).trans (upholds_walk _)

theorem upholds_refreshOver (s : State) (c : ChanId) : Upholds s (s.refreshOver c) := by
  unfold State.refreshOver
  split
  · exact Upholds.refl s
  · exact (upholds_advanceTo s _).trans (upholds_of_calm (calm_offerClaim _ c))

theorem upholds_sendOver (s : State) (c : ChanId) : Upholds s (s.sendOver c) := by
  unfold State.sendOver
  split
  · exact Upholds.refl s
  next r hr =>
    split
    · exact Upholds.refl s
    next d _ =>
      have hclaim : (s.advanceTo d).claimOf c = some r := hr
      have hlead : Upholds s (((s.advanceTo d).setClaim c (some { r with sendDeadline := none })).enterLeadIn c) :=
        (upholds_of_calm ((calm_setClaim_some hclaim _).trans (calm_enterLeadIn _ c))).after (upholds_advanceTo s d)
      refine Upholds.ite (Upholds.ite hlead (hlead.trans (upholds_of_calm (calm_offerClaim _ c)))) ?_
      exact (upholds_advanceTo s d).trans (upholds_of_calm (calm_enterTail _ c _))

theorem upholds_acknowledge (s : State) (a : AckFields) : Upholds s (s.acknowledge a) := by
  refine upholds_of_calm (calm_faults s ?_ (faultsDistinct_of_keysFrom (keysFrom_ack _ _ _)))
  unfold FaultTable.ack
  split
  · rfl
  · split
    · split <;> rfl
    · rfl

theorem upholds_advanceStep (s : State) : Upholds s s.advanceStep := by
  refine ⟨⟨rfl, rfl, rfl, txLegal_of_queue rfl rfl, id, faultsDistinct_of_keysFrom (keysFrom_freeSimulated s.faults), fun h => ?_,
    fun h => ⟨h.count, h.ordered, h.cells⟩, id, fun _ o => ⟨o.absent, o.held, o.evacuation, o.claims⟩⟩,
    fun h => ⟨h.waiting, h.playing, h.both⟩⟩
  unfold State.TestStepLegal State.advanceStep nextTestStep at *
  dsimp only
  split <;> omega

theorem upholds_stepTest (s : State) : Upholds s s.stepTest := by
  unfold State.stepTest
  split
  · exact (upholds_advanceStep s).trans (upholds_of_calm (calm_raiseAs _ _ _ _))
  · exact (upholds_advanceStep s).trans (upholds_pump _)

theorem upholds_zeroCounters (s : State) : Upholds s s.zeroCounters :=
  ⟨⟨rfl, rfl, rfl, txLegal_of_queue rfl rfl, fun _ i => by simp [State.zeroCounters], id, id,
    fun h => ⟨h.count, h.ordered, h.cells⟩, id, fun _ o => ⟨o.absent, o.held, o.evacuation, o.claims⟩⟩,
    fun h => ⟨h.waiting, h.playing, h.both⟩⟩

theorem upholds_dump (s : State) : Upholds s s.dump :=
  upholds_of_calm (calm_faults s rfl (faultsDistinct_of_keysFrom (keysFrom_of_record_eq (markAll_record s.faults))))

theorem upholds_query (s : State) (src flags : Nat) : Upholds s (s.query src flags) := by
  unfold State.query
  have hsend := upholds_sendStatus s src false
  have hzero : Upholds s (if flags.testBit 1 then (s.sendStatus src false).zeroCounters else s.sendStatus src false) :=
    Upholds.ite (hsend.trans (upholds_zeroCounters _)) hsend
  exact Upholds.ite (hzero.trans (upholds_dump _)) hzero

/-! ### The channels' instants (R127 to R136) -/

theorem upholds_wakeOver (s : State) (c : ChanId) : Upholds s (s.wakeOver c) := by
  unfold State.wakeOver
  split
  · exact Upholds.refl s
  next d _ => exact (upholds_advanceTo s d).trans (upholds_of_calm ((calm_passWake _ c d).trans (calm_arbitrate _)))

theorem chan_of_leadingIn {s : State} {c : ChanId} {i : ChanInst} (h : s.leadingIn c = some i) :
    s.chan c = some i ∧ i.state = .leadIn := by
  obtain ⟨j, hj, hji⟩ := Option.bind_eq_some_iff.mp h
  split at hji
  next hs =>
    cases hji
    exact ⟨hj, hs⟩
  · cases hji

theorem upholds_listenOver (s : State) (c : ChanId) : Upholds s (s.listenOver c) := by
  unfold State.listenOver
  split
  · exact Upholds.refl s
  next i hi =>
    split
    · exact Upholds.refl s
    next d _ =>
      have hset : Calm (s.advanceTo d) ((s.advanceTo d).setChan c (some (i.listened (s.advanceTo d).now))) :=
        calm_setChan _ c (chan_of_leadingIn hi).1 rfl id
      exact (upholds_advanceTo s d).trans (upholds_of_calm ((hset.trans (calm_judgeHold _ c)).trans (calm_arbitrate _)))

theorem upholds_primingOver (s : State) (c : ChanId) : Upholds s (s.primingOver c) := by
  unfold State.primingOver
  split
  · exact Upholds.refl s
  next i _ =>
    split
    · exact Upholds.refl s
    next d _ =>
      refine (upholds_advanceTo s d).trans (upholds_of_calm ((calm_arbitrate _).after ((calm_raise _ _ _).after ?_)))
      exact Calm.ite (calm_primeEvac _ c i) (calm_enterTail _ c _)

theorem calm_playedOut {s : State} {c : ChanId} {i : ChanInst} (h : s.chan c = some i) : Calm s (s.setChan c (some i.playedOut)) :=
  calm_setChan s c h rfl id

theorem upholds_blockOver (s : State) (c : ChanId) : Upholds s (s.blockOver c) := by
  unfold State.blockOver
  split
  · exact Upholds.refl s
  next i hi =>
    split
    next d _ _ =>
      have hplayed := calm_playedOut (s := s.advanceTo d) hi
      exact (upholds_advanceTo s d).trans (upholds_of_calm ((hplayed.trans (calm_playOn _ c)).trans (calm_arbitrate _)))
    · exact Upholds.refl s

theorem upholds_gapOver (s : State) (c : ChanId) : Upholds s (s.gapOver c) := by
  unfold State.gapOver
  split
  · exact Upholds.refl s
  next i hi =>
    split
    next boundary d _ _ =>
      have hplayed := calm_playedOut (s := s.advanceTo d) hi
      refine (upholds_advanceTo s d).trans (upholds_of_calm ((calm_arbitrate _).after ?_))
      exact Calm.ite (hplayed.trans (calm_boundary _ c)) (hplayed.trans (calm_playOn _ c))
    · exact Upholds.refl s

theorem upholds_keepOver (s : State) (c : ChanId) : Upholds s (s.keepOver c) := by
  unfold State.keepOver
  split
  · exact Upholds.refl s
  · split
    · exact (upholds_advanceTo s _).trans (upholds_of_calm (calm_enterTail _ c _))
    · exact Upholds.refl s

/-- A zone as it leaves HELD at an instant (R132, R139, R168). -/
def freed (now : Nat) (x : Zone) : Zone := { x with state := if x.lineStatus = .short then .off else .idle, lastAudible := some now }

theorem zone_leaveHeld_self (s : State) (z : ZoneId) : (s.leaveHeld z).zone z = freed s.now (s.zone z) := by
  change ((s.setZone z fun x => { x with state := if x.lineStatus = .short then .off else .idle }).setZone z
    fun x => { x with lastAudible := some s.now }).zone z = _
  rw [zone_setZone_self, zone_setZone_self]
  rfl

theorem zone_leaveHeld_of_ne (s : State) {z y : ZoneId} (h : z ≠ y) : (s.leaveHeld z).zone y = s.zone y := by
  change ((s.setZone z fun x => { x with state := if x.lineStatus = .short then .off else .idle }).setZone z
    fun x => { x with lastAudible := some s.now }).zone y = _
  rw [zone_setZone_of_ne _ _ _ _ h, zone_setZone_of_ne _ _ _ _ h]

/-- The state after a list of zones has left HELD writes those zones and their quiet deadlines alone. -/
theorem foldl_leaveHeld_eq (zs : ZoneSet) (s : State) :
    zs.foldl State.leaveHeld s = { s with zones := (zs.foldl State.leaveHeld s).zones, levels := (zs.foldl State.leaveHeld s).levels } :=
  List.foldlRecOn (motive := fun t : State => t = { s with zones := t.zones, levels := t.levels }) zs _ rfl fun t h z _ => by
    rw [h]
    rfl

theorem zone_foldl_leaveHeld (zs : ZoneSet) (s : State) (z : ZoneId) :
    (zs.foldl State.leaveHeld s).zone z = if z ∈ zs then freed s.now (s.zone z) else s.zone z :=
  zone_foldl (f := State.leaveHeld) (P := fun t => t.now = s.now) (g := freed s.now) (fun _ _ h => h) (fun t z h => by rw [zone_leaveHeld_self, h])
    (fun t z y h => zone_leaveHeld_of_ne t h) (fun _ => rfl) zs rfl z

theorem mem_heldBy {s : State} {c : ChanId} {z : ZoneId} : z ∈ s.heldBy c ↔ (s.zone z).state = .held c := by
  simp [State.heldBy, mem_allZones]

/-- A channel in TAIL gives back its zones and becomes FREE (R132). -/
theorem upholds_freeChannel {s : State} {c : ChanId} {i : ChanInst} (hchan : s.chan c = some i) (htail : i.state = .tail) :
    Upholds s (((s.heldBy c).foldl State.leaveHeld s).setChan c none) := by
  have hlaw : Lawful s ((s.heldBy c).foldl State.leaveHeld s) :=
    Lawful.foldl (fun t z => (lawful_setZone t z _).trans (lawful_of_calm (calm_fallSilent _ z))) _ s
  refine upholds_of_lawful (hlaw.trans (lawful_setChan _ c fun _ h => nomatch h)) fun _ o => ?_
  have hzone (z : ZoneId) : (((s.heldBy c).foldl State.leaveHeld s).setChan c none).zone z
      = if z ∈ s.heldBy c then freed s.now (s.zone z) else s.zone z := zone_foldl_leaveHeld _ s z
  have hheld (z : ZoneId) (d : ChanId) (h : ((((s.heldBy c).foldl State.leaveHeld s).setChan c none).zone z).state = .held d) :
      (s.zone z).state = .held d ∧ d ≠ c := by
    rw [hzone] at h
    split at h
    · unfold freed at h
      dsimp only at h
      split at h <;> cases h
    next hmem =>
      refine ⟨h, ?_⟩
      rintro rfl
      exact hmem (mem_heldBy.mpr h)
  have hsame : (s.heldBy c).foldl State.leaveHeld s = _ := foldl_leaveHeld_eq (s.heldBy c) s
  have hother (d : ChanId) (hne : d ≠ c) : (((s.heldBy c).foldl State.leaveHeld s).setChan c none).chan d = s.chan d := by
    rw [chan_setChan_of_ne _ c d none hne.symm, hsame]
    rfl
  refine ⟨fun hconfig z hz => ?_, fun z d hz => ?_, fun hactive z d hz => ?_, fun d r hr => ?_⟩
  · have hpresent : (s.zone z).present = false := by
      rw [hzone] at hz
      split at hz <;> exact hz
    have hconfig' : s.startup.config.isSome = true := by
      rw [hsame] at hconfig
      exact hconfig
    have hoff := o.absent hconfig' z hpresent
    rw [hzone, if_neg fun hmem => by rw [mem_heldBy.mp hmem] at hoff; cases hoff]
    exact hoff
  · obtain ⟨hold, hne⟩ := hheld z d hz
    rw [hother d hne]
    exact o.held z d hold
  · refine o.evacuation ?_ z d (hheld z d hz).1
    rw [hsame] at hactive
    exact hactive
  · have hr' : s.claimOf d = some r := by
      rw [hsame] at hr
      exact hr
    obtain ⟨j, hj, hlive⟩ := o.claims d r hr'
    have hne : d ≠ c := by
      rintro rfl
      rw [hchan] at hj
      cases hj
      exact hlive htail
    exact ⟨j, (hother d hne).trans hj, hlive⟩

theorem upholds_tailOver (s : State) (c : ChanId) : Upholds s (s.tailOver c) := by
  unfold State.tailOver
  split
  · exact Upholds.refl s
  next i hi =>
    split
    next d hstate _ =>
      have hchan : (s.advanceTo d).chan c = some i := hi
      exact (((upholds_advanceTo s d).trans (upholds_freeChannel hchan hstate)).trans (upholds_reportEnd _ c i)).trans (upholds_walk _)
    · exact Upholds.refl s

/-! ### Every command but those of start-up -/

/-- A meaning answers a next state in which the invariants stay. -/
def Answers (s : State) (x : Host.Outcome State Fault Refusal) : Prop := ∃ t, x = .next t ∧ Upholds s t

theorem answers_run {s t : State} {x : Host.Outcome State Fault Refusal}
    (hx : x = .next (if s.startup.resetHeld then s else t)) (h : Upholds s t) : Answers s x :=
  ⟨_, hx, Upholds.ite (Upholds.refl s) h⟩

/-- Every frame of a kind that the table names. -/
theorem answers_meaning (k : FrameKind) (dst src : Byte) (payload : List Byte) (s : State) : Answers s (k.meaning dst src payload s) := by
  have hrecv {α : Type} (read : Option α) {act : State → α → State} (hact : ∀ t x, t.startup.phase ≠ .start → Upholds t (act t x)) :
      Answers s (s.run fun s => s.receive k dst src read act) := answers_run rfl (upholds_receive s k dst src read hact)
  cases k
  case time => exact hrecv _ fun t x _ => upholds_time t x
  case callPost => exact hrecv _ fun t x _ => upholds_callPost t x
  case callAmend => exact hrecv _ fun t x _ => upholds_callAmend t x
  case callCancel => exact hrecv _ fun t x _ => upholds_callCancel t x
  case callMove => exact hrecv _ fun t x _ => upholds_callMove t x
  case trainEvent => exact hrecv _ fun t x _ => upholds_trainEvent t x
  case callHandover => exact hrecv _ fun t x _ => upholds_callHandover t x
  case callAdopt => exact hrecv _ fun t x _ => upholds_callAdopt t x
  case callRefuse => exact hrecv _ fun t x _ => upholds_callRefuse t x
  case announce => exact hrecv _ fun t x _ => upholds_announce t _ x
  case announceStop => exact hrecv _ fun t x _ => upholds_announceStop t _ x
  case liveOpen => exact hrecv _ fun t x _ => upholds_liveOpen t _ x
  case liveKeep => exact hrecv _ fun t _ _ => upholds_liveKeep t _
  case liveClose => exact hrecv _ fun t _ _ => upholds_liveClose t _
  case announceResult => exact hrecv _ fun t _ _ => Upholds.refl t
  case evacStart => exact hrecv _ fun t _ hphase => upholds_evacFromLink hphase _
  case evacStop => exact hrecv _ fun t _ _ => upholds_evacStop t
  case claim => exact hrecv _ fun t x _ => upholds_hearClaim t _ x
  case release => exact hrecv _ fun t x _ => upholds_hearRelease t _ x
  case faultReport => exact hrecv _ fun t _ _ => Upholds.refl t
  case faultAck => exact hrecv _ fun t x _ => upholds_acknowledge t x
  case testStep => exact hrecv _ fun t _ _ => upholds_stepTest t
  case statusQuery => exact hrecv _ fun t x _ => upholds_query t _ x
  case nodeStatus => exact hrecv _ fun t _ _ => Upholds.refl t

theorem answers_frameOutcome (raw : List Byte) (s : State) : Answers s (frameOutcome raw s) := by
  unfold frameOutcome
  split
  · dsimp only
    split
    · exact answers_meaning _ _ _ _ s
    · exact answers_run rfl (upholds_unknownKind s _ _ _)
  · exact answers_run rfl (upholds_badFrame s raw)

theorem upholds_completeFrame (s : State) : Upholds s s.completeFrame := by
  obtain ⟨t, ht, hupholds⟩ := answers_frameOutcome s.link.rxFrame s
  unfold State.completeFrame
  rw [ht]
  exact Upholds.ite (Upholds.ite (upholds_failCheck s) hupholds) (Upholds.refl s)

theorem upholds_characterIn (s : State) (char : Byte) (framingError : Bool) : Upholds s (s.characterIn char framingError) := by
  unfold State.characterIn
  split
  · exact upholds_echo s _ _ _
  · exact (upholds_heardChar _ _ _).after (Upholds.ite (upholds_completeFrame s) (Upholds.refl s))

theorem upholds_lineQuiet (s : State) : Upholds s s.lineQuiet := by
  unfold State.lineQuiet
  exact Upholds.ite ((upholds_completeFrame s).trans (upholds_becomeQuiet _ _)) (Upholds.refl s)

theorem upholds_disturbanceEnd (s : State) : Upholds s s.disturbanceEnd := by
  unfold State.disturbanceEnd
  exact Upholds.ite (((upholds_completeFrame s).trans (upholds_becomeQuiet _ _)).trans (upholds_clear _ _ _)) (Upholds.refl s)

/-- The commands that change start-up: the resets, the reads of START and the two phase changes (R180 to R183). -/
def ofStartup : Instr → Bool
  | .coldStart | .resetAssert | .resetRelease | .configImageRead _ | .phraseHeaderRead _ _ | .templateStoreRead _ | .enterJoining
  | .joinTimerExpiry => true
  | _ => false

/-- Every command but those of start-up answers a next state in which the invariants stay. -/
theorem answers_exec {c : Instr} (h : ofStartup c = false) (s : State) : Answers s (exec c s) := by
  cases c
  case coldStart => cases h
  case resetAssert => cases h
  case resetRelease => cases h
  case configImageRead => cases h
  case phraseHeaderRead => cases h
  case templateStoreRead => cases h
  case enterJoining => cases h
  case joinTimerExpiry => cases h
  case characterReceived => exact answers_run rfl (upholds_characterIn s _ _)
  case nonIdleRunLimit => exact answers_run rfl (upholds_nonIdleLimit s)
  case unknownIdleLimit => exact answers_run rfl (upholds_unknownIdle s)
  case lineQuiet => exact answers_run rfl (upholds_lineQuiet s)
  case disturbanceEnd => exact answers_run rfl (upholds_disturbanceEnd s)
  case disturbanceTimerExpiry => exact answers_run rfl (upholds_disturbedLong s)
  case discardSpanEnd => exact answers_run rfl (upholds_discardEnd s)
  case slotReached => exact answers_run rfl (upholds_slotReached s)
  case echoMismatch => exact answers_run rfl (upholds_collide s)
  case transmissionComplete => exact answers_run rfl (upholds_transmitted s)
  case badFrame => exact answers_run rfl (upholds_badFrame s _)
  case unknownKind => exact answers_run rfl (upholds_unknownKind s _ _ _)
  case time => exact answers_meaning .time _ _ _ s
  case secondAdvance => exact answers_run rfl (upholds_secondAdvance s)
  case doubtTimerExpiry => exact answers_run rfl (upholds_doubt s)
  case callPost => exact answers_meaning .callPost _ _ _ s
  case callAmend => exact answers_meaning .callAmend _ _ _ s
  case callCancel => exact answers_meaning .callCancel _ _ _ s
  case callMove => exact answers_meaning .callMove _ _ _ s
  case trainEvent => exact answers_meaning .trainEvent _ _ _ s
  case callHandover => exact answers_meaning .callHandover _ _ _ s
  case callAdopt => exact answers_meaning .callAdopt _ _ _ s
  case callRefuse => exact answers_meaning .callRefuse _ _ _ s
  case lingerExpiry => exact answers_run rfl (upholds_lingerOver s _)
  case moveTimerExpiry => exact answers_run rfl (upholds_moveOver s _)
  case announce => exact answers_meaning .announce _ _ _ s
  case announceStop => exact answers_meaning .announceStop _ _ _ s
  case liveOpen => exact answers_meaning .liveOpen _ _ _ s
  case liveKeep => exact answers_meaning .liveKeep _ _ _ s
  case liveClose => exact answers_meaning .liveClose _ _ _ s
  case notBeforeReached => exact answers_run rfl (upholds_notBeforeReached s _)
  case entryExpiry => exact answers_run rfl (upholds_entryExpired s _)
  case claim => exact answers_meaning .claim _ _ _ s
  case release => exact answers_meaning .release _ _ _ s
  case occupancyExpiry => exact answers_run rfl (upholds_occupancyExpired s _)
  case refreshDeadlineExpiry => exact answers_run rfl (upholds_refreshOver s _)
  case claimSendTimeout => exact answers_run rfl (upholds_sendOver s _)
  case wakeEnd => exact answers_run rfl (upholds_wakeOver s _)
  case listenWindowEnd => exact answers_run rfl (upholds_listenOver s _)
  case primingDeadline => exact answers_run rfl (upholds_primingOver s _)
  case directoryReadComplete => exact answers_run rfl (upholds_of_calm (calm_directoryDone s _))
  case blockReadComplete => exact answers_run rfl (upholds_of_calm (calm_blockDone s _))
  case blockPlayed => exact answers_run rfl (upholds_blockOver s _)
  case gapEnd => exact answers_run rfl (upholds_gapOver s _)
  case keepTimerExpiry => exact answers_run rfl (upholds_keepOver s _)
  case tailEnd => exact answers_run rfl (upholds_tailOver s _)
  case gateEnd => exact answers_run rfl (upholds_gateOver s _)
  case quietDeadlineExpiry => exact answers_run rfl (upholds_quietOver s _)
  case evacStart => exact answers_meaning .evacStart _ _ _ s
  case evacStop => exact answers_meaning .evacStop _ _ _ s
  case evacRepeatExpiry =>
    refine answers_run rfl ?_
    dsimp only
    split
    · exact Upholds.refl s
    · exact upholds_repeatEvac s _
  case tonePlayingEnd => exact answers_run rfl (upholds_toneOver s)
  case evacPauseEnd => exact answers_run rfl (upholds_pauseOver s)
  case acceptedLevelChange contact active =>
    refine answers_run rfl ?_
    dsimp only
    split
    · exact Upholds.refl s
    next hno => exact upholds_acceptLevel (fun hp => hno (.inl hp)) contact active
  case roundDeadlineExpiry => exact answers_run rfl (upholds_roundOver s)
  case settleEnd => exact answers_run rfl (upholds_settleOver s)
  case lineGateEnd => exact answers_run rfl (upholds_lineGateOver s)
  case spacingEnd => exact answers_run rfl (upholds_spacingOver s)
  case faultAck => exact answers_meaning .faultAck _ _ _ s
  case testStep => exact answers_meaning .testStep _ _ _ s
  case statusQuery => exact answers_meaning .statusQuery _ _ _ s
  case faultReport => exact answers_meaning .faultReport _ _ _ s
  case nodeStatus => exact answers_meaning .nodeStatus _ _ _ s
  case announceResult => exact answers_meaning .announceResult _ _ _ s
  case contactSample => exact answers_run rfl (upholds_sampleContacts s _)
  case risingPulseEdge => exact answers_run rfl (upholds_edge s _ _)

end Sys2Proof.Proofs.Steps
end

section
/-! Start-up, the resets and the step: what every step keeps, and the statements on the machine as a whole. -/

namespace Sys2Proof.Proofs.Whole

open Sys2Proof.Machine
open Sys2Proof.Proofs.LiveClose Sys2Proof.Proofs.Faults Sys2Proof.Proofs.Upkeep Sys2Proof.Proofs.Uphold Sys2Proof.Proofs.CallRules
open Sys2Proof.Proofs.Commands Sys2Proof.Proofs.Steps

/-- From `s` to `t` every invariant of the statements stays, whatever start-up does. -/
structure Lasting (s t : State) : Prop where
  startOrder : s.StartOrder → t.StartOrder
  txLegal : s.TxQueueLegal → t.TxQueueLegal
  counters : s.CountersFit → t.CountersFit
  faults : s.FaultsDistinct → t.FaultsDistinct
  testStep : s.TestStepLegal → t.TestStepLegal
  calls : s.CallsFit → t.CallsFit
  entries : s.EntriesFit → t.EntriesFit
  owners : s.StartOrder → s.OwnersAgree → t.OwnersAgree
  keys : s.KeysApart → t.KeysApart

theorem lasting_of_upholds {s t : State} (h : Upholds s t) : Lasting s t :=
  ⟨startOrder_of_eq h.startup h.handedOver, h.txLegal, h.counters, h.faults, h.testStep, h.calls, h.entries, h.owners, h.keys⟩

namespace Lasting

theorem refl (s : State) : Lasting s s := lasting_of_upholds (Upholds.refl s)

theorem trans {s t u : State} (h : Lasting s t) (k : Lasting t u) : Lasting s u where
  startOrder := k.startOrder ∘ h.startOrder
  txLegal := k.txLegal ∘ h.txLegal
  counters := k.counters ∘ h.counters
  faults := k.faults ∘ h.faults
  testStep := k.testStep ∘ h.testStep
  calls := k.calls ∘ h.calls
  entries := k.entries ∘ h.entries
  owners o a := k.owners (h.startOrder o) (h.owners o a)
  keys := k.keys ∘ h.keys

theorem ite {s t u : State} {p : Prop} [Decidable p] (h : Lasting s t) (k : Lasting s u) : Lasting s (if p then t else u) := by
  split
  · exact h
  · exact k

end Lasting

theorem lasting_pending (s : State) (l : List Instr) : Lasting s { s with pending := l } where
  startOrder h := ⟨h.unread, h.limited, h.applied, h.ended, h.port⟩
  txLegal h := ⟨h.size, h.offLink, h.oneSending⟩
  counters := id
  faults := id
  testStep := id
  calls h := ⟨h.count, h.ordered, h.cells⟩
  entries := id
  owners _ h := ⟨h.absent, h.held, h.evacuation, h.claims⟩
  keys h := ⟨h.waiting, h.playing, h.both⟩

/-- A change of phase or step that keeps the configuration and does not leave the link. -/
theorem lasting_startup {s : State} {x : Startup} {p : Port} (horder : s.StartOrder → State.StartOrder { s with startup := x, port := p })
    (hlink : s.onLink = true → State.onLink { s with startup := x, port := p } = true) (hconfig : x.config = s.startup.config) :
    Lasting s { s with startup := x, port := p } where
  startOrder := horder
  txLegal h := ⟨h.size, fun hoff => h.offLink (by
    by_contra hon
    rw [hlink (by simpa using hon)] at hoff
    cases hoff), h.oneSending⟩
  counters := id
  faults := id
  testStep := id
  calls h := ⟨h.count, h.ordered, h.cells⟩
  entries := id
  owners _ h := ⟨fun hc => h.absent (by rw [← hconfig]; exact hc), h.held, h.evacuation, h.claims⟩
  keys h := ⟨h.waiting, h.playing, h.both⟩

theorem inStep_iff {s : State} {x : StartStep} : s.inStep x = true ↔ s.startup.phase = .start ∧ s.startup.step = x := by
  simp [State.inStep]

theorem onLink_of_start {s : State} (h : s.startup.phase = .start) : s.onLink = false := by simp [State.onLink, h]

/-! ### START (R180 to R182) -/

theorem lasting_enterLimited {s : State} (h : s.inStep .readConfig = true) : Lasting s s.enterLimited := by
  obtain ⟨hphase, hstep⟩ := inStep_iff.mp h
  have hoff := onLink_of_start hphase
  have hlimited : Lasting s { s with startup := { s.startup with phase := .limited, step := .ended }, port := s.port } := by
    refine lasting_startup (fun o => ⟨?_, fun _ => (o.unread hphase).mpr hstep, ?_, ?_, ?_⟩) (fun hon => ?_) rfl
    · exact fun h => nomatch h
    · exact fun h => nomatch h
    · simp
    · rw [show s.port.handedOver = true ↔ _ from o.port, hoff, hstep]
      simp [State.onLink]
    · rw [hoff] at hon
      cases hon
  exact hlimited.trans (lasting_of_upholds (upholds_sup _ _))

theorem zone_applyConfig (s : State) (c : NodeConfig) (z : ZoneId) : (s.applyConfig c).zone z
    = { s.zone z with present := (c.zones[z]).present, state := if (c.zones[z]).present then .idle else .off } :=
  eight_get _ z

theorem not_held_applyConfig (s : State) (c : NodeConfig) (z : ZoneId) (d : ChanId) : ((s.applyConfig c).zone z).state ≠ .held d := by
  rw [zone_applyConfig]
  dsimp only
  split <;> simp

theorem lasting_applyConfig {s : State} (h : s.inStep .readConfig = true) (c : NodeConfig) : Lasting s (s.applyConfig c) := by
  obtain ⟨hphase, hstep⟩ := inStep_iff.mp h
  have hoff := onLink_of_start hphase
  have hoff' : (s.applyConfig c).onLink = false := onLink_of_start hphase
  exact {
    startOrder := fun o => by
      refine ⟨fun _ => iff_of_false (fun h => nomatch h) (fun h => nomatch h), fun hl => ?_, fun _ => rfl, ?_, ?_⟩
      · have hl' : s.startup.phase = .limited := hl
        rw [hphase] at hl'
        cases hl'
      · exact iff_of_true hphase fun h => nomatch h
      · rw [show (s.applyConfig c).port.handedOver = true ↔ _ from o.port, hoff, hoff', hstep]
        exact iff_of_false (by simp) (by rintro (h | h) <;> cases h)
    txLegal := txLegal_of_queue rfl (hoff'.trans hoff.symm)
    counters := id
    faults := id
    testStep := id
    calls := fun h => ⟨h.count, h.ordered, h.cells⟩
    entries := id
    owners := fun _ o => ⟨fun _ z hz => by
        rw [zone_applyConfig] at hz ⊢
        exact if_neg (by rw [show (c.zones[z]).present = false from hz]; simp),
      fun z d hz => absurd hz (not_held_applyConfig s c z d), fun _ z d hz => absurd hz (not_held_applyConfig s c z d), o.claims⟩
    keys := fun h => ⟨h.waiting, h.playing, h.both⟩ }

theorem lasting_configRead (s : State) (image : List Byte) : Lasting s (s.configRead image) := by
  unfold State.configRead
  split
  next h =>
    split
    · exact lasting_enterLimited h
    next c _ _ =>
      exact Lasting.ite ((lasting_applyConfig h c).trans (lasting_of_upholds (upholds_raise _ _ _))) (lasting_applyConfig h c)
  · exact Lasting.refl s

theorem startOrder_inStart {s : State} {p : Port} {x y : StartStep} (h : s.inStep x = true) (hx : x ≠ .readConfig) (hy : y ≠ .readConfig)
    (hended : y ≠ .ended) (hport : s.StartOrder → (p.handedOver = true ↔ y = .waitLine)) (o : s.StartOrder) :
    State.StartOrder { s with startup := { s.startup with step := y }, port := p } := by
  obtain ⟨hphase, hstep⟩ := inStep_iff.mp h
  have hsome : s.startup.config ≠ none := fun hn => hx (hstep.symm.trans ((o.unread hphase).mp hn))
  refine ⟨fun _ => iff_of_false hsome hy, fun hl => ?_, fun hon => ?_, iff_of_true hphase hended, ?_⟩
  · have hl' : s.startup.phase = .limited := hl
    rw [hphase] at hl'
    cases hl'
  · have hon' : s.onLink = true := hon
    rw [onLink_of_start hphase] at hon'
    cases hon'
  · rw [show State.onLink { s with startup := { s.startup with step := y }, port := p } = false from onLink_of_start hphase]
    simpa using hport o

theorem lasting_inStart {s : State} {p : Port} {x y : StartStep} (h : s.inStep x = true) (hx : x ≠ .readConfig) (hy : y ≠ .readConfig)
    (hended : y ≠ .ended) (hport : s.StartOrder → (p.handedOver = true ↔ y = .waitLine)) :
    Lasting s { s with startup := { s.startup with step := y }, port := p } := by
  refine lasting_startup (startOrder_inStart h hx hy hended hport) (fun hon => ?_) rfl
  rw [onLink_of_start (inStep_iff.mp h).1] at hon
  cases hon

theorem handedOver_inStart {s : State} {x : StartStep} (h : s.inStep x = true) (hx : x ≠ .waitLine) (o : s.StartOrder) :
    s.port.handedOver ≠ true := by
  obtain ⟨hphase, hstep⟩ := inStep_iff.mp h
  rw [Ne, o.port, onLink_of_start hphase, hstep]
  simpa using hx

theorem lasting_handOver {s : State} {x : StartStep} (h : s.inStep x = true) (hx : x ≠ .readConfig) : Lasting s s.handOver :=
  lasting_inStart h hx (by simp) (by simp) fun _ => by simp

theorem lasting_headerRead (s : State) (header store : List Byte) : Lasting s (s.headerRead header store) := by
  unfold State.headerRead
  split
  next h =>
    have hraise := upholds_raise s .phraseStoreInvalid none
    have hin : (s.raise .phraseStoreInvalid none).inStep .readHeader = true := by
      unfold State.inStep
      rw [hraise.startup]
      exact h
    refine Lasting.ite (Lasting.trans ?_ (lasting_of_upholds (upholds_clear _ _ _)))
      ((lasting_of_upholds hraise).trans (lasting_handOver hin (by simp)))
    exact lasting_inStart (p := s.port) (y := .readTemplates) h (by simp) (by simp) (by simp)
      fun o => iff_of_false (handedOver_inStart h (by simp) o) (by simp)
  · exact Lasting.refl s

theorem upholds_store (s : State) (x : TemplateStore) : Upholds s { s with store := x } := by
  apply upholds_of_eq <;> first | rfl | exact txLegal_of_queue rfl rfl

theorem lasting_templatesRead (s : State) (store : List Byte) : Lasting s (s.templatesRead store) := by
  unfold State.templatesRead
  split
  next h => exact (lasting_of_upholds (upholds_store s _)).trans (lasting_handOver (x := .readTemplates) h (by simp))
  · exact Lasting.refl s

/-! ### JOINING and RUN (R124, R180) -/

/-- The phase becomes JOINING or RUN when the configuration stands and the port has been handed over. -/
theorem lasting_link {s : State} {x : Phase} (hx : x = .joining ∨ x = .run)
    (hready : s.StartOrder → s.startup.config.isSome = true ∧ s.port.handedOver = true) :
    Lasting s { s with startup := { s.startup with phase := x, step := .ended } } := by
  have hon : State.onLink { s with startup := { s.startup with phase := x, step := .ended } } = true := by
    obtain rfl | rfl := hx <;> rfl
  have hnot : x ≠ .start ∧ x ≠ .limited := by
    obtain rfl | rfl := hx <;> simp
  refine lasting_startup (p := s.port) (fun o => ?_) (fun _ => hon) rfl
  obtain ⟨hsome, hport⟩ := hready o
  exact ⟨fun h => absurd h hnot.1, fun h => absurd h hnot.2, fun _ => hsome, iff_of_false hnot.1 (by simp),
    iff_of_true hport (.inr hon)⟩

theorem upholds_beginSampling (s : State) : Upholds s s.beginSampling := upholds_sup s _

theorem upholds_loadAmbients (s : State) : Upholds s s.loadAmbients := by
  apply upholds_of_eq <;> first | rfl | exact txLegal_of_queue rfl rfl

theorem upholds_clearStale (s : State) (z : ZoneId) : Upholds s (s.clearStale z) :=
  ((((upholds_clear s _ _).trans (upholds_clear _ _ _)).trans (upholds_clear _ _ _)).trans (upholds_clear _ _ _)).trans (upholds_clear _ _ _)

theorem upholds_budgetAndJoin (s : State) (n : Option Nat) (d : Option Nat) :
    Upholds s { s with link := { s.link with budget := n }, claims := { s.claims with joinTimer := d } } := by
  apply upholds_of_eq <;> first | rfl | exact txLegal_of_queue rfl rfl

theorem lasting_startJoining {s : State} (h : s.inStep .waitLine = true) : Lasting s s.startJoining := by
  obtain ⟨hphase, hstep⟩ := inStep_iff.mp h
  have hphase' : Lasting s { s with startup := { s.startup with phase := .joining, step := .ended } } := by
    refine lasting_link (.inl rfl) fun o => ⟨?_, o.port.mpr (.inl hstep)⟩
    rw [Option.isSome_iff_ne_none]
    intro hn
    rw [(o.unread hphase).mp hn] at hstep
    cases hstep
  refine hphase'.trans (lasting_of_upholds ?_)
  exact Upholds.after (upholds_beginSampling _) ((upholds_loadAmbients _).after (upholds_budgetAndJoin _ (some s.cfg.errorBudget) _))

theorem lasting_enterJoining (s : State) : Lasting s s.enterJoining := by
  unfold State.enterJoining
  split
  next h =>
    have hstale : Upholds s.startJoining (allZones.foldl State.clearStale s.startJoining) := Upholds.foldl upholds_clearStale _ _
    exact (lasting_startJoining h.1).trans (lasting_of_upholds ((hstale.trans (upholds_pump _)).trans (upholds_walk _)))
  · exact Lasting.refl s

theorem lasting_startRun {s : State} (h : s.startup.phase = .joining) : Lasting s s.startRun := by
  have hon : s.onLink = true := by simp [State.onLink, h]
  have hphase : Lasting s { s with startup := { s.startup with phase := .run }, port := s.port } := by
    refine lasting_startup (fun o => ?_) (fun _ => rfl) rfl
    have hended : s.startup.step = .ended := by
      by_contra hne
      rw [o.ended.mpr hne] at h
      cases h
    refine ⟨fun h => (nomatch h), fun h => (nomatch h), fun _ => o.applied hon, ?_, ?_⟩
    · exact iff_of_false (fun h => nomatch h) (not_not_intro hended)
    · exact iff_of_true (o.port.mpr (.inr hon)) (.inr rfl)
  refine hphase.trans (lasting_of_upholds (Upholds.after (upholds_setScan _ _) ?_))
  apply upholds_of_eq <;> first | rfl | exact txLegal_of_queue rfl rfl

theorem lasting_joined (s : State) : Lasting s s.joined := by
  unfold State.joined
  split
  · exact Lasting.refl s
  next d _ =>
    split
    next h =>
      have hrun : Lasting s (s.advanceTo d).startRun := (lasting_of_upholds (upholds_advanceTo s d)).trans (lasting_startRun h)
      exact hrun.trans (lasting_of_upholds ((upholds_sendStatus _ 0 true).trans (upholds_walk _)))
    · exact Lasting.refl s

/-! ### Resets (R180, R183) -/

theorem reset_startOrder : State.reset.StartOrder := by constructor <;> decide

theorem reset_txLegal : State.reset.TxQueueLegal := by constructor <;> decide

theorem reset_counters : State.reset.CountersFit := fun i => by
  revert i
  decide

theorem reset_slot (i : Fin 16) : State.reset.faults.slots[i] = FaultSlot.empty := by
  revert i
  decide

theorem reset_faults : State.reset.FaultsDistinct := by
  intro i j a b h
  rw [reset_slot] at h
  cases h

theorem reset_chan (c : ChanId) : State.reset.chan c = none := by
  revert c
  decide

theorem reset_claimOf (c : ChanId) : State.reset.claimOf c = none := by
  revert c
  decide

theorem reset_zone (z : ZoneId) : State.reset.zone z = Zone.reset := by
  revert z
  decide

theorem reset_cont (c : ChanId) : State.reset.cont c = none := by
  revert c
  decide

theorem reset_zones (z : ZoneId) : (State.reset.zone z).state = .idle ∧ (State.reset.zone z).lineStatus = .untested
    ∧ (State.reset.zone z).ampFault = false ∧ State.reset.ampEnable z = false ∧ (State.reset.level z).sensorFault = .none
    ∧ (State.reset.level z).highRun = 0 ∧ (State.reset.level z).silentRun = 0 ∧ (State.reset.level z).goodRun = 0
    ∧ (State.reset.sup.lines[z]).skips = 0 := by
  revert z
  decide

theorem reset_contact (c : ContactId) : (State.reset.sup.contacts[c]).level = .unknown := by
  revert c
  decide

theorem reset_counter (i : Fin 16) : State.reset.counters[i] = 0 := by
  revert i
  decide

theorem reset_owners : State.reset.OwnersAgree := by
  refine ⟨fun h => (nomatch h), fun z c h => ?_, fun h => (nomatch h), fun c r h => ?_⟩
  · rw [reset_zone] at h
    cases h
  · rw [reset_claimOf] at h
    cases h

theorem reset_keys : State.reset.KeysApart := by
  refine ⟨List.Pairwise.nil, fun c d i j h => ?_, fun e h => nomatch h⟩
  rw [reset_chan] at h
  cases h

theorem reset_calls : State.reset.CallsFit := by constructor <;> decide

/-- A state like the one after a cold start but for the waiting commands, the hold of the line, the fault table and the counters. -/
theorem lasting_reset (s : State) {l : List Instr} {held : Bool} {f : FaultTable} {k : Vector Nat 16}
    (hfaults : s.FaultsDistinct → ∀ i j : Fin 16, ∀ a b : FaultRecord, f.slots[i].record = some a → f.slots[j].record = some b →
      a.kind = b.kind → a.subject = b.subject → a.simulated = b.simulated → i = j)
    (hstep : f.testStep ≤ 7) (hcounters : s.CountersFit → ∀ i : Fin 16, k[i] ≤ 65535) :
    Lasting s { State.reset with pending := l, startup := { State.reset.startup with resetHeld := held }, faults := f, counters := k } where
  startOrder _ := ⟨reset_startOrder.unread, reset_startOrder.limited, reset_startOrder.applied, reset_startOrder.ended, reset_startOrder.port⟩
  txLegal _ := ⟨reset_txLegal.size, reset_txLegal.offLink, reset_txLegal.oneSending⟩
  counters := hcounters
  faults := hfaults
  testStep _ := hstep
  calls _ := ⟨reset_calls.count, reset_calls.ordered, reset_calls.cells⟩
  entries _ := Nat.zero_le 24
  owners _ _ := ⟨reset_owners.absent, reset_owners.held, reset_owners.evacuation, reset_owners.claims⟩
  keys _ := ⟨reset_keys.waiting, reset_keys.playing, reset_keys.both⟩

theorem lasting_coldStart (s : State) : Lasting s { State.reset with pending := s.pending } :=
  lasting_reset s (fun _ => reset_faults) (Nat.zero_le 7) fun _ => reset_counters

theorem faultsDistinct_warm {s : State} (h : s.FaultsDistinct) : State.FaultsDistinct { s with faults := s.faults.warm } :=
  faultsDistinct_of_keysFrom (keysFrom_warm s.faults) h

theorem lasting_warm (s : State) : Lasting s s.warm := lasting_reset s faultsDistinct_warm (Nat.zero_le 7) id

theorem lasting_assertReset (s : State) : Lasting s s.assertReset := lasting_reset s faultsDistinct_warm (Nat.zero_le 7) id

/-! ### Every command and the step -/

theorem pending_enterJoining (s : State) : s.enterJoining.pending = s.pending := by
  unfold State.enterJoining
  split
  · have hstale : Upholds s.startJoining (allZones.foldl State.clearStale s.startJoining) := Upholds.foldl upholds_clearStale _ _
    exact ((hstale.trans (upholds_pump _)).trans (upholds_walk _)).pending
  · rfl

theorem pending_joined (s : State) : s.joined.pending = s.pending := by
  unfold State.joined
  split
  · rfl
  next d _ =>
    split
    · exact ((upholds_sendStatus (s.advanceTo d).startRun 0 true).trans (upholds_walk _)).pending
    · rfl

theorem pending_configRead (s : State) (image : List Byte) : (s.configRead image).pending = s.pending := by
  unfold State.configRead
  split
  · split
    · rfl
    · split
      · exact (upholds_raise _ _ _).pending
      · rfl
  · rfl

theorem pending_headerRead (s : State) (header store : List Byte) : (s.headerRead header store).pending = s.pending := by
  unfold State.headerRead
  split
  · split
    · exact (upholds_clear _ _ _).pending
    · exact (upholds_raise s _ _).pending
  · rfl

theorem pending_templatesRead (s : State) (store : List Byte) : (s.templatesRead store).pending = s.pending := by
  unfold State.templatesRead
  split <;> rfl

/-- A meaning answers a next state in which the invariants stay, with the commands that waited. -/
def Completes (s : State) (x : Host.Outcome State Fault Refusal) : Prop := ∃ t, x = .next t ∧ t.pending = s.pending ∧ Lasting s t

theorem completes_run {s t : State} {x : Host.Outcome State Fault Refusal} (hx : x = .next (if s.startup.resetHeld then s else t))
    (hpending : t.pending = s.pending) (h : Lasting s t) : Completes s x := by
  refine ⟨_, hx, ?_, Lasting.ite (Lasting.refl s) h⟩
  split
  · rfl
  · exact hpending

/-- Every command answers a next state, keeps the invariants and leaves the waiting commands alone. -/
theorem completes_exec (c : Instr) (s : State) : Completes s (exec c s) := by
  cases hc : ofStartup c with
  | false =>
    obtain ⟨t, ht, h⟩ := answers_exec hc s
    exact ⟨t, ht, h.pending, lasting_of_upholds h⟩
  | true =>
    cases c
    case coldStart => exact ⟨_, rfl, rfl, lasting_coldStart s⟩
    case resetAssert => exact ⟨_, rfl, rfl, lasting_assertReset s⟩
    case resetRelease => exact ⟨_, rfl, rfl, lasting_warm s⟩
    case configImageRead image => exact completes_run rfl (pending_configRead s image) (lasting_configRead s image)
    case phraseHeaderRead header store =>
      exact completes_run rfl (pending_headerRead s header store) (lasting_headerRead s header store)
    case templateStoreRead store => exact completes_run rfl (pending_templatesRead s store) (lasting_templatesRead s store)
    case enterJoining => exact completes_run rfl (pending_enterJoining s) (lasting_enterJoining s)
    case joinTimerExpiry => exact completes_run rfl (pending_joined s) (lasting_joined s)
    all_goals exact absurd hc (by simp [ofStartup])

theorem upholds_countTime (s : State) : Upholds s s.countTime := by
  apply upholds_of_eq <;> first | rfl | exact txLegal_of_queue rfl rfl

theorem upholds_charTime (s : State) : Upholds s s.charTime := by
  unfold State.charTime
  exact Upholds.ite ((upholds_countTime s).trans (upholds_completeFrame _)) (upholds_countTime s)

theorem step_of_pending {s : State} {c : Instr} {rest : List Instr} (h : s.pending = c :: rest) :
    step s = exec c { s with pending := rest } := by
  unfold step
  rw [h]

theorem step_of_held {s : State} (h : s.pending = []) (hheld : s.startup.resetHeld = true) : step s = .next s := by
  unfold step
  rw [h, hheld]
  rfl

theorem step_of_due {s : State} {c : Instr} (h : s.pending = []) (hawake : s.startup.resetHeld = false) (hdue : s.due = some c) :
    step s = exec c s := by
  unfold step
  rw [h, hawake, hdue]
  rfl

theorem step_of_idle {s : State} (h : s.pending = []) (hawake : s.startup.resetHeld = false) (hdue : s.due = none) :
    step s = .next s.charTime := by
  unfold step
  rw [h, hawake, hdue]
  rfl

/-- What a step can be. -/
theorem step_cases (s : State) :
    (∃ c rest, s.pending = c :: rest ∧ step s = exec c { s with pending := rest })
    ∨ (s.pending = [] ∧ (step s = .next s ∨ (∃ c, s.due = some c ∧ step s = exec c s) ∨ step s = .next s.charTime)) := by
  cases hp : s.pending with
  | cons c rest => exact .inl ⟨c, rest, rfl, step_of_pending hp⟩
  | nil =>
    right
    refine ⟨rfl, ?_⟩
    cases hheld : s.startup.resetHeld with
    | true => exact .inl (step_of_held hp hheld)
    | false =>
      cases hdue : s.due with
      | some c => exact .inr (.inl ⟨c, rfl, step_of_due hp hheld hdue⟩)
      | none => exact .inr (.inr (step_of_idle hp hheld hdue))

/-- Every step keeps every invariant. -/
theorem lasting_step {s t : State} (h : step s = .next t) : Lasting s t := by
  obtain ⟨c, rest, -, hstep⟩ | ⟨-, hstep | ⟨c, -, hstep⟩ | hstep⟩ := step_cases s
  · obtain ⟨u, hu, -, hlast⟩ := completes_exec c { s with pending := rest }
    rw [hstep, hu] at h
    cases h
    exact (lasting_pending s rest).trans hlast
  · rw [hstep] at h
    cases h
    exact Lasting.refl s
  · obtain ⟨u, hu, -, hlast⟩ := completes_exec c s
    rw [hstep, hu] at h
    cases h
    exact hlast
  · rw [hstep] at h
    cases h
    exact lasting_of_upholds (upholds_charTime s)

/-! ### The applied configuration (R181) -/

theorem config_configRead {s : State} (o : s.StartOrder) (h : s.startup.config.isSome = true) (image : List Byte) :
    (s.configRead image).startup.config = s.startup.config := by
  unfold State.configRead
  split
  next hin =>
    obtain ⟨hphase, hstep⟩ := inStep_iff.mp hin
    rw [(o.unread hphase).mpr hstep] at h
    cases h
  · rfl

theorem config_headerRead (s : State) (header store : List Byte) : (s.headerRead header store).startup.config = s.startup.config := by
  unfold State.headerRead
  split
  · split
    · have hclear := (upholds_clear { s with startup := { s.startup with step := .readTemplates } } .phraseStoreInvalid none).startup
      rw [hclear]
    · have hraise := congrArg Startup.config (upholds_raise s .phraseStoreInvalid none).startup
      exact hraise
  · rfl

theorem config_enterJoining (s : State) : s.enterJoining.startup.config = s.startup.config := by
  unfold State.enterJoining
  split
  · have hstale : Upholds s.startJoining (allZones.foldl State.clearStale s.startJoining) := Upholds.foldl upholds_clearStale _ _
    have hlater := ((hstale.trans (upholds_pump _)).trans (upholds_walk _)).startup
    rw [hlater]
    rfl
  · rfl

theorem config_joined (s : State) : s.joined.startup.config = s.startup.config := by
  unfold State.joined
  split
  · rfl
  next d _ =>
    split
    · have hlater := ((upholds_sendStatus (s.advanceTo d).startRun 0 true).trans (upholds_walk _)).startup
      rw [hlater]
      rfl
    · rfl

theorem config_templatesRead (s : State) (store : List Byte) : (s.templatesRead store).startup.config = s.startup.config := by
  unfold State.templatesRead
  split <;> rfl

theorem config_run {s t u : State} {x : Host.Outcome State Fault Refusal} (hx : x = .next (if s.startup.resetHeld then s else t))
    (h : t.startup.config = s.startup.config) (hu : x = .next u) : u.startup.config = s.startup.config := by
  rw [hx] at hu
  cases hu
  split
  · rfl
  · exact h

/-- A command other than a reset leaves an applied configuration as it is. -/
theorem config_exec {c : Instr} {s t : State} (hc : c ≠ .coldStart ∧ c ≠ .resetAssert ∧ c ≠ .resetRelease) (o : s.StartOrder)
    (h : s.startup.config.isSome = true) (ht : exec c s = .next t) : t.startup.config = s.startup.config := by
  cases hcmd : ofStartup c with
  | false =>
    obtain ⟨u, hu, hup⟩ := answers_exec hcmd s
    rw [hu] at ht
    cases ht
    exact congrArg Startup.config hup.startup
  | true =>
    cases c
    case coldStart => exact absurd rfl hc.1
    case resetAssert => exact absurd rfl hc.2.1
    case resetRelease => exact absurd rfl hc.2.2
    case configImageRead image => exact config_run rfl (config_configRead o h image) ht
    case phraseHeaderRead header store => exact config_run rfl (config_headerRead s header store) ht
    case templateStoreRead store => exact config_run rfl (config_templatesRead s store) ht
    case enterJoining => exact config_run rfl (config_enterJoining s) ht
    case joinTimerExpiry => exact config_run rfl (config_joined s) ht
    all_goals exact absurd hcmd (by simp [ofStartup])

/-- A reset command. -/
def isReset : Instr → Bool
  | .coldStart | .resetAssert | .resetRelease => true
  | _ => false

/-- What may be due is no reset. -/
def NoReset (o : Option Instr) : Prop := ∀ c, o = some c → isReset c = false

theorem noReset_dueIf {b : Bool} {c : Instr} (hc : isReset c = false) : NoReset (dueIf b c) := by
  unfold NoReset dueIf
  split
  · rintro d ⟨⟩
    exact hc
  · exact fun _ h => nomatch h

theorem noReset_firstDue {l : List (Option Instr)} (h : ∀ o ∈ l, NoReset o) : NoReset (firstDue l) := fun c hc => by
  obtain ⟨o, ho, hoc⟩ := List.exists_of_findSome?_eq_some hc
  exact h o ho c hoc

theorem noReset_cons {o : Option Instr} {l : List (Option Instr)} (h : NoReset o) (hl : ∀ x ∈ l, NoReset x) : ∀ x ∈ o :: l, NoReset x :=
  List.forall_mem_cons.mpr ⟨h, hl⟩

theorem noReset_map {α : Type} {f : α → Option Instr} (l : List α) (h : ∀ a, NoReset (f a)) : ∀ o ∈ l.map f, NoReset o := by
  rintro o ho
  obtain ⟨a, -, rfl⟩ := List.mem_map.mp ho
  exact h a

theorem noReset_append {l m : List (Option Instr)} (hl : ∀ o ∈ l, NoReset o) (hm : ∀ o ∈ m, NoReset o) : ∀ o ∈ l ++ m, NoReset o :=
  List.forall_mem_append.mpr ⟨hl, hm⟩

theorem noReset_dueLine (s : State) : NoReset s.dueLine := by
  unfold State.dueLine
  refine noReset_firstDue ?_
  repeat' refine noReset_cons (noReset_dueIf rfl) ?_
  exact fun _ h => nomatch h

theorem noReset_dueTime (s : State) : NoReset s.dueTime := by
  unfold State.dueTime
  refine noReset_firstDue ?_
  repeat' refine noReset_cons (noReset_dueIf rfl) ?_
  exact fun _ h => nomatch h

theorem noReset_dueTables (s : State) : NoReset s.dueTables := by
  unfold State.dueTables
  refine noReset_firstDue ?_
  repeat' refine noReset_append ?_ ?_
  all_goals exact noReset_map _ fun _ => noReset_dueIf rfl

theorem noReset_dueChannel (s : State) (c : ChanId) : NoReset (s.dueChannel c) := by
  unfold State.dueChannel
  refine noReset_firstDue ?_
  repeat' refine noReset_cons (noReset_dueIf rfl) ?_
  exact fun _ h => nomatch h

theorem noReset_dueScan (s : State) : NoReset s.dueScan := by
  unfold State.dueScan
  refine noReset_firstDue ?_
  repeat' refine noReset_cons (noReset_dueIf rfl) ?_
  refine noReset_cons (fun c hc => ?_) fun _ h => nomatch h
  split at hc
  · obtain ⟨p, -, rfl⟩ := Option.map_eq_some_iff.mp hc
    rfl
  · cases hc

theorem noReset_dueZone (s : State) (z : ZoneId) : NoReset (s.dueZone z) := by
  unfold State.dueZone
  refine noReset_firstDue ?_
  repeat' refine noReset_cons (noReset_dueIf rfl) ?_
  exact fun _ h => nomatch h

theorem noReset_due (s : State) : NoReset s.due := by
  unfold State.due
  have hfront : ∀ o ∈ [s.dueLine, s.dueTime, s.dueTables], NoReset o :=
    noReset_cons (noReset_dueLine s) (noReset_cons (noReset_dueTime s) (noReset_cons (noReset_dueTables s) fun _ h => nomatch h))
  have hscan : ∀ o ∈ [s.dueScan], NoReset o := noReset_cons (noReset_dueScan s) fun _ h => nomatch h
  exact noReset_firstDue (noReset_append (noReset_append (noReset_append hfront (noReset_map _ (noReset_dueChannel s))) hscan)
    (noReset_map _ (noReset_dueZone s)))

theorem config_step {s t : State} (o : s.StartOrder) (h : s.startup.config.isSome = true)
    (hno : ∀ c, s.pending.head? = some c → c ≠ .coldStart ∧ c ≠ .resetAssert ∧ c ≠ .resetRelease) (ht : step s = .next t) :
    t.startup.config = s.startup.config := by
  obtain ⟨c, rest, hp, hstep⟩ | ⟨-, hstep | ⟨c, hdue, hstep⟩ | hstep⟩ := step_cases s <;> rw [hstep] at ht
  · exact config_exec (s := { s with pending := rest }) (hno c (by rw [hp]; rfl)) ((lasting_pending s rest).startOrder o) h ht
  · cases ht
    rfl
  · have hreset := noReset_due s c hdue
    refine config_exec ⟨?_, ?_, ?_⟩ o h ht <;> rintro rfl <;> cases hreset
  · cases ht
    exact congrArg Startup.config (upholds_charTime s).startup

/-! ### The statements -/

/-- Settles O2: each meaning is a total function of the state, and no operation of it touches the waiting commands. -/
theorem execCompletes : Obligations.ExecCompletes := by
  intro c s
  obtain ⟨t, ht, hpending, -⟩ := completes_exec c s
  exact ⟨t, ht, hpending⟩

/-- Settles O3: only START's own commands and the resets change start-up, each from one legal stage to the next. -/
theorem stepKeepsStartOrder : Obligations.StepKeepsStartOrder := fun _ _ o h => (lasting_step h).startOrder o

/-- Settles O4: a configuration is applied only where none stands, and nothing that is due is a reset. -/
theorem configurationFixed : Obligations.ConfigurationFixed := fun _ _ o h hno ht => config_step o h hno ht

/-- Settles O5. -/
theorem stepKeepsTxQueue : Obligations.StepKeepsTxQueue := fun _ _ hq h => (lasting_step h).txLegal hq

/-- Settles O6. -/
theorem stepKeepsCounters : Obligations.StepKeepsCounters :=
  ⟨fun _ _ hc h => (lasting_step h).counters hc, fun _ _ hf hs h => ⟨(lasting_step h).faults hf, (lasting_step h).testStep hs⟩⟩

/-- Settles O7. -/
theorem stepKeepsTables : Obligations.StepKeepsTables :=
  ⟨fun _ _ hc h => (lasting_step h).calls hc, fun _ _ he h => (lasting_step h).entries he⟩

/-- Settles O8. -/
theorem stepKeepsOwners : Obligations.StepKeepsOwners :=
  ⟨fun _ _ o ho h => (lasting_step h).owners o ho, fun _ _ hk h => (lasting_step h).keys hk⟩

/-- Settles O9. -/
theorem coldStartLeaves : Obligations.ColdStartLeaves :=
  ⟨fun _ => ⟨_, rfl, rfl, rfl, rfl, rfl, rfl, rfl, rfl, rfl, rfl, rfl, rfl, rfl, rfl, rfl, rfl,
    fun c => ⟨reset_chan c, reset_claimOf c, reset_cont c⟩, rfl, rfl, rfl, reset_zones, rfl, reset_contact, rfl,
    fun i => ⟨reset_slot i, reset_counter i⟩, rfl⟩,
    reset_startOrder, reset_txLegal, reset_counters, Nat.zero_le 24, reset_calls, reset_faults, Nat.zero_le 7, reset_owners, reset_keys⟩

/-! ### A character time and the resets -/

/-- With an empty receiver a character time only counts. -/
theorem charTime_of_rxEmpty {s : State} (h : s.link.rxFrame = []) : s.charTime = s.countTime := by
  have hrx : s.countTime.link.rxFrame = [] := h
  unfold State.charTime State.completeFrame
  simp [hrx]

theorem now_countTime (s : State) :
    s.countTime.now = if s.clock.charPhase % 25 = 24 then (s.now + 1) % 2 ^ 40 else s.now := by
  have hphase : (s.clock.charPhase + 1) % 25 = 0 ↔ s.clock.charPhase % 25 = 24 := by omega
  exact if_congr hphase rfl rfl

/-- Settles O1: the step's own branches, and the counts of a character time. -/
theorem stepRunsFront : Obligations.StepRunsFront := by
  refine ⟨fun s c rest h => step_of_pending h, fun _ h hheld => step_of_held h hheld, fun _ _ h hawake hdue => step_of_due h hawake hdue,
    fun s h hawake hdue hrx => ⟨s.countTime, ?_, rfl, now_countTime s, ?_, ?_, ?_, rfl, ?_, rfl⟩⟩
  · rw [step_of_idle h hawake hdue, charTime_of_rxEmpty hrx]
  · intro hdrive hrun
    have hsending : s.sendingFrame.isSome = false := hdrive
    simp [State.countTime, hsending, hrun]
  · rintro (hdrive | hrun)
    · have hsending : s.sendingFrame.isSome = true := hdrive
      simp [State.countTime, hsending]
    · simp [State.countTime, Nat.pos_of_ne_zero hrun]
  · intro hrun
    simp [State.countTime, Nat.pos_of_ne_zero hrun]
  · rfl

/-- The slots of a fault table after a warm reset (R183). -/
theorem record_warm (t : FaultTable) (i : Fin 16) (r : FaultRecord) :
    (t.warm.slots[i]).record = some r ↔ (t.slots[i]).record = some r ∧ r.simulated = false := by
  rw [warm_slot, Option.filter_eq_some_iff, Bool.not_eq_true']

/-- Every command but the resets acts through the reset line: `run` gives its effect while the line is released. -/
theorem exec_eq_run {c : Instr} (h : isReset c = false) : ∃ f : State → State, ∀ s, exec c s = s.run f := by
  cases c
  case coldStart => cases h
  case resetAssert => cases h
  case resetRelease => cases h
  all_goals exact ⟨_, fun _ => rfl⟩

theorem run_held {s : State} (h : s.startup.resetHeld = true) (f : State → State) : s.run f = .next s := by
  unfold State.run
  rw [if_pos h]

/-- Settles O10. -/
theorem warmResetKeeps : Obligations.WarmResetKeeps := by
  refine ⟨fun s => ⟨_, _, rfl, rfl, rfl, rfl, rfl, fun i => ⟨?_, ?_, record_warm s.faults i⟩⟩, fun c s hheld hcold hassert hrelease => ?_⟩
  · exact congrArg FaultSlot.reportPending (warm_slot s.faults i)
  · exact congrArg FaultSlot.staleAck (warm_slot s.faults i)
  · have hreset : isReset c = false := by
      unfold isReset
      split <;> first | contradiction | rfl
    obtain ⟨f, hf⟩ := exec_eq_run hreset
    rw [hf, run_held hheld]

end Sys2Proof.Proofs.Whole
end

section
/-! Raising, clearing and reporting faults in full: what is left of the state, the records that come of it, and the reports offered (R11,
R173, R174, R176). -/

namespace Sys2Proof.Proofs.Reports

open Sys2Proof.Machine
open Sys2Proof.Proofs.LiveClose Sys2Proof.Proofs.Faults Sys2Proof.Proofs.Upkeep Sys2Proof.Proofs.Uphold Sys2Proof.Proofs.CallRules
open Sys2Proof.Proofs.Commands Sys2Proof.Proofs.Steps

/-- With the reset line released a command does what its effect does. -/
theorem exec_awake {s t : State} {x : Host.Outcome State Fault Refusal} (h : s.Awake)
    (hx : x = .next (if s.startup.resetHeld then s else t)) : x = .next t := by
  rw [hx, show s.startup.resetHeld = false from h]
  rfl

/-! ### What offering frames and reports leaves alone -/

/-- From `s` to `t` at most the transmit queue, the fault table and the counters differ. -/
def Sends (s t : State) : Prop :=
  t = { s with
    link := { s.link with queue := t.link.queue, seqCounter := t.link.seqCounter }, faults := t.faults, counters := t.counters }

/-- From `s` to `t` frames and reports were offered: besides, the records and every counter but TX_DROPPED are as they were. -/
structure Tells (s t : State) : Prop where
  sends : Sends s t
  counter : ∀ i : Fin 16, i ≠ 6 → t.counters[i] = s.counters[i]
  record : ∀ i : Fin 16, (t.faults.slots[i]).record = (s.faults.slots[i]).record

namespace Sends

theorem refl (s : State) : Sends s s := rfl

theorem trans {s t u : State} (h : Sends s t) (k : Sends t u) : Sends s u := by
  unfold Sends at *
  rw [k, h]

theorem ite {s t u : State} {p : Prop} [Decidable p] (h : Sends s t) (k : Sends s u) : Sends s (if p then t else u) := by
  split
  · exact h
  · exact k

theorem of_link {s : State} (q : List TxFrame) (n : Nat) : Sends s { s with link := { s.link with queue := q, seqCounter := n } } := rfl

section
variable {s t : State} (h : Sends s t)
include h

theorem pending : t.pending = s.pending := by rw [h]
theorem startup : t.startup = s.startup := by rw [h]
theorem clock : t.clock = s.clock := by rw [h]
theorem calls : t.calls = s.calls := by rw [h]
theorem store : t.store = s.store := by rw [h]
theorem queue : t.queue = s.queue := by rw [h]
theorem claims : t.claims = s.claims := by rw [h]
theorem chans : t.chans = s.chans := by rw [h]
theorem port : t.port = s.port := by rw [h]
theorem zones : t.zones = s.zones := by rw [h]
theorem levels : t.levels = s.levels := by rw [h]
theorem evac : t.evac = s.evac := by rw [h]
theorem sup : t.sup = s.sup := by rw [h]
theorem budget : t.link.budget = s.link.budget := by rw [h]
theorem monitor : t.link.monitor = s.link.monitor := by rw [h]
theorem cfg : t.cfg = s.cfg := by rw [h]; rfl
theorem onLink : t.onLink = s.onLink := by rw [h]; rfl
theorem now : t.now = s.now := by rw [h]; rfl
theorem stampNow : t.stampNow = s.stampNow := by rw [h]; rfl

end

end Sends

namespace Tells

theorem refl (s : State) : Tells s s := ⟨Sends.refl s, fun _ _ => rfl, fun _ => rfl⟩

theorem trans {s t u : State} (h : Tells s t) (k : Tells t u) : Tells s u where
  sends := h.sends.trans k.sends
  counter i hi := (k.counter i hi).trans (h.counter i hi)
  record i := (k.record i).trans (h.record i)

theorem ite {s t u : State} {p : Prop} [Decidable p] (h : Tells s t) (k : Tells s u) : Tells s (if p then t else u) := by
  split
  · exact h
  · exact k

end Tells

theorem sends_count (s : State) (k : Counter) : Sends s (s.count k) := rfl

theorem tells_queue (s : State) (q : List TxFrame) (n : Nat) : Tells s { s with link := { s.link with queue := q, seqCounter := n } } :=
  ⟨rfl, fun _ _ => rfl, fun _ => rfl⟩

theorem tells_mapQueue (s : State) (f : TxFrame → TxFrame) : Tells s (s.mapQueue f) := tells_queue s _ _

theorem tells_dropped (s : State) : Tells s (s.count .txDropped) := ⟨rfl, fun i hi => count_other s .txDropped i (Ne.symm hi), fun _ => rfl⟩

theorem tells_txInsert (s : State) (f : TxFrame) : Tells s (s.txInsert f) := by
  unfold State.txInsert
  exact Tells.ite (tells_queue s _ _) (Tells.ite ((tells_queue s _ _).trans (tells_dropped _)) (tells_dropped s))

theorem tells_txClaim (s : State) (f : TxFrame) : Tells s (s.txClaim f) := by
  unfold State.txClaim
  exact Tells.ite (tells_mapQueue s _) (tells_txInsert s f)

theorem tells_txRelease (s : State) (f : TxFrame) : Tells s (s.txRelease f) := by
  unfold State.txRelease
  split
  · exact tells_txInsert s f
  · exact Tells.ite ((tells_mapQueue s _).trans (tells_txInsert _ f))
      (Tells.ite (tells_queue s _ _) ((tells_queue s _ _).trans (tells_txInsert _ f)))

theorem tells_txEvacStart (s : State) (f : TxFrame) : Tells s (s.txEvacStart f) := by
  unfold State.txEvacStart
  exact Tells.ite (tells_mapQueue s _) (tells_txInsert s f)

theorem tells_txOffer (s : State) (f : TxFrame) : Tells s (s.txOffer f) := by
  unfold State.txOffer
  split
  · split
    · exact tells_txClaim s f
    · exact tells_txRelease s f
    · exact tells_txEvacStart s f
    · exact tells_txInsert s f
  · exact Tells.refl s

/-- The marks of a slot cleared (R176). -/
def unmarked (s : State) (i : Fin 16) : State :=
  { s with faults := { s.faults with slots := s.faults.slots.set i { s.faults.slots[i] with reportPending := false, staleAck := false } } }

/-- The report of a slot as a frame (R176). -/
def reportFrame (s : State) (i : Fin 16) : TxFrame :=
  plainFrame 0 .faultReport (reportPayload i (s.faults.slots[i]).record (s.faults.slots[i]).staleAck) 3

theorem report_eq (s : State) (i : Fin 16) : s.report i = (unmarked s i).txOffer (reportFrame s i) := rfl

theorem tells_unmarked (s : State) (i : Fin 16) : Tells s (unmarked s i) := by
  refine ⟨rfl, fun _ _ => rfl, fun j => ?_⟩
  unfold unmarked
  by_cases h : i.val = j.val <;> simp [h]

theorem tells_report (s : State) (i : Fin 16) : Tells s (s.report i) :=
  (tells_unmarked s i).trans (tells_txOffer (unmarked s i) (reportFrame s i))

theorem tells_pumpN (n : Nat) (s : State) : Tells s (pumpN n s) := by
  induction n generalizing s with
  | zero => exact Tells.refl s
  | succ n ih =>
    unfold pumpN
    split
    · split
      · exact (tells_report s _).trans (ih _)
      · exact Tells.refl s
    · exact Tells.refl s

theorem tells_pump (s : State) : Tells s s.pump := tells_pumpN 16 s

theorem tells_offer (s : State) (f : TxFrame) : Tells s (s.offer f) := (tells_txOffer s f).trans (tells_pump _)

theorem sends_faults (s : State) (t : FaultTable) : Sends s { s with faults := t } := rfl

theorem sends_raiseAs (s : State) (k : FaultKind) (subject : Option Nat) (sim : Bool) : Sends s (s.raiseAs k subject sim) := by
  unfold State.raiseAs
  split
  · exact (sends_faults s _).trans (tells_pump _).sends
  · exact sends_count s _

theorem sends_raise (s : State) (k : FaultKind) (subject : Option Nat) : Sends s (s.raise k subject) := sends_raiseAs s k subject false

theorem sends_clear (s : State) (k : FaultKind) (subject : Option Nat) : Sends s (s.clear k subject) :=
  (sends_faults s _).trans (tells_pump _).sends

/-! ### In START and LIMITED nothing is offered (R11) -/

theorem txOffer_of_unlinked {s : State} (h : s.onLink = false) (f : TxFrame) : s.txOffer f = s := by
  unfold State.txOffer
  rw [h]
  rfl

theorem pump_of_unlinked {s : State} (h : s.onLink = false) : s.pump = s := by
  unfold State.pump pumpN
  rw [h]
  rfl

theorem pump_faults_of_unlinked {s : State} (h : s.onLink = false) (t : FaultTable) :
    ({ s with faults := t } : State).pump = { s with faults := t } := pump_of_unlinked h

theorem offer_of_unlinked {s : State} (h : s.onLink = false) (f : TxFrame) : s.offer f = s := by
  unfold State.offer
  rw [txOffer_of_unlinked h, pump_of_unlinked h]

/-! ### The pump with room in the transmit queue (R176) -/

theorem insertFrame_perm (f : TxFrame) (l : List TxFrame) : (insertFrame f l).Perm (f :: l) := by
  induction l with
  | nil => exact List.Perm.refl _
  | cons g rest ih =>
    unfold insertFrame
    split
    · exact (ih.cons g).trans (List.Perm.swap f g rest)
    · exact List.Perm.refl _

theorem mem_insertFrame {f g : TxFrame} {l : List TxFrame} : g ∈ insertFrame f l ↔ g = f ∨ g ∈ l :=
  (insertFrame_perm f l).mem_iff.trans List.mem_cons

theorem txInsert_of_room {s : State} (h : s.link.queue.length < 8) (f : TxFrame) : s.txInsert f = { s with link := s.link.join f } := by
  unfold State.txInsert
  rw [if_pos h]

/-- A frame that no coalescing rule absorbs is inserted (R11). -/
theorem txOffer_of_plain {s : State} {f : TxFrame} (hon : s.onLink = true) (hclaim : f.kind ≠ .claim) (hrelease : f.kind ≠ .release)
    (hevac : f.kind ≠ .evacStart) : s.txOffer f = s.txInsert f := by
  unfold State.txOffer
  rw [if_pos hon]
  split <;> first | contradiction | rfl

theorem report_of_room {s : State} (hon : s.onLink = true) (hroom : s.link.queue.length < 8) (i : Fin 16) :
    s.report i = { unmarked s i with link := s.link.join (reportFrame s i) } := by
  rw [report_eq, txOffer_of_plain (s := unmarked s i) hon (by simp [reportFrame, plainFrame]) (by simp [reportFrame, plainFrame])
    (by simp [reportFrame, plainFrame]), txInsert_of_room (s := unmarked s i) hroom]
  rfl

/-- A report in the queue stops the pump. -/
theorem pumpN_of_reporting {s : State} {f : TxFrame} (hf : f ∈ s.link.queue) (hkind : f.kind = .faultReport) (n : Nat) : pumpN n s = s := by
  have hany : s.link.queue.any (fun g => decide (g.kind = .faultReport)) = true :=
    List.any_eq_true.mpr ⟨f, hf, by simpa using hkind⟩
  cases n with
  | zero => rfl
  | succ n =>
    unfold pumpN
    rw [hany]
    simp

/-- With room in the queue the pump offers at most one report, that of the first slot marked. -/
theorem pump_of_room {s : State} (hroom : s.link.queue.length < 8) :
    s.pump = s ∨ ∃ i, s.onLink = true ∧ s.faults.firstMarked = some i ∧ s.pump = s.report i := by
  unfold State.pump pumpN
  split
  next hcond =>
    have hon : s.onLink = true := by
      simp only [Bool.and_eq_true] at hcond
      exact hcond.1
    obtain hnone | ⟨i, hi⟩ := Option.eq_none_or_eq_some s.faults.firstMarked
    · left
      simp only [hnone]
    · right
      refine ⟨i, hon, hi, ?_⟩
      simp only [hi]
      refine pumpN_of_reporting (f := { reportFrame s i with seq := s.link.seqCounter }) ?_ rfl 15
      rw [report_of_room hon hroom]
      exact mem_insertFrame.mpr (.inl rfl)
  · exact .inl rfl

theorem mem_pump {s : State} {f : TxFrame} (hroom : s.link.queue.length < 8) (hf : f ∈ s.link.queue) : f ∈ s.pump.link.queue := by
  obtain h | ⟨i, hon, -, h⟩ := pump_of_room hroom <;> rw [h]
  · exact hf
  · rw [report_of_room hon hroom]
    exact mem_insertFrame.mpr (.inr hf)

/-- Without a mark there is nothing to pump. -/
theorem pump_of_unmarked {s : State} (h : s.faults.firstMarked = none) : s.pump = s := by
  unfold State.pump pumpN
  split
  · simp only [h]
  · rfl

/-! ### The slot of a key after a write -/

/-- A search that differs at most at one element, which it now accepts, finds what it found or that element. -/
theorem find?_eq_some_of_agree {α : Type} {p q : α → Bool} {i : α} {l : List α} (hq : q i = true) (hagree : ∀ j, j ≠ i → q j = p j)
    (h : l.find? p = some i ∨ (l.find? p = none ∧ i ∈ l)) : l.find? q = some i := by
  induction l with
  | nil =>
    obtain h | ⟨-, h⟩ := h
    · cases h
    · cases h
  | cons a rest ih =>
    by_cases ha : a = i
    · subst ha
      exact List.find?_cons_of_pos hq
    · obtain h | ⟨h, hmem⟩ := h
      · have hp : p a = false := by
          by_contra hne
          rw [List.find?_cons_of_pos (by simpa using hne)] at h
          exact ha (Option.some.inj h)
        rw [List.find?_cons_of_neg (by simp [hp])] at h
        rw [List.find?_cons_of_neg (by simp [hagree a ha, hp])]
        exact ih (.inl h)
      · rw [List.find?_eq_none] at h
        have hp : p a = false := by simpa using h a (List.mem_cons_self ..)
        rw [List.find?_cons_of_neg (by simp [hagree a ha, hp])]
        refine ih (.inr ⟨?_, (List.mem_cons.mp hmem).resolve_left (Ne.symm ha)⟩)
        rw [List.find?_eq_none]
        exact fun x hx => h x (List.mem_cons_of_mem _ hx)

/-- A record of the key written in its slot, or in any slot where none had the key, is the one that the key finds. -/
theorem find_write {t : FaultTable} {k : FaultKind} {subject : Option Nat} {sim : Bool} {i : Fin 16} {r : FaultRecord}
    (hkey : r.hasKey k subject sim = true) (h : t.find k subject sim = some i ∨ t.find k subject sim = none) :
    (t.write i (some r)).find k subject sim = some i := by
  have hfind : t.find k subject sim = some i ∨ (t.find k subject sim = none ∧ i ∈ allSlots) := h.imp_right fun h => ⟨h, mem_allSlots i⟩
  refine find?_eq_some_of_agree ?_ (fun j hj => ?_) hfind
  · rw [write_slot_self]
    exact hkey
  · rw [write_slot_of_ne t _ hj]

/-- The search sees the records' keys alone. -/
theorem find_congr {t u : FaultTable} {k : FaultKind} {subject : Option Nat} {sim : Bool}
    (h : ∀ i : Fin 16, (u.slots[i]).record.any (fun r => r.hasKey k subject sim) = (t.slots[i]).record.any fun r => r.hasKey k subject sim) :
    u.find k subject sim = t.find k subject sim := by
  unfold FaultTable.find
  exact congrArg (List.find? · allSlots) (funext h)

theorem find_congr_record {t u : FaultTable} {k : FaultKind} {subject : Option Nat} {sim : Bool}
    (h : ∀ i : Fin 16, (u.slots[i]).record = (t.slots[i]).record) : u.find k subject sim = t.find k subject sim :=
  find_congr fun i => by rw [h]

theorem hasActive_congr_record {t u : FaultTable} {k : FaultKind} {subject : Option Nat}
    (h : ∀ i : Fin 16, (u.slots[i]).record = (t.slots[i]).record) : u.hasActive k subject = t.hasActive k subject := by
  unfold FaultTable.hasActive
  rw [find_congr_record h]
  split
  · rw [h]
  · rfl

theorem hasActive_of_find {t : FaultTable} {k : FaultKind} {subject : Option Nat} {i : Fin 16} (h : t.find k subject false = some i) :
    t.hasActive k subject = (t.slots[i]).record.any FaultRecord.isActive := by
  unfold FaultTable.hasActive
  simp only [h]

/-! ### A raise (R173, R174) -/

/-- The record that a raise starts where the table has none of its key (R173). -/
def firstRecord (k : FaultKind) (subject : Option Nat) (sim : Bool) (stamp : Option Stamp) (now : Nat) : FaultRecord :=
  { kind := k, subject := subject, simulated := sim, state := if k.isCondition then .activeUnack else .clearedUnack,
    firstSeen := stamp, lastChange := stamp, occurrences := 1, generation := 1, age := now }

theorem raised_new (k : FaultKind) (subject : Option Nat) (sim : Bool) (stamp : Option Stamp) (now : Nat) :
    (FaultRecord.new k subject sim stamp).raised stamp now = firstRecord k subject sim stamp now := rfl

/-- A raise in the state: the record of the key is raised in its slot, a new one takes a slot, or the raise is dropped. -/
theorem raiseAs_cases (s : State) (k : FaultKind) (subject : Option Nat) (sim : Bool) :
    (∃ i r, s.faults.find k subject sim = some i ∧ (s.faults.slots[i]).record = some r
      ∧ s.raiseAs k subject sim = ({ s with faults := s.faults.write i (some (r.raised s.stampNow s.now)) } : State).pump)
    ∨ (s.faults.find k subject sim = none ∧ ∃ i, s.faults.place k.isMajor = some i
      ∧ s.raiseAs k subject sim = ({ s with faults := s.faults.write i (some (firstRecord k subject sim s.stampNow s.now)) } : State).pump)
    ∨ (s.faults.find k subject sim = none ∧ s.faults.place k.isMajor = none ∧ s.raiseAs k subject sim = s.count .faultsDropped) := by
  unfold State.raiseAs
  obtain ⟨i, r, hfind, hr, hraise⟩ | ⟨hfind, i, hplace, hraise⟩ | ⟨hfind, hplace, hraise⟩ :=
    raise_cases s.faults k subject sim s.stampNow s.now
  · refine .inl ⟨i, r, hfind, hr, ?_⟩
    rw [hraise]
  · refine .inr (.inl ⟨hfind, i, hplace, ?_⟩)
    rw [hraise, raised_new]
  · refine .inr (.inr ⟨hfind, hplace, ?_⟩)
    rw [hraise]

/-- No slot is empty where a new record has no place. -/
theorem record_of_no_place {t : FaultTable} {major : Bool} (h : t.place major = none) (i : Fin 16) : (t.slots[i]).record.isSome = true := by
  unfold FaultTable.place at h
  split at h
  · cases h
  next hnone =>
    have hi := List.find?_eq_none.mp hnone i (mem_allSlots i)
    cases hr : (t.slots[i]).record with
    | none => rw [hr] at hi; exact absurd rfl hi
    | some r => rfl

theorem hasKey_raised {r : FaultRecord} (stamp : Option Stamp) (now : Nat) {k : FaultKind} {subject : Option Nat} {sim : Bool} :
    (r.raised stamp now).hasKey k subject sim = r.hasKey k subject sim := rfl

theorem hasKey_of_find {t : FaultTable} {k : FaultKind} {subject : Option Nat} {sim : Bool} {i : Fin 16} {r : FaultRecord}
    (h : t.find k subject sim = some i) (hr : (t.slots[i]).record = some r) : r.hasKey k subject sim = true := by
  obtain ⟨q, hq, hkey⟩ := record_of_find h
  rw [hr] at hq
  cases hq
  exact (hasKey_iff _ _ _ _).mpr hkey

theorem record_write (t : FaultTable) (i j : Fin 16) (r : Option FaultRecord) :
    ((t.write i r).slots[j]).record = if j = i then r else (t.slots[j]).record := by
  split
  next h => rw [h, write_slot_self]
  next h => rw [write_slot_of_ne t r h]

/-- A raise is dropped and counted, with the table full of other records, or leaves a record of its key, active for a condition. -/
theorem raise_outcome (s : State) (k : FaultKind) (subject : Option Nat) :
    s.raise k subject = s.count .faultsDropped
    ∨ ∃ i r, (s.raise k subject).faults.find k subject false = some i ∧ ((s.raise k subject).faults.slots[i]).record = some r
      ∧ r.state = (if k.isCondition then .activeUnack else .clearedUnack) := by
  obtain ⟨i, r, hfind, hr, hraise⟩ | ⟨hfind, i, -, hraise⟩ | ⟨-, -, hraise⟩ := raiseAs_cases s k subject false
  · right
    have hkey := hasKey_of_find hfind hr
    refine ⟨i, r.raised s.stampNow s.now, ?_, ?_, ?_⟩
    · rw [State.raise, hraise, find_congr_record (tells_pump _).record]
      exact find_write (by rw [hasKey_raised]; exact hkey) (.inl hfind)
    · rw [State.raise, hraise, pump_record, record_write, if_pos rfl]
    · rw [← ((hasKey_iff _ _ _ _).mp hkey).1]
      rfl
  · right
    refine ⟨i, firstRecord k subject false s.stampNow s.now, ?_, ?_, rfl⟩
    · rw [State.raise, hraise, find_congr_record (tells_pump _).record]
      exact find_write ((hasKey_iff _ _ _ _).mpr ⟨rfl, rfl, rfl⟩) (.inr hfind)
    · rw [State.raise, hraise, pump_record, record_write, if_pos rfl]
  · exact .inl hraise

theorem hasActive_raise {s : State} {k : FaultKind} (hk : k.isCondition = true) (subject : Option Nat) :
    (s.raise k subject).faults.hasActive k subject = true ∨ s.raise k subject = s.count .faultsDropped := by
  obtain h | ⟨i, r, hfind, hr, hstate⟩ := raise_outcome s k subject
  · exact .inr h
  · left
    rw [hasActive_of_find hfind, hr]
    simp [FaultRecord.isActive, hstate, hk]

theorem find_raise (s : State) (k : FaultKind) (subject : Option Nat) :
    ((s.raise k subject).faults.find k subject false).isSome = true ∨ s.raise k subject = s.count .faultsDropped := by
  obtain h | ⟨i, r, hfind, -, -⟩ := raise_outcome s k subject
  · exact .inr h
  · left
    rw [hfind]
    rfl

/-- A raise is what the statements say of one (R173, R174). -/
theorem raised_raise (s : State) (k : FaultKind) (subject : Option Nat) : s.Raised (s.raise k subject) k subject := by
  have hsends := sends_raise s k subject
  unfold State.Raised
  rw [hsends.stampNow, hsends.now]
  obtain ⟨i, r, hfind, hr, hraise⟩ | ⟨hfind, i, -, hraise⟩ | ⟨hfind, hplace, hraise⟩ := raiseAs_cases s k subject false
  · refine ⟨fun j q hj hq => ?_, fun hnone => ?_⟩
    · rw [hfind] at hj
      cases hj
      rw [hr] at hq
      cases hq
      rw [State.raise, hraise, pump_record, record_write, if_pos rfl, ← ((hasKey_iff _ _ _ _).mp (hasKey_of_find hfind hr)).1]
      rfl
    · rw [hfind] at hnone
      cases hnone
  · refine ⟨fun j q hj => ?_, fun _ => .inl ⟨i, ?_⟩⟩
    · rw [hfind] at hj
      cases hj
    · rw [State.raise, hraise, pump_record, record_write, if_pos rfl]
      rfl
  · refine ⟨fun j q hj => ?_, fun _ => .inr ⟨fun i => ⟨record_of_no_place hplace i, ?_⟩, ?_⟩⟩
    · rw [hfind] at hj
      cases hj
    · rw [State.raise, hraise]
      rfl
    · rw [State.raise, hraise]
      exact count_counter s .faultsDropped

/-- The statement on a raise sees the records, the time and FAULTS_DROPPED alone. -/
theorem raised_congr {s t s' t' : State} {k : FaultKind} {subject : Option Nat} (h : s.Raised t k subject)
    (hs : ∀ i : Fin 16, (s'.faults.slots[i]).record = (s.faults.slots[i]).record)
    (ht : ∀ i : Fin 16, (t'.faults.slots[i]).record = (t.faults.slots[i]).record)
    (hsc : s'.counters[(15 : Fin 16)] = s.counters[(15 : Fin 16)]) (htc : t'.counters[(15 : Fin 16)] = t.counters[(15 : Fin 16)])
    (hstamp : t'.stampNow = t.stampNow) (hnow : t'.now = t.now) : s'.Raised t' k subject := by
  unfold State.Raised at h ⊢
  simp only [hs, ht, hsc, htc, hstamp, hnow, find_congr_record hs]
  exact h

/-- A raise in a state that has the records and FAULTS_DROPPED of another. -/
theorem raised_from {s u : State} (k : FaultKind) (subject : Option Nat)
    (hs : ∀ i : Fin 16, (s.faults.slots[i]).record = (u.faults.slots[i]).record)
    (hsc : s.counters[(15 : Fin 16)] = u.counters[(15 : Fin 16)]) : s.Raised (u.raise k subject) k subject :=
  raised_congr (raised_raise u k subject) hs (fun _ => rfl) hsc rfl rfl rfl

/-- Frames offered after a raise leave what it says. -/
theorem raised_tells {s t u : State} {k : FaultKind} {subject : Option Nat} (h : s.Raised t k subject) (ht : Tells t u) :
    s.Raised u k subject :=
  raised_congr h (fun _ => rfl) ht.record rfl (ht.counter 15 (by decide)) ht.sends.stampNow ht.sends.now

theorem raise_of_unlinked {s : State} (h : s.onLink = false) (k : FaultKind) (subject : Option Nat) :
    s.raise k subject = { s with faults := (s.raise k subject).faults, counters := (s.raise k subject).counters } := by
  obtain ⟨i, r, -, -, hraise⟩ | ⟨-, i, -, hraise⟩ | ⟨-, -, hraise⟩ := raiseAs_cases s k subject false <;>
    rw [State.raise, hraise]
  · rw [pump_faults_of_unlinked h]
  · rw [pump_faults_of_unlinked h]
  · rfl

/-! ### A clear (R173) -/

theorem hasKey_cleared {r : FaultRecord} (stamp : Option Stamp) (now : Nat) {k : FaultKind} {subject : Option Nat} {sim : Bool} :
    (r.cleared stamp now).hasKey k subject sim = r.hasKey k subject sim := rfl

theorem clear_of_find_none {t : FaultTable} {k : FaultKind} {subject : Option Nat} (h : t.find k subject false = none)
    (stamp : Option Stamp) (now : Nat) : t.clear k subject stamp now = t := by
  simp only [FaultTable.clear, h]

theorem clear_of_find {t : FaultTable} {k : FaultKind} {subject : Option Nat} {i : Fin 16} {r : FaultRecord}
    (h : t.find k subject false = some i) (hr : (t.slots[i]).record = some r) (stamp : Option Stamp) (now : Nat) :
    t.clear k subject stamp now = if r.isActive = true then t.write i (some (r.cleared stamp now)) else t := by
  simp only [FaultTable.clear, h, hr]

/-- The records after a clear. -/
theorem record_clear (s : State) (k : FaultKind) (subject : Option Nat) (j : Fin 16) :
    ((s.clear k subject).faults.slots[j]).record =
      if s.faults.find k subject false = some j
      then (s.faults.slots[j]).record.map fun r => if r.isActive then r.cleared s.stampNow s.now else r
      else (s.faults.slots[j]).record := by
  unfold State.clear
  rw [pump_record]
  obtain hnone | ⟨i, hi⟩ := Option.eq_none_or_eq_some (s.faults.find k subject false)
  · rw [clear_of_find_none hnone, hnone]
    rfl
  · obtain ⟨r, hr, -⟩ := record_of_find hi
    have hmap : (if s.faults.find k subject false = some j
        then (s.faults.slots[j]).record.map fun r => if r.isActive then r.cleared s.stampNow s.now else r
        else (s.faults.slots[j]).record) = if j = i then some (if r.isActive then r.cleared s.stampNow s.now else r)
        else (s.faults.slots[j]).record := by
      by_cases hj : j = i
      · rw [if_pos (by rw [hi, hj]), if_pos hj, hj, hr, Option.map_some]
      · rw [if_neg (by rw [hi, Option.some.injEq]; exact Ne.symm hj), if_neg hj]
    rw [clear_of_find hi hr, hmap]
    by_cases hactive : r.isActive = true
    · simp only [if_pos hactive]
      exact record_write _ _ _ _
    · simp only [if_neg hactive]
      split
      next hj => rw [hj, hr]
      · rfl

theorem cleared_clear (s : State) (k : FaultKind) (subject : Option Nat) : s.Cleared (s.clear k subject) k subject := by
  intro i r hfind hr
  rw [record_clear, if_pos hfind, hr, (sends_clear s k subject).stampNow, (sends_clear s k subject).now, Option.map_some]
  by_cases hstate : r.state = .clearedUnack <;> simp [FaultRecord.isActive, hstate, FaultRecord.cleared]

theorem cleared_congr {s t s' t' : State} {k : FaultKind} {subject : Option Nat} (h : s.Cleared t k subject)
    (hs : ∀ i : Fin 16, (s'.faults.slots[i]).record = (s.faults.slots[i]).record)
    (ht : ∀ i : Fin 16, (t'.faults.slots[i]).record = (t.faults.slots[i]).record)
    (hstamp : t'.stampNow = t.stampNow) (hnow : t'.now = t.now) : s'.Cleared t' k subject := by
  intro i r hfind hr
  rw [find_congr_record hs] at hfind
  rw [hs] at hr
  rw [ht, hstamp, hnow]
  exact h i r hfind hr

/-- A clear keeps the key of every record. -/
theorem find_clear (s : State) (k k' : FaultKind) (subject subject' : Option Nat) (sim : Bool) :
    (s.clear k subject).faults.find k' subject' sim = s.faults.find k' subject' sim := by
  refine find_congr fun i => ?_
  rw [record_clear]
  split
  · cases (s.faults.slots[i]).record with
    | none => rfl
    | some r =>
      simp only [Option.map_some, Option.any_some]
      split
      · exact hasKey_cleared _ _
      · rfl
  · rfl

/-- A clear leaves no active record of its key. -/
theorem hasActive_clear_self (s : State) (k : FaultKind) (subject : Option Nat) : (s.clear k subject).faults.hasActive k subject = false := by
  obtain hnone | ⟨i, hi⟩ := Option.eq_none_or_eq_some ((s.clear k subject).faults.find k subject false)
  · unfold FaultTable.hasActive
    simp only [hnone]
  · rw [hasActive_of_find hi, record_clear, if_pos ((find_clear s k k subject subject false).symm.trans hi)]
    cases (s.faults.slots[i]).record with
    | none => rfl
    | some r =>
      simp only [Option.map_some, Option.any_some]
      split
      · rfl
      next hactive => simpa using hactive

/-- A clear makes no record active. -/
theorem hasActive_clear_of_inactive {s : State} {k' : FaultKind} {subject' : Option Nat} (h : s.faults.hasActive k' subject' = false)
    (k : FaultKind) (subject : Option Nat) : (s.clear k subject).faults.hasActive k' subject' = false := by
  obtain hnone | ⟨i, hi⟩ := Option.eq_none_or_eq_some ((s.clear k subject).faults.find k' subject' false)
  · unfold FaultTable.hasActive
    simp only [hnone]
  · rw [hasActive_of_find ((find_clear s k k' subject subject' false).symm.trans hi)] at h
    rw [hasActive_of_find hi, record_clear]
    split
    · cases hr : (s.faults.slots[i]).record with
      | none => rfl
      | some r =>
        rw [hr] at h
        simp only [Option.map_some, Option.any_some] at h ⊢
        split
        · rfl
        · exact h
    · exact h

theorem counters_clear (s : State) (k : FaultKind) (subject : Option Nat) {i : Fin 16} (hi : i ≠ 6) :
    (s.clear k subject).counters[i] = s.counters[i] := (tells_pump _).counter i hi

theorem clear_of_unlinked {s : State} (h : s.onLink = false) (k : FaultKind) (subject : Option Nat) :
    s.clear k subject = { s with faults := (s.clear k subject).faults } := by
  unfold State.clear
  rw [pump_faults_of_unlinked h]

end Sys2Proof.Proofs.Reports
end

section
/-! Start-up (R180 to R182): the reads of the images, the entry to JOINING and the entry to RUN. -/

namespace Sys2Proof.Proofs.Starting

open Sys2Proof.Machine
open Sys2Proof.Proofs.LiveClose Sys2Proof.Proofs.Faults Sys2Proof.Proofs.Upkeep Sys2Proof.Proofs.Uphold Sys2Proof.Proofs.CallRules
open Sys2Proof.Proofs.Commands Sys2Proof.Proofs.Steps Sys2Proof.Proofs.Whole Sys2Proof.Proofs.Reports

/-! ### The arbiter and the gates at the end of an event -/

theorem arbitrate_eq (s : State) : s.arbitrate = { s with port := s.arbitrate.port } := by
  unfold State.arbitrate
  split
  · split <;> rfl
  · rfl

theorem settleGate_eq (s : State) (z : ZoneId) : s.settleGate z = { s with levels := (s.settleGate z).levels } := by
  unfold State.settleGate
  dsimp only
  split <;> split <;> rfl

theorem settleGates_eq (s : State) : s.settleGates = { s with levels := s.settleGates.levels } :=
  List.foldlRecOn (motive := fun t : State => t = { s with levels := t.levels }) allZones State.settleGate rfl fun t h z _ => by
    rw [settleGate_eq t z, h]

/-- A walk over an empty queue only notes its time, grants the port and settles the gates (R96). -/
theorem walk_of_empty {s : State} (h : s.queue.entries = []) :
    s.walk = ({ s with queue := { s.queue with walkedAt := s.now } } : State).arbitrate.settleGates := by
  unfold State.walk State.walkN
  rw [h]
  rfl

theorem walk_of_empty_eq {s : State} (h : s.queue.entries = []) :
    s.walk = { s with queue := { s.queue with walkedAt := s.now }, port := s.walk.port, levels := s.walk.levels } := by
  rw [walk_of_empty h]
  conv_lhs => rw [settleGates_eq, arbitrate_eq]
  conv_rhs => rw [settleGates_eq, arbitrate_eq]

theorem faults_walk_of_empty {s : State} (h : s.queue.entries = []) : s.walk.faults = s.faults := by rw [walk_of_empty_eq h]

theorem link_walk_of_empty {s : State} (h : s.queue.entries = []) : s.walk.link = s.link := by rw [walk_of_empty_eq h]

theorem level_arbitrate (s : State) (z : ZoneId) : s.arbitrate.level z = s.level z := by rw [arbitrate_eq]; rfl

theorem ambient_walk_of_empty {s : State} (h : s.queue.entries = []) (z : ZoneId) : (s.walk.level z).ambient = (s.level z).ambient := by
  rw [walk_of_empty h, (Ambient.keepsAverages_settleGates _).ambient, level_arbitrate]
  rfl

/-! ### The configuration image (R181) -/

theorem level_loadAmbients (s : State) (z : ZoneId) :
    s.loadAmbients.level z = { s.level z with ambient := (s.cfg.zones[z]).defaultAmbient, lastUpdate := s.now } := eight_get _ z

theorem level_applyConfig (s : State) (c : NodeConfig) (z : ZoneId) :
    (s.applyConfig c).level z = { s.level z with ambient := (c.zones[z]).defaultAmbient, lastUpdate := s.now } := eight_get _ z

theorem configRead_of_invalid {s : State} {image : List Byte} (h : s.inStep .readConfig = true) (hread : readImage image = none) :
    s.configRead image = s.enterLimited := by
  simp only [State.configRead, h, if_true, hread]

theorem configRead_of_valid {s : State} {image : List Byte} {c : NodeConfig} {wasClamped : Bool} (h : s.inStep .readConfig = true)
    (hread : readImage image = some (c, wasClamped)) :
    s.configRead image = if wasClamped then (s.applyConfig c).raise .configClamped none else s.applyConfig c := by
  simp only [State.configRead, h, if_true, hread]

/-- Settles O11: in START nothing is offered on the link, so a raise writes the table and the counters alone. -/
theorem configurationImageRead : Obligations.ConfigurationImageRead := by
  refine ⟨fun image s hawake horder hin hread => ⟨s.enterLimited, ?_, rfl, ?_, ?_, ?_, ?_⟩,
    fun image s c wasClamped hawake hin hread => ?_⟩
  · calc exec (.configImageRead image) s = .next (s.configRead image) := run_awake hawake _
      _ = .next s.enterLimited := by rw [configRead_of_invalid hin hread]
  · exact (horder.unread (inStep_iff.mp hin).1).mpr (inStep_iff.mp hin).2
  · have hport := handedOver_inStart hin (by simp) horder
    exact Bool.not_eq_true _ ▸ hport
  · have hnone : s.startup.config = none := (horder.unread (inStep_iff.mp hin).1).mpr (inStep_iff.mp hin).2
    simp [State.enterLimited, State.beginSampling, State.cfg, State.now, hnone, noConfig]
  · rfl
  · have hexec : exec (.configImageRead image) s = .next (s.configRead image) := run_awake hawake _
    rw [configRead_of_valid hin hread] at hexec
    have hoff : (s.applyConfig c).onLink = false := onLink_of_start (inStep_iff.mp hin).1
    have hraised := raise_of_unlinked hoff .configClamped none
    cases wasClamped with
    | false =>
      exact ⟨_, hexec, rfl, fun z => ⟨zone_applyConfig s c z, level_applyConfig s c z⟩, fun _ => ⟨rfl, rfl⟩, (nomatch ·), rfl⟩
    | true =>
      refine ⟨_, hexec, ?_, fun z => ⟨?_, ?_⟩, (nomatch ·), fun _ => ⟨?_, ?_⟩, ?_⟩
      · rw [if_pos rfl, hraised]
        rfl
      · rw [if_pos rfl, hraised]
        exact zone_applyConfig s c z
      · rw [if_pos rfl, hraised]
        exact level_applyConfig s c z
      · exact raised_from (u := s.applyConfig c) .configClamped none (fun _ => rfl) rfl
      · rw [if_pos rfl]
        refine (find_raise (s.applyConfig c) .configClamped none).imp_right fun h => ?_
        rw [h]
        exact ⟨rfl, rfl⟩
      · rw [if_pos rfl, hraised]
        rfl

/-! ### The phrase image (R75, R182) -/

theorem headerRead_of_inStep {s : State} (h : s.inStep .readHeader = true) (header store : List Byte) :
    s.headerRead header store = if headerValid header store then
      ({ s with startup := { s.startup with step := .readTemplates } } : State).clear .phraseStoreInvalid none
    else (s.raise .phraseStoreInvalid none).handOver := by
  simp only [State.headerRead, h, if_true]

theorem templatesRead_of_inStep {s : State} (h : s.inStep .readTemplates = true) (store : List Byte) :
    s.templatesRead store = ({ s with store := { valid := true, templates := readTemplates store } } : State).handOver := by
  simp only [State.templatesRead, h, if_true]

theorem template_readTemplates (store : List Byte) (k : Nat) :
    ({ valid := true, templates := readTemplates store } : TemplateStore).template k = if k ≤ 63 then readTemplate store k else none := by
  unfold TemplateStore.template
  by_cases hk : k ≤ 63
  · rw [if_pos ⟨rfl, hk⟩, if_pos hk]
    simp [readTemplates, List.getD_eq_getElem?_getD, List.getElem?_range (Nat.lt_succ_of_le hk)]
  · rw [if_neg fun h => hk h.2, if_neg hk]

/-- Settles O13: in START nothing is offered on the link, so the clear and the raise write the table and the counters alone. -/
theorem phraseImageRead : Obligations.PhraseImageRead := by
  refine ⟨fun header store s hawake hin => ?_, fun store s hawake hin => ?_⟩
  · have hexec : exec (.phraseHeaderRead header store) s = .next (s.headerRead header store) := run_awake hawake _
    rw [headerRead_of_inStep hin] at hexec
    obtain ⟨hphase, -⟩ := inStep_iff.mp hin
    have hoff := onLink_of_start hphase
    cases hvalid : headerValid header store with
    | true =>
      rw [hvalid, if_pos rfl] at hexec
      have hclear := clear_of_unlinked (s := { s with startup := { s.startup with step := .readTemplates } }) (onLink_of_start hphase)
        .phraseStoreInvalid none
      refine ⟨_, hexec, ?_, fun _ => ⟨?_, ?_, ?_, hasActive_clear_self _ _ _⟩, (nomatch ·), ?_⟩
      · rw [hclear]
      · rw [hclear, inStep_iff]
        exact ⟨hphase, rfl⟩
      · rw [hclear]
      · exact cleared_congr (cleared_clear { s with startup := { s.startup with step := .readTemplates } } .phraseStoreInvalid none)
          (fun _ => rfl) (fun _ => rfl) rfl rfl
      · rw [hclear]
    | false =>
      rw [hvalid, if_neg (by simp)] at hexec
      have hraise := raise_of_unlinked hoff .phraseStoreInvalid none
      refine ⟨_, hexec, ?_, (nomatch ·), fun _ => ⟨?_, rfl, ?_, ?_⟩, ?_⟩
      · rw [hraise]
        rfl
      · rw [hraise, inStep_iff]
        exact ⟨hphase, rfl⟩
      · exact raised_congr (raised_raise s .phraseStoreInvalid none) (fun _ => rfl) (fun _ => rfl) rfl rfl rfl rfl
      · refine (hasActive_raise (s := s) (k := .phraseStoreInvalid) rfl none).imp_right fun h => ?_
        rw [h]
        exact ⟨rfl, rfl⟩
      · rw [hraise]
        rfl
  · have hexec : exec (.templateStoreRead store) s = .next (s.templatesRead store) := run_awake hawake _
    rw [templatesRead_of_inStep hin] at hexec
    refine ⟨_, hexec, rfl, fun k hk => ?_, fun k hk => ?_, ?_, rfl, rfl⟩
    · exact (template_readTemplates store k).trans (if_pos hk)
    · exact (template_readTemplates store k).trans (if_neg (not_le.mpr hk))
    · rw [inStep_iff]
      exact ⟨(inStep_iff.mp hin).1, rfl⟩

/-! ### JOINING and RUN (R124, R180) -/

/-- The conditions that the entry to JOINING clears for every zone (R141, R166). -/
def staleKinds : List FaultKind := [.sensorHigh, .sensorSilent, .lineShort, .lineOpen, .lineUntested]

theorem inactive_clearStale {s : State} {k : FaultKind} {subject : Option Nat} (h : s.faults.hasActive k subject = false) (z : ZoneId) :
    (s.clearStale z).faults.hasActive k subject = false := by
  unfold State.clearStale
  repeat apply hasActive_clear_of_inactive
  exact h

theorem inactive_clearStale_self (s : State) (z : ZoneId) {k : FaultKind} (hk : k ∈ staleKinds) :
    (s.clearStale z).faults.hasActive k (some z.val) = false := by
  have hlater {t : State} {k' k : FaultKind} {subject : Option Nat} (h : t.faults.hasActive k subject = false) :
      (t.clear k' (some z.val)).faults.hasActive k subject = false := hasActive_clear_of_inactive h _ _
  have hself (t : State) (k : FaultKind) : (t.clear k (some z.val)).faults.hasActive k (some z.val) = false := hasActive_clear_self t k _
  unfold State.clearStale
  simp only [staleKinds, List.mem_cons, List.not_mem_nil, or_false] at hk
  obtain rfl | rfl | rfl | rfl | rfl := hk
  · exact hlater (hlater (hlater (hlater (hself _ _))))
  · exact hlater (hlater (hlater (hself _ _)))
  · exact hlater (hlater (hself _ _))
  · exact hlater (hself _ _)
  · exact hself _ _

theorem inactive_foldl_clearStale {l : List ZoneId} {z : ZoneId} {k : FaultKind} (hk : k ∈ staleKinds) (s : State)
    (h : z ∈ l ∨ s.faults.hasActive k (some z.val) = false) : (l.foldl State.clearStale s).faults.hasActive k (some z.val) = false := by
  induction l generalizing s with
  | nil => exact h.resolve_left (List.not_mem_nil)
  | cons y rest ih =>
    refine ih _ ?_
    by_cases hy : z = y
    · subst hy
      exact .inr (inactive_clearStale_self s z hk)
    · exact h.imp (fun h => (List.mem_cons.mp h).resolve_left hy) fun h => inactive_clearStale h y

theorem sends_clearStale (s : State) (z : ZoneId) : Sends s (s.clearStale z) :=
  ((((sends_clear s _ _).trans (sends_clear _ _ _)).trans (sends_clear _ _ _)).trans (sends_clear _ _ _)).trans (sends_clear _ _ _)

/-- The state as the stale conditions have been cleared and the reports offered. -/
def staleCleared (s : State) : State := (allZones.foldl State.clearStale s).pump

theorem sends_staleCleared (s : State) : Sends s (staleCleared s) :=
  Sends.trans (List.foldlRecOn (motive := fun t => Sends s t) allZones State.clearStale (Sends.refl s)
    fun t h z _ => h.trans (sends_clearStale t z)) (tells_pump _).sends

theorem enterJoining_of_ready {s : State} (hin : s.inStep .waitLine = true) (hline : s.link.monitor ≠ .unknown) :
    s.enterJoining = (staleCleared s.startJoining).walk := by
  unfold State.enterJoining
  rw [if_pos ⟨hin, hline⟩]
  rfl

theorem enterJoining_of_unknown {s : State} (h : s.link.monitor = .unknown) : s.enterJoining = s := by
  unfold State.enterJoining
  rw [if_neg fun hc => hc.2 h]

/-- The state of the entry to RUN with its NODE_STATUS offered (R124, R179). -/
def statusSent (s : State) : State := s.startRun.sendStatus 0 true

theorem keeps_statusSent (s : State) : Keeps s.startRun (statusSent s) := (calm_sendStatus _ 0 true).keeps

theorem testBit_statusPayload (s : State) : (u8 (s.statusPayload true) 0).testBit 6 = true := by
  have hbyte (n : Nat) (l : List Byte) : u8 (byte n :: l) 0 = n % 256 := by simp [u8, byte]
  unfold State.statusPayload
  rw [List.cons_append, List.cons_append, List.cons_append, List.cons_append, hbyte]
  cases decide (s.startup.phase = .run) <;> cases s.clock.timeState <;> cases s.evac.active <;> cases s.evac.input <;>
    cases s.evac.link <;> cases s.battery <;> decide

/-- With room for it the NODE_STATUS is in the transmit queue (R11, R179). -/
theorem mem_sendStatus {s : State} (hon : s.onLink = true) (hroom : s.link.queue.length < 7) (dest : Nat) (joining : Bool) :
    { plainFrame dest .nodeStatus (s.statusPayload joining) 3 with seq := s.link.seqCounter } ∈ (s.sendStatus dest joining).link.queue := by
  unfold State.sendStatus
  rw [if_pos hon, State.offer, txOffer_of_plain hon (by simp [plainFrame]) (by simp [plainFrame]) (by simp [plainFrame]),
    txInsert_of_room (by omega)]
  refine mem_pump ?_ (mem_insertFrame.mpr (.inl rfl))
  change (insertFrame _ _).length < 8
  rw [insertFrame_length]
  omega

theorem joined_of_joining {s : State} {d : Nat} (hphase : s.startup.phase = .joining) (htimer : s.claims.joinTimer = some d) :
    s.joined = (statusSent (s.advanceTo d)).walk := by
  simp only [State.joined, htimer, hphase, if_true]
  rfl

/-- Settles O14: what the clears, the reports and the walk that follow the entry leave alone. -/
theorem joiningEntered : Obligations.JoiningEntered := by
  refine ⟨fun s hawake hin hline => ?_, fun s hunknown => ?_, fun s d hawake hphase htimer => ?_⟩
  · have hexec : exec .enterJoining s = .next s.enterJoining := run_awake hawake _
    rw [enterJoining_of_ready hin hline] at hexec
    have hsends := sends_staleCleared s.startJoining
    have hwalk := keeps_walk (staleCleared s.startJoining)
    refine ⟨_, hexec, ?_, ?_, ?_, ?_, fun hempty z => ⟨?_, fun k hk => ?_⟩, ?_, ?_, ?_, ?_, ?_⟩
    · rw [hwalk.startup, hsends.startup]
      rfl
    · rw [hwalk.budget, hsends.budget]
      rfl
    · rw [hwalk.joinTimer, hsends.claims]
      rfl
    · rw [hwalk.sampleAt, hsends.sup]
      rfl
    · have hentries : (staleCleared s.startJoining).queue.entries = [] := by rw [hsends.queue]; exact hempty
      have hlevel : (staleCleared s.startJoining).level z = s.startJoining.level z := by
        unfold State.level
        rw [hsends.levels]
      rw [ambient_walk_of_empty hentries, hlevel]
      exact congrArg Level.ambient (eight_get _ z)
    · have hentries : (staleCleared s.startJoining).queue.entries = [] := by rw [hsends.queue]; exact hempty
      rw [faults_walk_of_empty hentries, staleCleared, hasActive_congr_record (tells_pump _).record]
      exact inactive_foldl_clearStale hk _ (.inl (mem_allZones z))
    · rw [hwalk.clock, hsends.clock]
      rfl
    · rw [hwalk.calls, hsends.calls]
      rfl
    · rw [hwalk.store, hsends.store]
      rfl
    · rw [hwalk.evac, hsends.evac]
      rfl
    · rw [hwalk.monitor, hsends.monitor]
      rfl
  · calc exec .enterJoining s = .next (if s.startup.resetHeld then s else s.enterJoining) := rfl
      _ = .next s := by rw [enterJoining_of_unknown hunknown, ite_self]
  · have hexec : exec .joinTimerExpiry s = .next s.joined := run_awake hawake _
    rw [joined_of_joining hphase htimer] at hexec
    have hkeeps := (keeps_statusSent (s.advanceTo d)).trans (keeps_walk _)
    refine ⟨_, hexec, hkeeps.startup, hkeeps.joinTimer, hkeeps.clock, hkeeps.roundAt, hkeeps.calls, hkeeps.store, hkeeps.evac,
      hkeeps.occupancy, hkeeps.contacts, hkeeps.budget, hkeeps.monitor, fun hempty hroom => ?_⟩
    have hsends : Sends (s.advanceTo d).startRun (statusSent (s.advanceTo d)) := by
      unfold statusSent State.sendStatus
      exact Sends.ite (tells_offer _ _).sends (Sends.refl _)
    have hentries : (statusSent (s.advanceTo d)).queue.entries = [] := by rw [hsends.queue]; exact hempty
    rw [link_walk_of_empty hentries]
    exact ⟨_, mem_sendStatus (s := (s.advanceTo d).startRun) rfl hroom 0 true, rfl, rfl, testBit_statusPayload _⟩

end Sys2Proof.Proofs.Starting
end

section
/-! The configuration image as read (R181, R189): every item of an applied configuration is in its range. -/

namespace Sys2Proof.Proofs.Images

open Sys2Proof.Machine
open Sys2Proof.Proofs.Commands

/-! ### The readers of single fields -/

theorem clamped_mem (lo hi n : Nat) (h : lo ≤ hi) : lo ≤ (clamped lo hi n).1 ∧ (clamped lo hi n).1 ≤ hi := by
  unfold clamped clampTo
  dsimp only
  omega

theorem oneOf_mem {l : List Nat} {d : Nat} (h : d ∈ l) (n : Nat) : (oneOf l d n).1 ∈ l := by
  unfold oneOf
  split
  next hn => simpa using hn
  · exact h

theorem u8_le (b : List Byte) (i : Nat) : u8 b i ≤ 255 := Nat.le_of_lt_succ (b.getD i 0xFF#8).isLt

theorem bytesFrom_le {b : List Byte} {i n g : Nat} (h : g ∈ bytesFrom b i n) : g ≤ 255 := by
  obtain ⟨j, -, rfl⟩ := List.mem_map.mp h
  exact u8_le b _

theorem length_bytesFrom (b : List Byte) (i n : Nat) : (bytesFrom b i n).length = n := by simp [bytesFrom]

/-! ### Zones -/

/-- What O12 says of a zone, given the owned platforms. -/
structure ZoneInRange (platforms : Vector Nat 4) (x : ZoneConfig) : Prop where
  count : x.neighbours.length ≤ 4
  neighbours : ∀ g ∈ x.neighbours, 8 ≤ g ∧ g ≤ 255
  slot : ∀ k, x.slot = some k → k ≤ 3 ∧ 1 ≤ platforms.toList.getD k 0
  zone : 200 ≤ x.zoneMin ∧ x.zoneMin ≤ x.zoneMax ∧ x.zoneMax ≤ 480
  full : 240 ≤ x.zoneFull ∧ x.zoneFull ≤ 520
  ambient : 120 ≤ x.defaultAmbient ∧ x.defaultAmbient ≤ 520
  window : x.lo ≤ x.hi ∧ x.hi ≤ 4095

theorem readZone_inRange (b : List Byte) (at' : Nat) (platforms : Vector Nat 4) : ZoneInRange platforms (readZone b at' platforms).1 := by
  have hmin := clamped_mem 200 480 (u16 b (at' + 8)) (by decide)
  have hmax := clamped_mem 200 480 (u16 b (at' + 10)) (by decide)
  have hlo := clamped_mem 0 4095 (u16 b (at' + 17)) (by decide)
  have hhi := clamped_mem 0 4095 (u16 b (at' + 19)) (by decide)
  refine ⟨?_, fun g hg => ?_, fun k hk => ?_, ⟨hmin.1, le_max_right _ _, max_le hmax.2 hmin.2⟩, clamped_mem 240 520 _ (by decide),
    clamped_mem 120 520 _ (by decide), le_max_right _ _, max_le hhi.2 hlo.2⟩
  · refine (List.length_filter_le _ _).trans ?_
    rw [length_bytesFrom]
    exact min_le_right _ _
  · obtain ⟨hmem, hlow⟩ := List.mem_filter.mp hg
    exact ⟨of_decide_eq_true hlow, bytesFrom_le hmem⟩
  · change (if _ then some _ else none) = some k at hk
    split at hk
    next hslot =>
      cases hk
      exact ⟨(clamped_mem 0 3 (u8 b (at' + 2)) (by decide)).2, Nat.one_le_iff_ne_zero.mpr hslot.2⟩
    · cases hk

/-! ### Cues (R56) -/

/-- What O12 says of a cue. -/
structure CueInRange (q : Cue) : Prop where
  cls : q.cls ∈ [1, 3, 4]
  validity : 1 ≤ q.validity ∧ q.validity ≤ 30
  template : q.template ≤ 255
  repeats : ∀ p, q.repeatEvery = some p → 1 ≤ p ∧ p ≤ 30
  before : ∀ o, q.trigger = .beforeTime o → o ≤ 120
  after : ∀ e o, q.trigger = .afterEvent e o → o ≤ 120
  window : CallState.moving ∉ q.window ∧ CallState.moved ∉ q.window ∧ CallState.moveFailed ∉ q.window

theorem readTrigger_before {t e o n : Nat} (h : (readTrigger t e o).1 = .beforeTime n) : n ≤ 120 := by
  have hoff := (clamped_mem 0 120 o (by decide)).2
  unfold readTrigger at h
  dsimp only at h
  split at h <;> cases h <;> exact hoff

theorem readTrigger_after {t e o n : Nat} {ev : TrainEvent} (h : (readTrigger t e o).1 = .afterEvent ev n) : n ≤ 120 := by
  have hoff := (clamped_mem 0 120 o (by decide)).2
  unfold readTrigger at h
  dsimp only at h
  split at h <;> cases h
  exact hoff

theorem readCue_inRange (b : List Byte) (at' : Nat) (plan : Bool) : CueInRange (readCue b at' plan).1 := by
  have hrepeat := clamped_mem 0 30 (u8 b (at' + 10)) (by decide)
  have hwindow (st : CallState) (hst : st ∉ windowStates) : st ∉ (readCue b at' plan).1.window := by
    intro h
    change st ∈ (if plan then _ else _) at h
    split at h
    · exact hst (List.mem_of_mem_filter h)
    · cases h
  refine ⟨oneOf_mem (by decide) _, clamped_mem 1 30 _ (by decide), u8_le b _, fun p hp => ?_, fun o ho => ?_, fun e o ho => ?_,
    hwindow _ (by decide), hwindow _ (by decide), hwindow _ (by decide)⟩
  · change (if _ then none else some _) = some p at hp
    split at hp
    · cases hp
    next hzero =>
      cases hp
      exact ⟨Nat.one_le_iff_ne_zero.mpr hzero, hrepeat.2⟩
  · change (if plan then _ else _) = Trigger.beforeTime o at ho
    split at ho
    · exact readTrigger_before ho
    · cases ho
      exact Nat.zero_le _
  · change (if plan then _ else _) = Trigger.afterEvent e o at ho
    split at ho
    · exact readTrigger_after ho
    · cases ho

theorem readPlan_get (b : List Byte) (at' : Nat) (n : Fin 7) :
    (readPlan b at').1[n] = (readCue b (at' + 12 * n.val) (decide (n.val < 4))).1 := by
  fin_cases n <;> rfl

/-! ### The body -/

theorem mem_of_readImage {image : List Byte} {c : NodeConfig} {wasClamped : Bool} (h : readImage image = some (c, wasClamped)) :
    ∃ b, c = (readBody b).1 ∧ 1 ≤ c.nodeId ∧ c.nodeId ≤ 31 ∧ (∀ p ∈ c.platforms.toList, p ≤ 40) ∧ c.remoteZones.length ≤ 32 := by
  unfold readImage at h
  dsimp only at h
  split at h
  next hcheck =>
    obtain ⟨-, -, -, -, hlow, hhigh, hplatforms, -, hremote⟩ := hcheck
    have hbody := Option.some.inj h
    refine ⟨(image.drop 4).take 417, by rw [hbody], ?_⟩
    rw [hbody] at hlow hhigh hplatforms hremote
    refine ⟨hlow, hhigh, fun p hp => ?_, hremote⟩
    exact of_decide_eq_true (List.all_eq_true.mp hplatforms p hp)
  · cases h

theorem zones_readBody (b : List Byte) (z : ZoneId) : ZoneInRange (readBody b).1.platforms ((readBody b).1.zones[z]) := by
  have hzone : (readBody b).1.zones[z] = (readZone b (37 + 21 * z.val) (readBody b).1.platforms).1 := eight_get _ z
  rw [hzone]
  exact readZone_inRange b _ _

theorem plans_readBody (b : List Byte) (n : Fin 7) :
    CueInRange ((readBody b).1.arrivalPlan[n]) ∧ CueInRange ((readBody b).1.departurePlan[n]) := by
  have harrival : (readBody b).1.arrivalPlan[n] = _ := readPlan_get b 249 n
  have hdeparture : (readBody b).1.departurePlan[n] = _ := readPlan_get b 333 n
  rw [harrival, hdeparture]
  exact ⟨readCue_inRange b _ _, readCue_inRange b _ _⟩

theorem margin_readBody (b : List Byte) : ∀ m ∈ (readBody b).1.margin.toList, m ≤ 80 := by
  have hm (i : Nat) : (clamped 0 80 (u8 b (11 + i))).1 ≤ 80 := (clamped_mem 0 80 _ (by decide)).2
  intro m hmem
  change m ∈ [_, _, _, _] at hmem
  simp only [List.mem_cons, List.not_mem_nil, or_false] at hmem
  obtain rfl | rfl | rfl | rfl := hmem
  · exact hm 0
  · exact hm 1
  · exact hm 2
  · exact hm 3

theorem chimes_readBody (b : List Byte) : ∀ h ∈ (readBody b).1.chimes.toList, h ≤ 4095 := by
  have hc (i : Nat) : (clamped 0 4095 (u16 b (23 + 2 * i))).1 ≤ 4095 := (clamped_mem 0 4095 _ (by decide)).2
  intro h hmem
  change h ∈ [_, _, _, _, _] at hmem
  simp only [List.mem_cons, List.not_mem_nil, or_false] at hmem
  obtain rfl | rfl | rfl | rfl | rfl := hmem
  · exact hc 0
  · exact hc 1
  · exact hc 2
  · exact hc 3
  · exact hc 4

/-- Settles O12: each field is what its reader gives, and each reader stays in its range. -/
theorem appliedConfigurationInRange : Obligations.AppliedConfigurationInRange := by
  intro image c wasClamped h
  obtain ⟨b, rfl, hlow, hhigh, hplatforms, hremote⟩ := mem_of_readImage h
  refine ⟨⟨hlow, hhigh⟩, hplatforms, hremote, (clamped_mem 0 23 _ (by decide)).2, oneOf_mem (by decide) _, oneOf_mem (by decide) _,
    clamped_mem 60 3600 _ (by decide), (clamped_mem 0 15 _ (by decide)).2, clamped_mem 1 60 _ (by decide), clamped_mem 1 30 _ (by decide),
    clamped_mem 1 30 _ (by decide), margin_readBody b, (clamped_mem 0 280 _ (by decide)).2, oneOf_mem (by decide) _,
    clamped_mem 1 60 _ (by decide), clamped_mem 1 255 _ (by decide), (clamped_mem 0 500 _ (by decide)).2, u8_le b 22, chimes_readBody b,
    fun z => ?_, fun n q hq => ?_⟩
  · obtain ⟨hcount, hneighbours, hslot, hzone, hfull, hambient, hwindow⟩ := zones_readBody b z
    exact ⟨hcount, hneighbours, hslot, hzone.1, hzone.2.1, hzone.2.2, hfull.1, hfull.2, hambient.1, hambient.2, hwindow.1, hwindow.2⟩
  · obtain ⟨harrival, hdeparture⟩ := plans_readBody b n
    have hcue : CueInRange q := by
      simp only [List.mem_cons, List.not_mem_nil, or_false] at hq
      obtain rfl | rfl := hq
      · exact harrival
      · exact hdeparture
    exact ⟨hcue.cls, hcue.validity, hcue.template, hcue.repeats, hcue.before, hcue.after, hcue.window⟩

end Sys2Proof.Proofs.Images
end

section
/-! The transmit frame queue (R9 to R15): where a frame joins, what a full queue does, the coalescing of CLAIM, RELEASE and EVAC_START, and
collisions. -/

namespace Sys2Proof.Proofs.Transmit

open Sys2Proof.Machine
open Sys2Proof.Proofs.LiveClose Sys2Proof.Proofs.Faults Sys2Proof.Proofs.Upkeep Sys2Proof.Proofs.Uphold Sys2Proof.Proofs.CallRules
open Sys2Proof.Proofs.Commands Sys2Proof.Proofs.Steps Sys2Proof.Proofs.Whole Sys2Proof.Proofs.Reports

/-! ### Insertion (R11, R12) -/

/-- Where a frame joins: behind the frames of its class or a lower one that stand at the front, before the rest. -/
theorem insertFrame_split (f : TxFrame) (l : List TxFrame) :
    ∃ before after, l = before ++ after ∧ (∀ g ∈ before, g.access ≤ f.access) ∧ (∀ g, after.head? = some g → f.access < g.access)
      ∧ insertFrame f l = before ++ f :: after := by
  induction l with
  | nil => exact ⟨[], [], rfl, fun _ h => (nomatch h), fun _ h => (nomatch h), rfl⟩
  | cons g rest ih =>
    by_cases hle : g.access ≤ f.access
    · obtain ⟨before, after, hsplit, hbefore, hafter, hinsert⟩ := ih
      refine ⟨g :: before, after, by rw [hsplit]; rfl, List.forall_mem_cons.mpr ⟨hle, hbefore⟩, hafter, ?_⟩
      rw [insertFrame, if_pos hle, hinsert]
      rfl
    · refine ⟨[], g :: rest, rfl, fun _ h => (nomatch h), fun x hx => ?_, ?_⟩
      · cases hx
        exact not_le.mp hle
      · rw [insertFrame, if_neg hle]
        rfl

/-- The first element that satisfies a test is the one erased. -/
theorem eraseP_append_cons {α : Type} {p : α → Bool} {before after : List α} {v : α} (hbefore : ∀ x ∈ before, p x = false)
    (hv : p v = true) : (before ++ v :: after).eraseP p = before ++ after := by
  rw [List.eraseP_append_right _ fun x hx => by simp [hbefore x hx], List.eraseP_cons_of_pos hv]

theorem evictable_iff {f : TxFrame} : f.evictable = true ↔ f.access = 3 ∧ f.sending = false := by simp [TxFrame.evictable]

theorem txInsert_of_full {s : State} (hfull : 8 ≤ s.link.queue.length) (f : TxFrame) :
    (s.txInsert f).counters = (s.count .txDropped).counters
      ∧ ((∀ g ∈ s.link.queue, g.evictable = false) → (s.txInsert f).link = s.link)
      ∧ (∀ before after v, s.link.queue = before ++ v :: after → v.evictable = true → (∀ g ∈ before, g.evictable = false) →
        (s.txInsert f).link.queue = insertFrame { f with seq := s.link.seqCounter } (before ++ after)) := by
  unfold State.txInsert
  rw [if_neg (not_lt.mpr hfull)]
  split
  next hany =>
    refine ⟨rfl, fun hnone => ?_, fun before after v hqueue hv hbefore => ?_⟩
    · obtain ⟨g, hg, hev⟩ := List.any_eq_true.mp hany
      rw [hnone g hg] at hev
      cases hev
    · change insertFrame _ (s.link.queue.eraseP TxFrame.evictable) = _
      rw [hqueue, eraseP_append_cons hbefore hv]
  next hany =>
    refine ⟨rfl, fun _ => rfl, fun before after v hqueue hv _ => ?_⟩
    refine absurd (List.any_eq_true.mpr ⟨v, ?_, hv⟩) hany
    rw [hqueue]
    exact List.mem_append_right _ (List.mem_cons_self ..)

/-- A frame stays in the queue at an insertion unless it may be evicted. -/
theorem mem_txInsert {s : State} {f g : TxFrame} (hg : g ∈ s.link.queue) (hkeep : g.evictable = false) : g ∈ (s.txInsert f).link.queue := by
  unfold State.txInsert
  split
  · exact mem_insertFrame.mpr (.inr hg)
  · split
    · refine mem_insertFrame.mpr (.inr ?_)
      exact (List.mem_eraseP_of_neg (by simp [hkeep])).mpr hg
    · exact hg

theorem txOffer_report {s : State} (i : Fin 16) (hon : s.onLink = true) : s.report i = (unmarked s i).txInsert (reportFrame s i) := by
  rw [report_eq, txOffer_of_plain (s := unmarked s i) hon (by simp [reportFrame, plainFrame]) (by simp [reportFrame, plainFrame])
    (by simp [reportFrame, plainFrame])]

/-- A property of the transmit queue that an insertion of a report keeps, the pump keeps. -/
theorem pump_queue_induction {P : List TxFrame → Prop} (hP : ∀ (s : State) (i : Fin 16), s.onLink = true → P s.link.queue →
    P (s.report i).link.queue) (s : State) (h : P s.link.queue) : P s.pump.link.queue := by
  unfold State.pump
  generalize 16 = n
  induction n generalizing s with
  | zero => exact h
  | succ n ih =>
    unfold pumpN
    split
    next hcond =>
      have hon : s.onLink = true := by
        simp only [Bool.and_eq_true] at hcond
        exact hcond.1
      split
      · exact ih _ (hP s _ hon h)
      · exact h
    · exact h

theorem mem_pump_of_kept {s : State} {g : TxFrame} (hg : g ∈ s.link.queue) (hkeep : g.evictable = false) : g ∈ s.pump.link.queue := by
  refine pump_queue_induction (P := fun q => g ∈ q) (fun s i hon h => ?_) s hg
  rw [txOffer_report i hon]
  exact mem_txInsert (s := unmarked s i) h hkeep

/-! ### The frame on the line -/

theorem sendingFrame_eq_none_iff {s : State} : s.sendingFrame = none ↔ ∀ g ∈ s.link.queue, g.sending = false := by
  simp [State.sendingFrame]

theorem sending_txInsert {s : State} {f : TxFrame} (hf : f.sending = false) (h : ∀ g ∈ s.link.queue, g.sending = false) :
    ∀ g ∈ (s.txInsert f).link.queue, g.sending = false := by
  have hjoin (l : List TxFrame) (n : Nat) (hl : ∀ g ∈ l, g.sending = false) : ∀ g ∈ insertFrame { f with seq := n } l, g.sending = false := by
    intro g hg
    obtain rfl | hg := mem_insertFrame.mp hg
    · exact hf
    · exact hl g hg
  unfold State.txInsert
  split
  · exact hjoin _ _ h
  · split
    · exact hjoin _ _ fun g hg => h g (List.mem_of_mem_eraseP hg)
    · exact h

theorem sendingFrame_pump {s : State} (h : s.sendingFrame = none) : s.pump.sendingFrame = none := by
  rw [sendingFrame_eq_none_iff] at h ⊢
  refine pump_queue_induction (P := fun q => ∀ g ∈ q, g.sending = false) (fun s i hon h => ?_) s h
  rw [txOffer_report i hon]
  exact sending_txInsert (s := unmarked s i) rfl h

/-- With at most one frame on the line, taking it out leaves the frames that wait. -/
theorem eraseP_sending {q : List TxFrame} (h : (q.filter TxFrame.sending).length ≤ 1) :
    (q.eraseP fun f => f.sending) = q.filter fun f => !f.sending := by
  induction q with
  | nil => rfl
  | cons f rest ih =>
    by_cases hf : f.sending = true
    · rw [List.filter_cons_of_pos hf, List.length_cons] at h
      have hnone : rest.filter TxFrame.sending = [] := List.length_eq_zero_iff.mp (by omega)
      rw [List.eraseP_cons_of_pos hf, List.filter_cons_of_neg (by simp [hf])]
      refine (List.filter_eq_self.mpr fun g hg => ?_).symm
      simpa using List.filter_eq_nil_iff.mp hnone g hg
    · rw [List.filter_cons_of_neg hf] at h
      rw [List.eraseP_cons_of_neg hf, List.filter_cons_of_pos (by simpa using hf), ih h]

theorem sending_eraseP {q : List TxFrame} (h : (q.filter TxFrame.sending).length ≤ 1) :
    ∀ g ∈ q.eraseP fun f => f.sending, g.sending = false := by
  intro g hg
  rw [eraseP_sending h] at hg
  simpa using (List.mem_filter.mp hg).2

/-! ### Collisions (R9, R10, R13, R14) -/

/-- The state as a collision has stopped the transmission and counted it (R9). -/
def collided (s : State) (g : TxFrame) : State :=
  ({ s with link := { s.link with queue := collideQueue s.link.queue g, discarding := true, echoed := 0, echoAge := 0 } } : State).count
    .txCollisions

theorem collide_of_sending {s : State} {g : TxFrame} (h : s.sendingFrame = some g) :
    s.collide = if !g.released && decide (8 ≤ g.retry) then ((collided s g).count .txDropped).pump else (collided s g).pump := by
  simp only [State.collide, h]
  rfl

theorem collide_of_none {s : State} (h : s.sendingFrame = none) : s.collide = s := by
  simp only [State.collide, h]

theorem sending_collideQueue {q : List TxFrame} (h : (q.filter TxFrame.sending).length ≤ 1) (g : TxFrame) :
    ∀ f ∈ collideQueue q g, f.sending = false := by
  have herase := sending_eraseP h
  unfold collideQueue
  dsimp only
  split
  · split
    · exact fun f hf => herase f (List.mem_of_mem_eraseP hf)
    · exact herase
  · split
    · intro f hf
      obtain ⟨x, -, rfl⟩ := List.mem_map.mp hf
      split
      · rfl
      next hx => simpa using hx
    · exact herase

/-- What a collision leaves alone, but the counters 5 and 6. -/
structure Stopped (s t : State) : Prop where
  frame : t = { s with
    link := { s.link with
      queue := t.link.queue, seqCounter := t.link.seqCounter, discarding := t.link.discarding, echoed := t.link.echoed,
      echoAge := t.link.echoAge }, faults := t.faults, counters := t.counters }
  counter : ∀ i : Fin 16, i ≠ 5 → i ≠ 6 → t.counters[i] = s.counters[i]
  record : ∀ i : Fin 16, (t.faults.slots[i]).record = (s.faults.slots[i]).record

theorem stopped_collided (s : State) (g : TxFrame) : Stopped s (collided s g) :=
  ⟨rfl, fun i hi _ => count_other _ .txCollisions i (Ne.symm hi), fun _ => rfl⟩

theorem Stopped.tells {s t u : State} (h : Stopped s t) (k : Tells t u) : Stopped s u where
  frame := by
    have hframe := h.frame
    have hsends := k.sends
    unfold Sends at hsends
    rw [hsends, hframe]
  counter i h5 h6 := (k.counter i h6).trans (h.counter i h5 h6)
  record i := (k.record i).trans (h.record i)

theorem stopped_collide (s : State) : Stopped s s.collide := by
  obtain hnone | ⟨g, hg⟩ := Option.eq_none_or_eq_some s.sendingFrame
  · rw [collide_of_none hnone]
    exact ⟨rfl, fun _ _ _ => rfl, fun _ => rfl⟩
  · rw [collide_of_sending hg]
    split
    · exact ((stopped_collided s g).tells (tells_dropped _)).tells (tells_pump _)
    · exact (stopped_collided s g).tells (tells_pump _)

theorem sendingFrame_collide {s : State} (h : s.TxQueueLegal) : s.collide.sendingFrame = none := by
  obtain hnone | ⟨g, hg⟩ := Option.eq_none_or_eq_some s.sendingFrame
  · rw [collide_of_none hnone]
    exact hnone
  · have hnone : (collided s g).sendingFrame = none := sendingFrame_eq_none_iff.mpr (sending_collideQueue h.oneSending g)
    rw [collide_of_sending hg]
    split
    · exact sendingFrame_pump hnone
    · exact sendingFrame_pump hnone

theorem discarding_collide {s : State} {g : TxFrame} (h : s.sendingFrame = some g) : s.collide.link.discarding = true := by
  have hpump (t : State) : t.pump.link.discarding = t.link.discarding := by rw [(tells_pump t).sends]
  rw [collide_of_sending h]
  split
  · rw [hpump]
    rfl
  · rw [hpump]
    rfl

theorem count_collisions (s : State) {g : TxFrame} (h : s.sendingFrame = some g) :
    s.collide.counters[(5 : Fin 16)] = min (s.counters[(5 : Fin 16)] + 1) 65535 := by
  have hcount : (collided s g).counters[(5 : Fin 16)] = min (s.counters[(5 : Fin 16)] + 1) 65535 := count_counter _ .txCollisions
  rw [collide_of_sending h]
  split
  · rw [(tells_pump _).counter 5 (by decide), count_other _ .txDropped 5 (by decide), hcount]
  · rw [(tells_pump _).counter 5 (by decide), hcount]

/-- Below retry count 8 the frame waits again with its successor's content (R9, R13). -/
theorem mem_collide_of_retry {s : State} {g : TxFrame} (h : s.sendingFrame = some g)
    (hreleased : g.released = false) (hretry : g.retry < 8) (hroom : s.link.queue.length < 8 ∨ s.faults.firstMarked = none) :
    g.collided ∈ s.collide.link.queue := by
  have hqueue : (collided s g).link.queue = s.link.queue.map fun f => if f.sending then f.collided else f := by
    change collideQueue s.link.queue g = _
    simp [collideQueue, hreleased, hretry]
  obtain ⟨hmem, hsending⟩ := mem_queue_of_sendingFrame h
  have hin : g.collided ∈ (collided s g).link.queue := by
    rw [hqueue]
    exact List.mem_map.mpr ⟨g, hmem, by rw [if_pos hsending]⟩
  rw [collide_of_sending h, if_neg (by simp [hretry])]
  obtain hroom | hmark := hroom
  · refine mem_pump ?_ hin
    rw [hqueue, List.length_map]
    exact hroom
  · rw [pump_of_unmarked (s := collided s g) hmark]
    exact hin

/-- At retry count 8 the frame is dropped (R10). -/
theorem collide_of_last_retry {s : State} {g : TxFrame} (h : s.sendingFrame = some g) (hlegal : s.TxQueueLegal)
    (hreleased : g.released = false) (hretry : 8 ≤ g.retry) (hmark : s.faults.firstMarked = none) :
    s.collide.link.queue = s.link.queue.filter (fun f => !f.sending)
      ∧ s.collide.counters[(6 : Fin 16)] = min (s.counters[(6 : Fin 16)] + 1) 65535 := by
  rw [collide_of_sending h, if_pos (by simp [hreleased, hretry]), pump_of_unmarked (s := (collided s g).count .txDropped) hmark]
  refine ⟨?_, ?_⟩
  · change collideQueue s.link.queue g = _
    rw [← eraseP_sending hlegal.oneSending]
    simp [collideQueue, hreleased, not_lt.mpr hretry]
  · exact (count_counter (collided s g) .txDropped).trans (congrArg satInc (count_other _ .txCollisions 6 (by decide)))

/-- The one element of a duplicate-free list that a test accepts is what `eraseP` takes out. -/
theorem eraseP_eq_filter {α : Type} [DecidableEq α] {p : α → Bool} {r : α} {l : List α} (hpair : l.Pairwise (· ≠ ·)) (hr : p r = true)
    (honly : ∀ x ∈ l, p x = true → x = r) : l.eraseP p = l.filter fun x => !decide (x = r) := by
  induction l with
  | nil => rfl
  | cons a rest ih =>
    obtain ⟨hne, hrest⟩ := List.pairwise_cons.mp hpair
    by_cases ha : p a = true
    · obtain rfl := honly a (List.mem_cons_self ..) ha
      rw [List.eraseP_cons_of_pos ha, List.filter_cons_of_neg (by simp)]
      exact (List.filter_eq_self.mpr fun x hx => by simpa using (hne x hx).symm).symm
    · have hane : a ≠ r := by
        rintro rfl
        exact ha hr
      rw [List.eraseP_cons_of_neg ha, List.filter_cons_of_pos (by simpa using hane),
        ih hrest fun x hx => honly x (List.mem_cons_of_mem _ hx)]

/-- A collision of a CLAIM that was released takes it out, with the RELEASE if it bore the first mark (R14). -/
theorem collide_of_released {s : State} {g r : TxFrame} (h : s.sendingFrame = some g) (hreleased : g.released = true)
    (hmark : s.faults.firstMarked = none) (hone : (s.link.queue.filter TxFrame.sending).length = 1) (hkind : r.kind = .release)
    (htag : r.tag = g.tag) (honly : ∀ f ∈ s.link.queue, f.kind = .release → f.tag = g.tag → f = r)
    (hpair : s.link.queue.Pairwise fun a b => a ≠ b) :
    s.collide.link.queue = s.link.queue.filter (fun f => !f.sending && !(g.firstMark && decide (f = r)))
      ∧ s.collide.counters = (s.count .txCollisions).counters := by
  rw [collide_of_sending h, if_neg (by simp [hreleased]), pump_of_unmarked (s := collided s g) hmark]
  refine ⟨?_, rfl⟩
  change collideQueue s.link.queue g = _
  unfold collideQueue
  dsimp only
  rw [if_pos hreleased, eraseP_sending hone.le]
  cases hfirst : g.firstMark with
  | false => simp
  | true =>
    rw [if_pos rfl, eraseP_eq_filter (r := r) (hpair.filter _) (by simp [hkind, htag])
      fun f hf hp => by
        simp only [Bool.and_eq_true, decide_eq_true_eq] at hp
        exact honly f (List.mem_of_mem_filter hf) hp.1 hp.2, List.filter_filter]
    exact List.filter_congr fun f _ => by simp [Bool.and_comm]

/-! ### Coalescing (R13 to R15) -/

theorem isClaimOf_iff {g : TxFrame} {tag : Option Nat} : g.isClaimOf tag = true ↔ g.kind = .claim ∧ g.tag = tag := by
  simp [TxFrame.isClaimOf]

theorem not_isClaimOf {g : TxFrame} {tag : Option Nat} (h : g.kind = .claim → g.tag ≠ tag) : g.isClaimOf tag = false := by
  rw [Bool.eq_false_iff]
  intro hc
  obtain ⟨hkind, htag⟩ := isClaimOf_iff.mp hc
  exact h hkind htag

theorem map_append_cons {α : Type} {f : α → α} {before after : List α} {g : α} (h : ∀ x ∈ before ++ after, f x = x) :
    (before ++ g :: after).map f = before ++ f g :: after := by
  rw [List.map_append, List.map_cons, List.map_congr_left fun x hx => h x (List.mem_append_left _ hx),
    List.map_congr_left (l := after) fun x hx => h x (List.mem_append_right _ hx), List.map_id', List.map_id']

section
variable {s : State} {f g : TxFrame} {before after : List TxFrame} (hqueue : s.link.queue = before ++ g :: after)
include hqueue

theorem txClaim_of_waiting (hothers : ∀ h ∈ before ++ after, h.isClaimOf f.tag = false) (hg : g.isClaimOf f.tag = true) :
    s.txClaim f = { s with link := { s.link with queue := before
      ++ (if g.sending then { g with successor := some f.payload } else { g with payload := f.payload }) :: after } } := by
  have hany : (s.link.queue.any fun g => g.isClaimOf f.tag) = true := by
    rw [hqueue]
    exact List.any_eq_true.mpr ⟨g, List.mem_append_right _ (List.mem_cons_self ..), hg⟩
  unfold State.txClaim State.mapQueue
  rw [if_pos hany, hqueue, map_append_cons fun x hx => by rw [hothers x hx]; rfl, if_pos hg]

theorem find_claim (hothers : ∀ h ∈ before ++ after, h.isClaimOf f.tag = false) (hg : g.isClaimOf f.tag = true) :
    (s.link.queue.find? fun h => h.isClaimOf f.tag) = some g := by
  have hbefore : (before.find? fun h => h.isClaimOf f.tag) = none :=
    List.find?_eq_none.mpr fun x hx => by simp [hothers x (List.mem_append_left _ hx)]
  have hhead : ((g :: after).find? fun h => h.isClaimOf f.tag) = some g := List.find?_cons_of_pos hg
  rw [hqueue, List.find?_append, hbefore, hhead]
  rfl

theorem txRelease_of_waiting (hothers : ∀ h ∈ before ++ after, h.isClaimOf f.tag = false) (hg : g.isClaimOf f.tag = true)
    (hwaits : g.sending = false) : s.txRelease f =
      if g.firstMark then { s with link := { s.link with queue := before ++ after } }
      else ({ s with link := { s.link with queue := before ++ after } } : State).txInsert f := by
  unfold State.txRelease
  simp only [find_claim hqueue hothers hg, hwaits]
  rw [hqueue, eraseP_append_cons (fun x hx => hothers x (List.mem_append_left _ hx)) hg]
  rfl

theorem txRelease_of_sending (hothers : ∀ h ∈ before ++ after, h.isClaimOf f.tag = false) (hg : g.isClaimOf f.tag = true)
    (hsending : g.sending = true) : s.txRelease f =
      ({ s with link := { s.link with queue := before ++ { g with successor := none, released := true } :: after } } : State).txInsert f := by
  unfold State.txRelease State.mapQueue
  simp only [find_claim hqueue hothers hg, hsending, if_true]
  rw [hqueue, map_append_cons fun x hx => by rw [hothers x hx]; rfl, if_pos hg, hsending]

theorem txEvacStart_of_waiting (hothers : ∀ h ∈ before ++ after, h.isPendingEvacStart = false) (hg : g.isPendingEvacStart = true) :
    s.txEvacStart f = { s with link := { s.link with queue := before ++ { g with payload := f.payload } :: after } } := by
  have hany : (s.link.queue.any TxFrame.isPendingEvacStart) = true := by
    rw [hqueue]
    exact List.any_eq_true.mpr ⟨g, List.mem_append_right _ (List.mem_cons_self ..), hg⟩
  unfold State.txEvacStart State.mapQueue
  rw [if_pos hany, hqueue, map_append_cons fun x hx => by rw [hothers x hx]; rfl, if_pos hg]

end

/-- A frame that meets none of its kind to coalesce with is inserted (R11, R13 to R15). -/
theorem txOffer_eq_txInsert {s : State} {f : TxFrame} (hon : s.onLink = true)
    (hclaim : f.kind = .claim → ∀ g ∈ s.link.queue, g.kind = .claim → g.tag ≠ f.tag)
    (hrelease : f.kind = .release → ∀ g ∈ s.link.queue, g.kind = .claim → g.tag ≠ f.tag)
    (hevac : f.kind = .evacStart → ∀ g ∈ s.link.queue, g.kind = .evacStart → g.sending = true) : s.txOffer f = s.txInsert f := by
  have hnone (h : ∀ g ∈ s.link.queue, g.kind = .claim → g.tag ≠ f.tag) : ∀ g ∈ s.link.queue, g.isClaimOf f.tag = false :=
    fun g hg => not_isClaimOf (h g hg)
  unfold State.txOffer
  rw [if_pos hon]
  split
  next hkind =>
    unfold State.txClaim
    rw [if_neg]
    simpa using hnone (hclaim hkind)
  next hkind =>
    unfold State.txRelease
    have hfind : (s.link.queue.find? fun g => g.isClaimOf f.tag) = none :=
      List.find?_eq_none.mpr fun g hg => by simp [hnone (hrelease hkind) g hg]
    simp only [hfind]
  next hkind =>
    unfold State.txEvacStart
    rw [if_neg]
    intro hany
    obtain ⟨g, hg, hp⟩ := List.any_eq_true.mp hany
    simp only [TxFrame.isPendingEvacStart, Bool.and_eq_true, decide_eq_true_eq, Bool.not_eq_true'] at hp
    have hsending := hevac hkind g hg hp.1
    rw [hp.2] at hsending
    cases hsending
  · rfl

theorem txOffer_claim {s : State} {f : TxFrame} (hon : s.onLink = true) (hf : f.kind = .claim) : s.txOffer f = s.txClaim f := by
  unfold State.txOffer
  rw [if_pos hon, hf]

theorem txOffer_release {s : State} {f : TxFrame} (hon : s.onLink = true) (hf : f.kind = .release) : s.txOffer f = s.txRelease f := by
  unfold State.txOffer
  rw [if_pos hon, hf]

theorem txOffer_evacStart {s : State} {f : TxFrame} (hon : s.onLink = true) (hf : f.kind = .evacStart) : s.txOffer f = s.txEvacStart f := by
  unfold State.txOffer
  rw [if_pos hon, hf]

/-- Settles O20: insertion by its two branches, coalescing by the one frame of the queue that it concerns. -/
theorem framesOffered : Obligations.FramesOffered := by
  refine ⟨fun s f h => txOffer_of_unlinked h f, fun s f hon hclaim hrelease hevac => ?_,
    fun s f g before after hon hqueue hothers hkind htag => ?_, fun s f g before after hon hqueue hothers hkind hwaits hf => ?_,
    fun s g r hawake hg hreleased hmark hone hr hkind htag _ honly hpair => ?_⟩
  · rw [txOffer_eq_txInsert hon hclaim hrelease hevac]
    refine ⟨fun hroom => ?_, fun hfull => ?_⟩
    · obtain ⟨before, after, hsplit, hbefore, hafter, hinsert⟩ := insertFrame_split { f with seq := s.link.seqCounter } s.link.queue
      refine ⟨before, after, hsplit, hbefore, hafter, ?_⟩
      rw [txInsert_of_room hroom, Link.join, hinsert]
    · obtain ⟨hcount, hnone, hevict⟩ := txInsert_of_full hfull f
      refine ⟨hcount, fun hsent => hnone fun g hg => ?_, fun before after v hqueue haccess hwaits hbefore => ?_⟩
      · rw [Bool.eq_false_iff]
        intro hev
        obtain ⟨hacc, hs⟩ := evictable_iff.mp hev
        rw [hsent g hg hacc] at hs
        cases hs
      · rw [hevict before after v hqueue (evictable_iff.mpr ⟨haccess, hwaits⟩) fun g hg => by
          rw [Bool.eq_false_iff]
          intro hev
          obtain ⟨hacc, hs⟩ := evictable_iff.mp hev
          rw [hbefore g hg hacc] at hs
          cases hs]
        refine ⟨mem_insertFrame.mpr (.inl rfl), ?_, fun g hg => mem_insertFrame.mpr (.inr hg)⟩
        rw [insertFrame_length, hqueue]
        simp only [List.length_append, List.length_cons]
        omega
  · have hg : g.isClaimOf f.tag = true := isClaimOf_iff.mpr ⟨hkind, htag⟩
    have hno : ∀ h ∈ before ++ after, h.isClaimOf f.tag = false := fun h hh => not_isClaimOf (hothers h hh)
    refine ⟨fun hf => ?_, fun hf => ⟨fun hwaits hfirst => ?_, fun hwaits hfirst hlen => ?_, fun hsending hroom => ?_⟩⟩
    · rw [txOffer_claim hon hf, txClaim_of_waiting hqueue hno hg]
    · rw [txOffer_release hon hf, txRelease_of_waiting hqueue hno hg hwaits, if_pos hfirst]
    · have hlen' : s.link.queue.length = (before ++ after).length + 1 := by
        rw [hqueue]
        simp only [List.length_append, List.length_cons]
        omega
      rw [txOffer_release hon hf, txRelease_of_waiting hqueue hno hg hwaits, if_neg (by simp [hfirst]), txInsert_of_room (by
        change (before ++ after).length < 8
        omega)]
      refine ⟨mem_insertFrame.mpr (.inl rfl), ?_, fun h hh hkind => ?_⟩
      · rw [hlen']
        exact insertFrame_length _ _
      · obtain rfl | hh := mem_insertFrame.mp hh
        · cases hf.symm.trans hkind
        · exact hothers h hh hkind
    · rw [txOffer_release hon hf, txRelease_of_sending hqueue hno hg hsending, txInsert_of_room (by
        rw [hqueue] at hroom
        simpa using hroom)]
      exact ⟨mem_insertFrame.mpr (.inl rfl), mem_insertFrame.mpr (.inr (List.mem_append_right _ (List.mem_cons_self ..)))⟩
  · rw [txOffer_evacStart hon hf, txEvacStart_of_waiting hqueue (fun h hh => ?_) (by simp [TxFrame.isPendingEvacStart, hkind, hwaits])]
    rw [Bool.eq_false_iff]
    intro hp
    simp only [TxFrame.isPendingEvacStart, Bool.and_eq_true, decide_eq_true_eq, Bool.not_eq_true'] at hp
    rw [hothers h hh hp.1] at hp
    cases hp.2
  · exact ⟨s.collide, run_awake hawake _, discarding_collide hg, collide_of_released hg hreleased hmark hone hkind htag honly hpair⟩

end Sys2Proof.Proofs.Transmit
end

section
/-! The line monitor, the receiver and transmission (R1 to R9, R110). -/

namespace Sys2Proof.Proofs.LineRules

open Sys2Proof.Machine
open Sys2Proof.Proofs.LiveClose Sys2Proof.Proofs.Faults Sys2Proof.Proofs.Upkeep Sys2Proof.Proofs.Uphold Sys2Proof.Proofs.CallRules
open Sys2Proof.Proofs.Commands Sys2Proof.Proofs.Steps Sys2Proof.Proofs.Whole Sys2Proof.Proofs.Reports Sys2Proof.Proofs.Transmit

/-! ### Characters of another station (R2 to R4, R6) -/

theorem sendingFrame_of_idle {s : State} (h : s.driverEnable = false) : s.sendingFrame = none := by
  simpa [State.driverEnable] using h

theorem completeFrame_of_rxEmpty {s : State} (h : s.link.rxFrame = []) : s.completeFrame = s := by
  simp [State.completeFrame, h]

/-- With nothing to hand to the checks a character of another station goes to the receiver. -/
theorem characterIn_of_heard {s : State} (hidle : s.driverEnable = false) (hrx : s.link.rxFrame = [] ∨ s.link.idleRun < 3) (b : Byte)
    (framingError : Bool) : s.characterIn b framingError = s.heardChar b framingError := by
  have hcomplete : (if 3 ≤ s.link.idleRun then s.completeFrame else s) = s := by
    obtain hrx | hrun := hrx
    · rw [completeFrame_of_rxEmpty hrx, ite_self]
    · rw [if_neg (not_le.mpr hrun)]
  simp only [State.characterIn, sendingFrame_of_idle hidle, hcomplete]

theorem exec_character {s : State} (hawake : s.Awake) (b : Byte) (framingError : Bool) :
    exec (.characterReceived b framingError) s = .next (s.characterIn b framingError) := exec_awake hawake rfl

/-- A character without a framing error in the receiver (R1, R3, R6). -/
theorem heardChar_sound (s : State) (b : Byte) : s.heardChar b false =
    { s with
      link :=
        { s.link with
          monitor := if s.link.monitor = .quiet then .active else s.link.monitor, idleRun := 0, nonIdleRun := 0,
          rxFrame :=
            if s.link.discarding = true then []
            else if s.link.monitor = .quiet ∨ 3 ≤ s.link.idleRun then [b] else s.link.rxFrame ++ [b],
          rxFaulty := if s.link.discarding = true ∨ s.link.monitor = .quiet ∨ 3 ≤ s.link.idleRun then false else s.link.rxFaulty } } := by
  simp [State.heardChar, State.heldRun]

/-- The receiver after a character with a framing error outside a discard span (R4). -/
def faultyChar (s : State) (b : Byte) : State :=
  { s with
    link :=
      { s.link with
        monitor := if s.link.monitor = .quiet then .active else s.link.monitor, idleRun := 0,
        nonIdleRun := if b = 0#8 then max s.link.nonIdleRun 1 else 0, framingErrors := min (s.link.framingErrors + 1) 4,
        rxFrame := if s.link.monitor = .quiet ∨ 3 ≤ s.link.idleRun then [b] else s.link.rxFrame ++ [b], rxFaulty := true } }

theorem heardChar_faulty {s : State} (h : s.link.discarding = false) (b : Byte) : s.heardChar b true =
    if min (s.link.framingErrors + 1) 4 = 4 ∧ s.link.monitor ≠ .disturbed then (faultyChar s b).enterDisturbed else faultyChar s b := by
  simp [State.heardChar, State.heldRun, faultyChar, h]

/-! ### Idle line (R2, R3, R5) -/

theorem becomeQuiet_frame (s : State) (n : Nat) : s.becomeQuiet n = { s with link := (s.becomeQuiet n).link } := rfl

/-- The end of a disturbance or of UNKNOWN: the line is QUIET and LINK_DISTURBED is cleared. -/
theorem quiet_cleared (s : State) (n : Nat) : ∃ t, (s.becomeQuiet n).clear .linkDisturbed none = t ∧ t.link.monitor = .quiet
    ∧ t.link.slotCount = 0 ∧ t.link.rxFrame = [] ∧ n ≤ t.link.idleRun ∧ t.link.budget = s.link.budget ∧ t.link.disturbTimer = none
    ∧ t.faults.hasActive .linkDisturbed none = false ∧ s.Cleared t .linkDisturbed none
    ∧ t = { s with link := t.link, faults := t.faults, counters := t.counters } := by
  have hsends := sends_clear (s.becomeQuiet n) .linkDisturbed none
  refine ⟨_, rfl, ?_, ?_, ?_, ?_, ?_, ?_, hasActive_clear_self _ _ _, ?_, ?_⟩
  · exact hsends.monitor
  · rw [hsends]
    rfl
  · rw [hsends]
    rfl
  · rw [hsends]
    exact le_max_right _ _
  · rw [hsends.budget]
    rfl
  · rw [hsends]
    rfl
  · exact cleared_congr (cleared_clear (s.becomeQuiet n) .linkDisturbed none) (fun _ => rfl) (fun _ => rfl) rfl rfl
  · rw [hsends]
    rfl

/-- Settles O15: the receiver by its own equation, and each idle run by the monitor's state. -/
theorem characterReceived : Obligations.CharacterReceived := by
  refine ⟨fun b s hawake hidle hrx => ⟨?_, fun hdiscard herrors => ⟨faultyChar s b, ?_, ?_, rfl, rfl, rfl, rfl, rfl, ?_⟩⟩,
    fun s hawake => ⟨fun hunknown => ?_, fun hactive hsending hrx => ?_, fun hdisturbed hrx => ?_⟩, fun s hawake hdiscard => ?_⟩
  · rw [exec_character hawake, characterIn_of_heard hidle hrx, heardChar_sound]
  · rw [exec_character hawake, characterIn_of_heard hidle hrx, heardChar_faulty hdiscard, if_neg (by omega)]
  · change min _ 4 = _
    omega
  · rfl
  · have hexec : exec .unknownIdleLimit s = .next s.unknownIdle := run_awake hawake _
    rw [State.unknownIdle, if_pos hunknown] at hexec
    obtain ⟨t, ht, hmonitor, hslot, hrx, hrun, hbudget, -, hinactive, hcleared, hframe⟩ := quiet_cleared s 40
    exact ⟨t, by rw [hexec, ht], hmonitor, hslot, hrx, hrun, hbudget, hinactive, hcleared, hframe⟩
  · have hexec : exec .lineQuiet s = .next s.lineQuiet := run_awake hawake _
    rw [State.lineQuiet, if_pos ⟨hactive, hsending⟩, completeFrame_of_rxEmpty hrx] at hexec
    exact ⟨_, hexec, rfl, rfl, rfl, le_max_right _ _, rfl, rfl, rfl, rfl, rfl⟩
  · have hexec : exec .disturbanceEnd s = .next s.disturbanceEnd := run_awake hawake _
    rw [State.disturbanceEnd, if_pos hdisturbed, completeFrame_of_rxEmpty hrx] at hexec
    obtain ⟨t, ht, hmonitor, hslot, hrx, hrun, hbudget, htimer, hinactive, hcleared, hframe⟩ := quiet_cleared s 100
    exact ⟨t, by rw [hexec, ht], hmonitor, hslot, hrx, hrun, hbudget, htimer, hinactive, hcleared, hframe⟩
  · have hexec : exec .discardSpanEnd s = .next s.discardEnd := run_awake hawake _
    rw [State.discardEnd, if_pos hdiscard] at hexec
    exact hexec

/-! ### DISTURBED (R4, R5, R19) -/

/-- What one spending of the error budget leaves (R19). -/
structure Spent (s t : State) : Prop where
  frame : t = { s with
    link := { s.link with queue := t.link.queue, seqCounter := t.link.seqCounter, budget := t.link.budget }, faults := t.faults,
    counters := t.counters }
  counter : ∀ i : Fin 16, i ≠ 6 → i ≠ 15 → t.counters[i] = s.counters[i]
  left : ∀ n, s.link.budget = some n → 1 < n →
    t.link.budget = some (n - 1) ∧ t.faults = s.faults ∧ t.counters = s.counters ∧ t.link.queue = s.link.queue
  last : ∀ n, s.link.budget = some n → n ≤ 1 → t.link.budget = some s.cfg.errorBudget ∧ s.Raised t .linkErrors none
    ∧ ((t.faults.find .linkErrors none false).isSome = true ∨ (t.faults = s.faults ∧ t.counters = (s.count .faultsDropped).counters))
  idle : s.sendingFrame = none → t.sendingFrame = none

/-- A raise counts FAULTS_DROPPED and TX_DROPPED at most. -/
theorem counters_raise (s : State) (k : FaultKind) (subject : Option Nat) {i : Fin 16} (h6 : i ≠ 6) (h15 : i ≠ 15) :
    (s.raise k subject).counters[i] = s.counters[i] := by
  obtain ⟨j, r, -, -, hraise⟩ | ⟨-, j, -, hraise⟩ | ⟨-, -, hraise⟩ := raiseAs_cases s k subject false <;> rw [State.raise, hraise]
  · exact (tells_pump _).counter i h6
  · exact (tells_pump _).counter i h6
  · exact count_other s .faultsDropped i (Ne.symm h15)

theorem sendingFrame_raise {s : State} (h : s.sendingFrame = none) (k : FaultKind) (subject : Option Nat) :
    (s.raise k subject).sendingFrame = none := by
  obtain ⟨j, r, -, -, hraise⟩ | ⟨-, j, -, hraise⟩ | ⟨-, -, hraise⟩ := raiseAs_cases s k subject false <;> rw [State.raise, hraise]
  · exact sendingFrame_pump (s := { s with faults := _ }) h
  · exact sendingFrame_pump (s := { s with faults := _ }) h
  · exact h

theorem spend_of_last {s : State} {n : Nat} (h : s.link.budget = some n) (hn : n ≤ 1) :
    s.spend = ({ s with link := { s.link with budget := some s.cfg.errorBudget } } : State).raise .linkErrors none := by
  simp only [State.spend, h, if_pos hn]

theorem spend_of_left {s : State} {n : Nat} (h : s.link.budget = some n) (hn : 1 < n) :
    s.spend = { s with link := { s.link with budget := some (n - 1) } } := by
  simp only [State.spend, h, if_neg (not_le.mpr hn)]

theorem spent_last {s : State} {n : Nat} (h : s.link.budget = some n) (hn : n ≤ 1) : Spent s s.spend := by
  have hsends := sends_raise { s with link := { s.link with budget := some s.cfg.errorBudget } } .linkErrors none
  refine ⟨?_, fun i h6 h15 => ?_, fun m hm hlt => ?_, fun m _ _ => ⟨?_, ?_, ?_⟩, fun hidle => ?_⟩
  · rw [spend_of_last h hn, hsends]
  · rw [spend_of_last h hn]
    exact counters_raise _ _ _ h6 h15
  · rw [h] at hm
    cases hm
    omega
  · rw [spend_of_last h hn, hsends.budget]
  · rw [spend_of_last h hn]
    exact raised_from .linkErrors none (fun _ => rfl) rfl
  · rw [spend_of_last h hn]
    refine (find_raise { s with link := { s.link with budget := some s.cfg.errorBudget } } .linkErrors none).imp_right fun h => ?_
    rw [h]
    exact ⟨rfl, rfl⟩
  · rw [spend_of_last h hn]
    exact sendingFrame_raise (s := { s with link := { s.link with budget := some s.cfg.errorBudget } }) hidle _ _

theorem spent_left {s : State} {n : Nat} (h : s.link.budget = some n) (hn : 1 < n) : Spent s s.spend := by
  rw [spend_of_left h hn]
  refine ⟨rfl, fun _ _ _ => rfl, fun m hm _ => ?_, fun m hm hle => ?_, id⟩ <;> rw [h] at hm <;> cases hm
  · exact ⟨rfl, rfl, rfl, rfl⟩
  · omega

theorem spent_spend (s : State) : Spent s s.spend := by
  cases h : s.link.budget with
  | none =>
    have hself : s.spend = s := by simp only [State.spend, h]
    rw [hself]
    refine ⟨rfl, fun _ _ _ => rfl, fun n hn => ?_, fun n hn => ?_, id⟩ <;> rw [h] at hn <;> cases hn
  | some n =>
    obtain hn | hn := le_or_gt n 1
    · exact spent_last h hn
    · exact spent_left h hn

/-- The monitor as it enters DISTURBED, the frame being assembled abandoned (R4). -/
def disturbed (s : State) : State :=
  { s with
    link :=
      { s.link with
        monitor := .disturbed, framingErrors := 0, idleRun := 0, disturbTimer := some (s.now + 2000), rxFrame := [], rxFaulty := false } }

theorem enterDisturbed_eq (s : State) : s.enterDisturbed = (disturbed s).spend.collide := rfl

/-- What the statement on DISTURBED says of its entry. -/
structure Disturbs (s t : State) : Prop where
  monitor : t.link.monitor = .disturbed
  timer : t.link.disturbTimer = some (s.now + 2000)
  rx : t.link.rxFrame = []
  run : t.link.idleRun = 0
  errors : t.link.framingErrors = 0
  nonIdle : t.link.nonIdleRun = s.link.nonIdleRun
  budget : ∀ n, s.link.budget = some n →
    (1 < n → t.link.budget = some (n - 1) ∧ ∀ i : Fin 16, (t.faults.slots[i]).record = (s.faults.slots[i]).record)
    ∧ (n ≤ 1 → t.link.budget = some s.cfg.errorBudget ∧ s.Raised t .linkErrors none)
  rxBad : t.counters[(1 : Fin 16)] = s.counters[(1 : Fin 16)]
  frame : t = { s with link := t.link, faults := t.faults, counters := t.counters }

theorem disturbs_enterDisturbed (s : State) : Disturbs s s.enterDisturbed := by
  have hspent := spent_spend (disturbed s)
  have hstop := stopped_collide (disturbed s).spend
  have hframe := hstop.frame
  rw [← enterDisturbed_eq] at hframe
  have hlink (n : Nat) (hn : s.link.budget = some n) : s.enterDisturbed.link.budget = (disturbed s).spend.link.budget := by rw [hframe]
  have hnow : s.enterDisturbed.now = (disturbed s).spend.now ∧ s.enterDisturbed.stampNow = (disturbed s).spend.stampNow := by
    rw [hframe]
    exact ⟨rfl, rfl⟩
  refine ⟨?_, ?_, ?_, ?_, ?_, ?_, fun n hn => ⟨fun hlt => ⟨?_, fun i => ?_⟩, fun hle => ⟨?_, ?_⟩⟩, ?_, ?_⟩
  · rw [hframe, hspent.frame]
    rfl
  · rw [hframe, hspent.frame]
    rfl
  · rw [hframe, hspent.frame]
    rfl
  · rw [hframe, hspent.frame]
    rfl
  · rw [hframe, hspent.frame]
    rfl
  · rw [hframe, hspent.frame]
    rfl
  · rw [hlink n hn]
    exact (hspent.left n hn hlt).1
  · rw [enterDisturbed_eq, hstop.record, (hspent.left n hn hlt).2.1]
    rfl
  · rw [hlink n hn]
    exact (hspent.last n hn hle).1
  · refine raised_congr (hspent.last n hn hle).2.1 (fun _ => rfl) hstop.record rfl (hstop.counter 15 (by decide) (by decide)) ?_ ?_
    · exact hnow.2
    · exact hnow.1
  · rw [enterDisturbed_eq, hstop.counter 1 (by decide) (by decide), hspent.counter 1 (by decide) (by decide)]
    rfl
  · rw [hframe, hspent.frame]
    rfl

/-- The non-idle run of 20 as its command takes it (R4). -/
def heldLow (s : State) : State := { s with link := { s.link with nonIdleRun := max s.link.nonIdleRun 20, idleRun := 0 } }

theorem nonIdleLimit_of_ne {s : State} (h : s.link.monitor ≠ .disturbed) : s.nonIdleLimit = (heldLow s).enterDisturbed := by
  unfold State.nonIdleLimit
  rw [if_neg h]
  rfl

theorem due_nonIdleRunLimit {s : State} (h : s.link.monitor ≠ .disturbed) (hrun : 20 ≤ s.link.nonIdleRun) :
    s.due = some .nonIdleRunLimit := by
  have hline : s.dueLine = some .nonIdleRunLimit := by simp [State.dueLine, firstDue, dueIf, h, hrun]
  simp [State.due, firstDue, hline]

theorem disturbedLong_of_timer {s : State} {d : Nat} (h : s.link.monitor = .disturbed) (htimer : s.link.disturbTimer = some d) :
    s.disturbedLong = ({ s.advanceTo d with link := { s.link with disturbTimer := none } } : State).raise .linkDisturbed none := by
  simp only [State.disturbedLong, htimer, if_pos h]

/-- Settles O16: both causes enter DISTURBED by one operation, and a raise is a raise. -/
theorem disturbedEntered : Obligations.DisturbedEntered := by
  refine ⟨fun b s hawake hmonitor => ⟨fun herrors hidle hdiscard hrx => ?_, ?_⟩, fun s h hrun => due_nonIdleRunLimit h hrun,
    fun s d hawake hmonitor htimer => ?_⟩
  · have hexec := exec_character hawake b true
    rw [characterIn_of_heard hidle hrx, heardChar_faulty hdiscard, if_pos ⟨by omega, hmonitor⟩] at hexec
    obtain ⟨hm, ht, hr, hi, he, -, hb, hc, hf⟩ := disturbs_enterDisturbed (faultyChar s b)
    exact ⟨_, hexec, hm, ht, hr, hi, he, hc, hb, hf⟩
  · have hexec : exec .nonIdleRunLimit s = .next s.nonIdleLimit := run_awake hawake _
    rw [nonIdleLimit_of_ne hmonitor] at hexec
    obtain ⟨hm, ht, hr, hi, -, hn, hb, -, hf⟩ := disturbs_enterDisturbed (heldLow s)
    refine ⟨_, hexec, hm, ht, hr, hi, ?_, fun hlegal => ?_, hb, hf⟩
    · rw [hn]
      exact le_max_right _ _
    · have hlegal' : (disturbed (heldLow s)).TxQueueLegal := ⟨hlegal.size, hlegal.offLink, hlegal.oneSending⟩
      rw [State.driverEnable, enterDisturbed_eq, sendingFrame_collide ((upholds_spend _).txLegal hlegal')]
      rfl
  · have hexec : exec .disturbanceTimerExpiry s = .next s.disturbedLong := run_awake hawake _
    rw [disturbedLong_of_timer hmonitor htimer] at hexec
    have hsends := sends_raise { s.advanceTo d with link := { s.link with disturbTimer := none } } .linkDisturbed none
    refine ⟨_, hexec, ?_, ?_, ?_, ?_, ?_, ?_⟩
    · rw [hsends]
    · rw [hsends]
      exact hmonitor
    · rw [hsends]
      rfl
    · exact raised_from .linkDisturbed none (fun _ => rfl) rfl
    · refine (hasActive_raise rfl none).imp_right fun h => ?_
      rw [h]
      rfl
    · rw [hsends]
      rfl

/-! ### The head frame (R7) -/

theorem frameSlot_bounds (nodeId : Nat) (f : TxFrame) :
    4 * f.access ≤ frameSlot nodeId f ∧ frameSlot nodeId f ≤ 4 * f.access + 18 ∧ (f.retry = 0 → frameSlot nodeId f ≤ 4 * f.access + 3)
      ∧ (frameSlot nodeId f ≤ frameSlot nodeId { f with retry := 0 } + 15) ∧ (f.access ≤ 3 → frameSlot nodeId f ≤ 30) := by
  unfold frameSlot
  dsimp only
  rw [if_pos rfl]
  split <;> omega

/-- Settles O17. -/
theorem headFrameSent : Obligations.HeadFrameSent := by
  refine ⟨fun s f rest hawake hquiet hon hidle hqueue => ?_, frameSlot_bounds⟩
  have hready : s.readyHead = some f := by
    unfold State.readyHead
    rw [if_pos ⟨hquiet, hon, sendingFrame_of_idle hidle⟩, hqueue]
    rfl
  have hexec : exec .slotReached s = .next s.slotReached := run_awake hawake _
  simp only [State.slotReached, hready, hqueue, sendHead] at hexec
  exact ⟨_, hexec, rfl, rfl, rfl, rfl, rfl, le_max_right _ _, rfl⟩

/-! ### Echoes and collisions (R6, R9) -/

/-- The line as the echo of a character has been heard. -/
def echoHeard (s : State) (b : Byte) (framingError : Bool) : State :=
  { s with link := { s.link with idleRun := 0, nonIdleRun := s.heldRun b framingError } }

theorem characterIn_of_sending {s : State} {g : TxFrame} (h : s.sendingFrame = some g) (b : Byte) (framingError : Bool) :
    s.characterIn b framingError =
      if framingError = true ∨ (g.bytes s.cfg.nodeId)[s.link.echoed]? ≠ some b then (echoHeard s b framingError).collide
      else if s.link.echoed + 1 = (g.bytes s.cfg.nodeId).length then (echoHeard s b framingError).transmitted
      else { s with link := { s.link with
        idleRun := 0, nonIdleRun := s.heldRun b framingError, echoed := s.link.echoed + 1, echoAge := s.link.echoAge - 1 } } := by
  simp only [State.characterIn, h]
  rfl

theorem due_echoMismatch {s : State} {g : TxFrame} (h : s.sendingFrame = some g) (hage : 2 ≤ s.link.echoAge)
    (hrun : s.link.nonIdleRun < 20) : s.due = some .echoMismatch := by
  have hline : s.dueLine = some .echoMismatch := by simp [State.dueLine, firstDue, dueIf, h, hage, not_le.mpr hrun]
  simp [State.due, firstDue, hline]

/-- Settles O18. -/
theorem collisionRetriesOrDrops : Obligations.CollisionRetriesOrDrops := by
  refine ⟨fun s g hawake hlegal hg hreleased => ⟨s.collide, run_awake hawake _, ?_, discarding_collide hg, count_collisions s hg,
      fun hretry hroom => mem_collide_of_retry hg hreleased hretry hroom,
      fun hretry hmark => collide_of_last_retry hg hlegal hreleased hretry hmark, ?_⟩,
    fun s g b framingError hawake hg hwrong => ?_, fun s g hg hage hrun => due_echoMismatch hg hage hrun⟩
  · rw [State.driverEnable, sendingFrame_collide hlegal]
    rfl
  · rw [(stopped_collide s).frame]
  · have hmismatch : ∀ u : State, u.Awake → exec .echoMismatch u = .next u.collide := fun u hu => run_awake hu _
    have hrun : s.heldRun b framingError = if framingError = true ∧ b = 0#8 then max s.link.nonIdleRun 1 else 0 := by
      simp [State.heldRun]
    have hwrong' : framingError = true ∨ (g.bytes s.cfg.nodeId)[s.link.echoed]? ≠ some b := hwrong
    rw [exec_character hawake, characterIn_of_sending hg, if_pos hwrong', echoHeard, hrun]
    refine (hmismatch _ ?_).symm
    exact hawake

/-! ### Completed transmissions (R9, R13, R110) -/

/-- The state as a transmission has completed and been counted (R9). -/
def sentState (s : State) (g : TxFrame) : State :=
  ({ s with link := { s.link.completed g with idleRun := 0, nonIdleRun := 0, echoed := 0, echoAge := 0 } } : State).count .txSent

theorem transmitted_of_sending {s : State} {g : TxFrame} (h : s.sendingFrame = some g) :
    s.transmitted = (if g.kind = .claim then (sentState s g).claimSent g.tag else sentState s g).pump := by
  simp only [State.transmitted, h]
  rfl

theorem queue_completed {l : Link} {g : TxFrame} (h : g.successor = none) : (l.completed g).queue = l.queue.eraseP fun f => f.sending := by
  simp only [Link.completed, h]

theorem completed_eq (l : Link) (g : TxFrame) :
    l.completed g = { l with queue := (l.completed g).queue, seqCounter := (l.completed g).seqCounter } := by
  unfold Link.completed
  dsimp only
  split <;> rfl

theorem length_eraseP_sending {s : State} {g : TxFrame} (h : s.sendingFrame = some g) :
    (s.link.queue.eraseP fun f => f.sending).length + 1 = s.link.queue.length := by
  obtain ⟨hmem, hsending⟩ := mem_queue_of_sendingFrame h
  have hlen : (s.link.queue.eraseP fun f => f.sending).length = s.link.queue.length - 1 := List.length_eraseP_of_mem hmem hsending
  have hpos := List.length_pos_of_mem hmem
  omega

/-- The successor held for a CLAIM on the line, as it joins the queue (R13). -/
def nextClaim (g : TxFrame) (p : List Byte) (n : Nat) : TxFrame :=
  { g with payload := p, sending := false, retry := 0, firstMark := false, successor := none, seq := n }

theorem queue_completed_successor {l : Link} {g : TxFrame} {p : List Byte} (h : g.successor = some p) :
    (l.completed g).queue = insertFrame (nextClaim g p l.seqCounter) (l.queue.eraseP fun f => f.sending) := by
  simp only [Link.completed, h, Link.join]
  rfl

/-- The state in which the CLAIM of an instance in CLAIMING has been reported sent (R110). -/
def claimReported (s : State) (c : ChanId) (r : OwnClaim) : State := s.setClaim c (some { r with transmitted := true, sendDeadline := none })

theorem setClaim_setClaim (s : State) (c : ChanId) (q r : Option OwnClaim) : (s.setClaim c q).setClaim c r = s.setClaim c r := by
  simp [State.setClaim]

theorem claimSent_of_claiming {s : State} {c : ChanId} {r : OwnClaim} {i : ChanInst} {tag : Option Nat} (hc : s.claimWithTag tag = some c)
    (hr : s.claimOf c = some r) (hi : s.chan c = some i) (hstate : i.state = .claiming) :
    s.claimSent tag = (claimReported s c r).enterLeadIn c := by
  have hclaiming : (s.setClaim c (some { r with transmitted := true })).claiming c = true := by
    have hchan : (s.setClaim c (some { r with transmitted := true })).chan c = some i := hi
    simp [State.claiming, hchan, hstate]
  simp only [State.claimSent, hc, hr, Option.map_some, hclaiming, if_true, claimOf_setClaim_self]
  rw [setClaim_setClaim]
  rfl

theorem zone_setGains {l : List (ZoneId × Nat)} (s : State) (z : ZoneId) {n : Nat} (hval : ∀ p ∈ l, p.1 = z → p.2 = n) :
    (s.setGains l).zone z = if z ∈ l.map Prod.fst then { s.zone z with gain := some n } else s.zone z := by
  induction l generalizing s with
  | nil => rfl
  | cons p rest ih =>
    have hrest := ih (s.setZone p.1 fun x => { x with gain := some p.2 }) fun q hq => hval q (List.mem_cons_of_mem _ hq)
    change (State.setGains _ rest).zone z = _
    rw [hrest]
    by_cases hp : p.1 = z
    · subst hp
      rw [zone_setZone_self, hval p (List.mem_cons_self ..) rfl]
      simp
    · rw [zone_setZone_of_ne _ _ _ _ hp]
      simp only [List.map_cons, List.mem_cons, Ne.symm hp, false_or]

/-- The zones after an entry to LEAD_IN: those of the channel have their gain codes (R127). -/
theorem zone_enterLeadIn {s : State} {c : ChanId} {i : ChanInst} (h : s.chan c = some i) (z : ZoneId) :
    (s.enterLeadIn c).zone z = if z ∈ s.heldBy c then { s.zone z with gain := some (s.gainFor z i.cls) } else s.zone z := by
  rw [enterLeadIn_of_chan h]
  have hgains := zone_setGains (l := (leadingInst s c i).gains) (s.setChan c (some (leadingInst s c i))) z (n := s.gainFor z i.cls) (by
    intro p hp hz
    obtain ⟨y, -, rfl⟩ := List.mem_map.mp hp
    cases hz
    rfl)
  rw [hgains]
  have hmap : (leadingInst s c i).gains.map Prod.fst = s.heldBy c := by
    simp [leadingInst, Function.comp_def]
  rw [hmap]
  rfl

theorem enterLeadIn_eq (s : State) (c : ChanId) :
    s.enterLeadIn c = { s with chans := (s.enterLeadIn c).chans, zones := (s.enterLeadIn c).zones } := by
  obtain hnone | ⟨i, hi⟩ := Option.eq_none_or_eq_some (s.chan c)
  · simp only [State.enterLeadIn, hnone]
  · rw [enterLeadIn_of_chan hi, foldl_setGains_eq]
    rfl

theorem chan_enterLeadIn_of_ne {s : State} {c d : ChanId} {i : ChanInst} (h : s.chan c = some i) (hd : d ≠ c) :
    (s.enterLeadIn c).chan d = s.chan d := by
  rw [enterLeadIn_of_chan h, foldl_setGains_eq]
  exact chan_setChan_of_ne s c d _ hd.symm

/-- The echo of the last character completes the transmission: idle and non-idle run are 0 after it whatever they were. -/
theorem transmitted_echoHeard {s : State} {g : TxFrame} (h : s.sendingFrame = some g) (b : Byte) :
    (echoHeard s b false).transmitted = s.transmitted := by
  have hsent : sentState (echoHeard s b false) g = sentState s g := by
    have hlink : (echoHeard s b false).link.completed g = { s.link.completed g with idleRun := 0, nonIdleRun := 0 } := by
      unfold Link.completed
      dsimp only
      split <;> rfl
    unfold sentState
    rw [hlink]
    rfl
  rw [transmitted_of_sending (s := echoHeard s b false) h, transmitted_of_sending h, hsent]

theorem length_frameBytes (dst src kind : Byte) (payload : List Byte) : (frameBytes dst src kind payload).length = payload.length + 6 := by
  simp [frameBytes, word16]

/-- Settles O19: the frame leaves the queue, the CLAIM's channel enters LEAD_IN, and the reports offered then leave both alone. -/
theorem transmissionCompletes : Obligations.TransmissionCompletes := by
  refine ⟨fun s g hawake hlegal hg hkind hsuccessor => ?_, fun s g c r i hawake hg hkind htag hr hi hstate => ?_,
    fun s g b hawake hg hecho => ?_⟩
  · have hexec : exec .transmissionComplete s = .next s.transmitted := run_awake hawake _
    rw [transmitted_of_sending hg, if_neg hkind] at hexec
    have hqueue : (sentState s g).link.queue = s.link.queue.filter fun f => !f.sending :=
      (queue_completed hsuccessor).trans (eraseP_sending hlegal.oneSending)
    have hroom : (sentState s g).link.queue.length < 8 := by
      rw [show (sentState s g).link.queue = _ from queue_completed hsuccessor]
      have hlen := length_eraseP_sending hg
      have hsize := hlegal.size
      omega
    refine ⟨_, hexec, ?_, ?_, fun f hf hwaits => mem_pump hroom ?_, fun hmark => ?_, ?_⟩
    · rw [State.driverEnable, sendingFrame_pump (sendingFrame_eq_none_iff.mpr fun f hf => by
        rw [hqueue] at hf
        simpa using (List.mem_filter.mp hf).2)]
      rfl
    · rw [(tells_pump _).counter 4 (by decide)]
      exact count_counter _ .txSent
    · rw [hqueue]
      exact List.mem_filter.mpr ⟨hf, by simp [hwaits]⟩
    · rw [pump_of_unmarked (s := sentState s g) hmark, hqueue]
    · rw [(tells_pump _).sends]
      rfl
  · have hexec : exec .transmissionComplete s = .next s.transmitted := run_awake hawake _
    have hchan : (claimReported (sentState s g) c r).chan c = some i := hi
    rw [transmitted_of_sending hg, if_pos hkind, claimSent_of_claiming (s := sentState s g) htag hr hi hstate] at hexec
    have hsends := (tells_pump ((claimReported (sentState s g) c r).enterLeadIn c)).sends
    have hlead := enterLeadIn_eq (claimReported (sentState s g) c r) c
    have hchans (d : ChanId) : ((claimReported (sentState s g) c r).enterLeadIn c).pump.chan d
        = ((claimReported (sentState s g) c r).enterLeadIn c).chan d := by
      unfold State.chan
      rw [hsends.chans]
    have hclaims (d : ChanId) : ((claimReported (sentState s g) c r).enterLeadIn c).pump.claimOf d
        = (claimReported (sentState s g) c r).claimOf d := by
      unfold State.claimOf
      rw [hsends.claims, hlead]
    refine ⟨_, hexec, ?_, ?_, fun z => ?_, fun p hp hlegal haccess => ?_, fun d hd => ⟨?_, ?_⟩, ?_⟩
    · rw [hclaims]
      exact claimOf_setClaim_self _ _ _
    · rw [hchans, chan_enterLeadIn_self hchan]
      rfl
    · have hzones : ((claimReported (sentState s g) c r).enterLeadIn c).pump.zone z
          = ((claimReported (sentState s g) c r).enterLeadIn c).zone z := by
        unfold State.zone
        rw [hsends.zones]
      rw [hzones, zone_enterLeadIn hchan]
      rfl
    · have hmem : nextClaim g p s.link.seqCounter ∈ ((claimReported (sentState s g) c r).enterLeadIn c).link.queue := by
        rw [hlead]
        change _ ∈ (s.link.completed g).queue
        rw [queue_completed_successor hp]
        exact mem_insertFrame.mpr (.inl rfl)
      refine ⟨_, mem_pump_of_kept hmem ?_, rfl, rfl, rfl, rfl, rfl⟩
      have hne : g.access ≠ 3 := by omega
      simp [TxFrame.evictable, nextClaim, hne]
    · rw [hchans, chan_enterLeadIn_of_ne hchan hd]
      rfl
    · rw [hclaims]
      exact claimOf_setClaim_of_ne _ _ _ _ hd.symm
    · rw [hsends, hlead]
      rfl
  · have hgood : ¬(false = true ∨ (g.bytes s.cfg.nodeId)[s.link.echoed]? ≠ some b) := by
      rintro (h | h)
      · cases h
      · exact h hecho
    have hlen : (g.bytes s.cfg.nodeId).length = g.payload.length + 6 := length_frameBytes _ _ _ _
    refine ⟨fun hlast => ?_, fun hmore => ?_⟩
    · rw [exec_character hawake, characterIn_of_sending hg, if_neg hgood, hlen, if_pos hlast, transmitted_echoHeard hg]
      exact (run_awake hawake _).symm
    · rw [exec_character hawake, characterIn_of_sending hg, if_neg hgood, hlen, if_neg (by omega)]
      rfl

end Sys2Proof.Proofs.LineRules
end

section
/-! Reception (R3, R16 to R19, R184): a frame as it is sent reads back, and the frames that reach no owner. -/

namespace Sys2Proof.Proofs.Reception

open Sys2Proof.Machine
open Sys2Proof.Proofs.LiveClose Sys2Proof.Proofs.Faults Sys2Proof.Proofs.Upkeep Sys2Proof.Proofs.Uphold Sys2Proof.Proofs.CallRules
open Sys2Proof.Proofs.Commands Sys2Proof.Proofs.Steps Sys2Proof.Proofs.Whole Sys2Proof.Proofs.Reports Sys2Proof.Proofs.LineRules

/-! ### A frame as it is sent (R16, R184) -/

theorem byte_toNat (b : Byte) : byte b.toNat = b := by simp [byte]

theorem toNat_byte (n : Nat) : (byte n).toNat = n % 256 := by simp [byte]

/-- The bytes of a frame that the check covers. -/
def frameBody (dst src kind : Byte) (payload : List Byte) : List Byte := dst :: src :: kind :: byte payload.length :: payload

theorem frameBytes_eq (dst src kind : Byte) (payload : List Byte) : frameBytes dst src kind payload
    = frameBody dst src kind payload ++ word16 (crc16 (frameBody dst src kind payload)).toNat := rfl

theorem length_frameBody (dst src kind : Byte) (payload : List Byte) : (frameBody dst src kind payload).length = payload.length + 4 := rfl

theorem u8_frameBytes_three {payload : List Byte} (h : payload.length ≤ 60) (dst src kind : Byte) :
    u8 (frameBytes dst src kind payload) 3 = payload.length := by
  change (byte payload.length).toNat = _
  rw [toNat_byte, Nat.mod_eq_of_lt (by omega)]

theorem check1_frameBytes {payload : List Byte} (h : payload.length ≤ 60) (dst src kind : Byte) :
    check1 (frameBytes dst src kind payload) = true := by
  have hlen : (frameBytes dst src kind payload).length = payload.length + 6 := length_frameBytes _ _ _ _
  have hcut : (frameBytes dst src kind payload).length - 2 = (frameBody dst src kind payload).length := by
    rw [hlen, length_frameBody]
    rfl
  unfold check1
  rw [hcut, u8_frameBytes_three h, hlen, frameBytes_eq, List.drop_left, List.take_left]
  simp only [decide_true, Bool.and_true, Bool.and_eq_true, decide_eq_true_eq]
  omega

theorem kindOfCode_code (k : FrameKind) : kindOfCode k.code = some k := by
  cases k <;> rfl

theorem code_lt (k : FrameKind) : k.code < 256 := by
  cases k <;> decide

theorem frameCommand_frameBytes {payload : List Byte} (h : payload.length ≤ 60) (k : FrameKind) (dst src : Byte) :
    frameCommand (frameBytes dst src (byte k.code) payload) = k.command dst src payload := by
  have hkind : kindOfCode (u8 (frameBytes dst src (byte k.code) payload) 2) = some k := by
    change kindOfCode (byte k.code).toNat = some k
    rw [toNat_byte, Nat.mod_eq_of_lt (code_lt k), kindOfCode_code]
  have hpayload : ((frameBytes dst src (byte k.code) payload).drop 4).take payload.length = payload := by
    change (payload ++ word16 _).take payload.length = payload
    exact List.take_left
  have hdst : byte (u8 (frameBytes dst src (byte k.code) payload) 0) = dst := byte_toNat dst
  have hsrc : byte (u8 (frameBytes dst src (byte k.code) payload) 1) = src := byte_toNat src
  unfold frameCommand
  simp only [check1_frameBytes h, if_true, hkind, u8_frameBytes_three h, hpayload, hdst, hsrc]

/-! ### The end of a frame (R3) -/

/-- A character time on an idle line with nothing being sent. -/
theorem countTime_of_listening {s : State} (hsending : s.sendingFrame = none) (hrun : s.link.nonIdleRun = 0) :
    s.countTime = { s with
      clock := { s.clock with charPhase := (s.clock.charPhase + 1) % 25, now := s.countTime.now },
      link := { s.link with idleRun := s.link.idleRun + 1, slotCount := s.countTime.link.slotCount } } := by
  have hlink : s.countTime.link = { s.link with idleRun := s.link.idleRun + 1, slotCount := s.countTime.link.slotCount } := by
    simp [State.countTime, hsending, hrun]
  calc s.countTime = { s with clock := s.countTime.clock, link := s.countTime.link } := rfl
    _ = _ := by rw [hlink]; rfl

theorem sendingFrame_of_hears {s : State} (h : s.hears = true) : s.sendingFrame = none := by
  unfold State.hears at h
  simp only [Bool.and_eq_true, Option.isNone_iff_eq_none] at h
  exact h.1.2

theorem charTime_of_end {s : State} (hhears : s.hears = true) (hidle : s.link.idleRun = 2) (hrun : s.link.nonIdleRun = 0) :
    s.charTime = s.countTime.completeFrame := by
  have hthree : s.countTime.link.idleRun = 3 := by
    rw [countTime_of_listening (sendingFrame_of_hears hhears) hrun, hidle]
  unfold State.charTime
  dsimp only
  rw [if_pos ⟨hthree, by omega⟩]

theorem completeFrame_of_sound {s : State} (hhears : s.hears = true) (hrx : s.link.rxFrame ≠ []) (hsound : s.link.rxFaulty = false) :
    exec (frameCommand s.link.rxFrame) s = .next s.completeFrame := by
  obtain ⟨t, ht, -⟩ := answers_frameOutcome s.link.rxFrame s
  have hempty : s.link.rxFrame.isEmpty = false := by simpa using hrx
  rw [exec_frameCommand, ht]
  unfold State.completeFrame
  rw [ht, hhears, hempty, hsound]
  rfl

theorem completeFrame_of_faulty {s : State} (hhears : s.hears = true) (hrx : s.link.rxFrame ≠ []) (hfaulty : s.link.rxFaulty = true) :
    s.completeFrame = s.failCheck := by
  have hempty : s.link.rxFrame.isEmpty = false := by simpa using hrx
  unfold State.completeFrame
  rw [hhears, hempty, hfaulty]
  rfl

/-- A frame that fails check 1 counts RX_BAD and spends from the error budget (R16, R19). -/
theorem failCheck_of_linked {s : State} (h : s.onLink = true) : s.failCheck = (s.endOfFrame.count .rxBad).spend := by
  unfold State.failCheck
  rw [if_pos h]

theorem frame_failCheck {s : State} (h : s.onLink = true) : s.failCheck.link.rxFrame = []
    ∧ s.failCheck.counters[(1 : Fin 16)] = min (s.counters[(1 : Fin 16)] + 1) 65535
    ∧ s.failCheck = { s with link := s.failCheck.link, faults := s.failCheck.faults, counters := s.failCheck.counters } := by
  have hspent := spent_spend (s.endOfFrame.count .rxBad)
  rw [failCheck_of_linked h]
  refine ⟨?_, ?_, ?_⟩
  · rw [hspent.frame]
    rfl
  · rw [hspent.counter 1 (by decide) (by decide)]
    exact count_counter s.endOfFrame .rxBad
  · rw [hspent.frame]
    rfl

/-- Settles O21: the bytes of a frame spell its own command, and the receiver hands them on at an idle run of 3. -/
theorem sentFrameReadsBack : Obligations.SentFrameReadsBack := by
  refine ⟨by decide +kernel, fun k dst src payload hlen => ⟨check1_frameBytes hlen _ _ _, frameCommand_frameBytes hlen k dst src⟩,
    fun k dst src payload s hlen hpending hawake hdue hhears hidle hrun hrx => ?_⟩
  have hlisten := countTime_of_listening (sendingFrame_of_hears hhears) hrun
  have hstep : step s = .next s.countTime.completeFrame := by
    rw [step_of_idle hpending hawake hdue, charTime_of_end hhears hidle hrun]
  have hhears' : s.countTime.hears = true := hhears
  have hrx' : s.countTime.link.rxFrame = frameBytes dst src (byte k.code) payload := hrx
  have hne : s.countTime.link.rxFrame ≠ [] := by
    rw [hrx']
    exact List.cons_ne_nil _ _
  refine ⟨s.countTime, ?_, now_countTime s, ?_, fun hsound => ?_, fun hfaulty hon => ?_⟩
  · rw [hlisten, hidle]
  · rw [hidle] at hlisten
    exact hlisten
  · have hexec := completeFrame_of_sound hhears' hne hsound
    rw [hrx', frameCommand_frameBytes hlen] at hexec
    rw [hstep, hexec]
  · have hon' : s.countTime.onLink = true := hon
    rw [completeFrame_of_faulty hhears' hne hfaulty] at hstep
    exact ⟨_, hstep, frame_failCheck hon'⟩

/-! ### The payloads that check 6 ignores (R185, R186) -/

theorem validPlatform_of_bad {p : Nat} (h : badPlatform p) : ¬ validPlatform p = true := by
  unfold badPlatform at h
  simp only [validPlatform, Bool.and_eq_true, decide_eq_true_eq]
  omega

theorem validMinute_of_bad {m : Nat} (h : badMinute m) : ¬ validMinute m = true := by
  unfold badMinute at h
  simp only [validMinute, Bool.or_eq_true, decide_eq_true_eq]
  omega

theorem readTime_of_ignores {b : List Byte} (h : FrameKind.time.Ignores b) : readTime b = none := by
  have h' : b.length ≠ 5 ∨ 86399 < u24 b 2 := h
  unfold readTime
  rw [if_neg (by omega)]

theorem readPost_of_ignores {b : List Byte} (h : FrameKind.callPost.Ignores b) : readPost b = none := by
  unfold readPost
  rw [if_neg]
  rintro ⟨hlow, hlen, hplatform, hkind, hscheduled, hexpected, hpoints⟩
  obtain h | h | h | h | h | h | h := h
  · omega
  · omega
  · exact validPlatform_of_bad h hplatform
  · omega
  · omega
  · exact validMinute_of_bad h hexpected
  · omega

theorem readAmend_of_ignores {b : List Byte} (h : FrameKind.callAmend.Ignores b) : readAmend b = none := by
  unfold readAmend
  rw [if_neg]
  rintro ⟨hlen, hexpected⟩
  obtain h | h := h
  · exact h hlen
  · exact validMinute_of_bad h hexpected

theorem readCancel_of_ignores {b : List Byte} (h : FrameKind.callCancel.Ignores b) : readCancel b = none := if_neg h

theorem readCallPlatform_of_bad {b : List Byte} (h : b.length ≠ 3 ∨ badPlatform (u8 b 2)) : readCallPlatform b = none := by
  unfold readCallPlatform
  rw [if_neg]
  rintro ⟨hlen, hplatform⟩
  obtain h | h := h
  · exact h hlen
  · exact validPlatform_of_bad h hplatform

theorem readRefuse_of_ignores {b : List Byte} (h : FrameKind.callRefuse.Ignores b) : readRefuse b = none := by
  unfold readRefuse
  rw [if_neg]
  rintro ⟨hlen, hplatform⟩
  obtain h | h := h
  · exact h hlen
  · exact validPlatform_of_bad h hplatform

theorem readEvent_of_ignores {b : List Byte} (h : FrameKind.trainEvent.Ignores b) : readEvent b = none := by
  have hevent (n : Nat) (hn : n = 0 ∨ 4 < n) : eventOfNat n = none := by
    unfold eventOfNat
    split <;> first | omega | rfl
  unfold readEvent
  obtain h | h := h
  · rw [if_neg h]
  · rw [hevent _ h]
    split <;> rfl

theorem readAnnounce_of_ignores {b : List Byte} (h : FrameKind.announce.Ignores b) : readAnnounce b = none := by
  have hrepeat (k v c : Nat) (hk : 2 < k) : readRepeat k v c = none := by
    unfold readRepeat
    split <;> first | omega | rfl
  unfold readAnnounce
  split
  next hok =>
    obtain ⟨hlow, hlen, hcls, hzones⟩ := hok
    obtain h | h | h | h | h := h
    · omega
    · omega
    · exact absurd (by simpa using hcls) h
    · rw [hrepeat _ _ _ h]
      rfl
    · exact absurd h hzones
  · rfl

theorem readStop_of_ignores {b : List Byte} (h : FrameKind.announceStop.Ignores b) : readStop b = none := if_neg h

theorem readLiveOpen_of_ignores {b : List Byte} (h : FrameKind.liveOpen.Ignores b) : readLiveOpen b = none := by
  have h' : b.length < 1 ∨ b.length ≠ 1 + u8 b 0 ∨ u8 b 0 = 0 := h
  unfold readLiveOpen
  rw [if_neg (by omega)]

theorem readEmpty_of_length {b : List Byte} (h : b.length ≠ 0) : readEmpty b = none := if_neg h

theorem readClaim_of_ignores {b : List Byte} (h : FrameKind.claim.Ignores b) : readClaim b = none := by
  have h' : b.length < 4 ∨ b.length ≠ 4 + u8 b 3 ∨ 4 < u8 b 1 ∨ u8 b 3 = 0 ∨ 8 < u8 b 3 := h
  unfold readClaim
  rw [if_neg (by omega)]

theorem readRelease_of_ignores {b : List Byte} (h : FrameKind.release.Ignores b) : readRelease b = none := if_neg h

theorem readAck_of_ignores {b : List Byte} (h : FrameKind.faultAck.Ignores b) : readAck b = none := by
  unfold readAck
  obtain h | h := h
  · rw [if_neg h]
  · rw [dif_neg (by omega), ite_self]

theorem readQuery_of_ignores {b : List Byte} (h : FrameKind.statusQuery.Ignores b) : readQuery b = none := if_neg h

/-- A carried state that is not accepted (R186). -/
theorem carriedState_eq_none {n : Nat} (h : n ∉ [0, 1, 2, 3, 7]) : carriedState n = none := by
  unfold carriedState
  split <;> first | rfl | simp at h

theorem validMinute12_of_bad {m : Nat} (h : 1439 < m ∧ m ≠ 4095) : ¬ validMinute12 m = true := by
  simp only [validMinute12, Bool.or_eq_true, decide_eq_true_eq]
  omega

theorem readHandover_of_ignores {b : List Byte} (h : FrameKind.callHandover.Ignores b) : readHandover b = none := by
  unfold readHandover
  dsimp only
  split
  next hok =>
    obtain ⟨hlow, hlen, hold, htarget, hposted, hstored, hsched, hm1, hm4, hm5, hm6, hm7, hm8⟩ := hok
    obtain h | h | h | h | h | h | h | h | h | ⟨i, hi, h⟩ := h
    · omega
    · omega
    · exact absurd hold (validPlatform_of_bad h)
    · exact absurd htarget (validPlatform_of_bad h)
    · rw [carriedState_eq_none h]
    · obtain ⟨hsmall, hstate⟩ := h
      have harrival : ¬ u8 b 4 / 128 = 1 := by omega
      simp only [List.mem_cons, List.not_mem_nil, or_false] at hstate
      obtain hstate | hstate := hstate <;> rw [hstate] <;> simp [carriedState, harrival]
    · omega
    · omega
    · omega
    · simp only [List.mem_cons, List.not_mem_nil, or_false] at hi
      obtain rfl | rfl | rfl | rfl | rfl | rfl := hi
      · exact absurd hm1 (validMinute12_of_bad h)
      · exact absurd hm4 (validMinute12_of_bad h)
      · exact absurd hm5 (validMinute12_of_bad h)
      · exact absurd hm6 (validMinute12_of_bad h)
      · exact absurd hm7 (validMinute12_of_bad h)
      · exact absurd hm8 (validMinute12_of_bad h)
  · rfl

/-- The reception of a frame of any kind: some reader and some action, the reader giving nothing where check 6 ignores the payload. -/
theorem meaning_receives (k : FrameKind) (dst src : Byte) (payload : List Byte) :
    ∃ (α : Type) (read : Option α) (act : State → α → State),
      (∀ s, k.meaning dst src payload s = s.run fun s => s.receive k dst src read act) ∧ (k.Ignores payload → read = none) := by
  cases k
  case time => exact ⟨_, readTime payload, _, fun _ => rfl, readTime_of_ignores⟩
  case callPost => exact ⟨_, readPost payload, _, fun _ => rfl, readPost_of_ignores⟩
  case callAmend => exact ⟨_, readAmend payload, _, fun _ => rfl, readAmend_of_ignores⟩
  case callCancel => exact ⟨_, readCancel payload, _, fun _ => rfl, readCancel_of_ignores⟩
  case callMove => exact ⟨_, readCallPlatform payload, _, fun _ => rfl, readCallPlatform_of_bad⟩
  case trainEvent => exact ⟨_, readEvent payload, _, fun _ => rfl, readEvent_of_ignores⟩
  case callHandover => exact ⟨_, readHandover payload, _, fun _ => rfl, readHandover_of_ignores⟩
  case callAdopt => exact ⟨_, readCallPlatform payload, _, fun _ => rfl, readCallPlatform_of_bad⟩
  case callRefuse => exact ⟨_, readRefuse payload, _, fun _ => rfl, readRefuse_of_ignores⟩
  case announce => exact ⟨_, readAnnounce payload, _, fun _ => rfl, readAnnounce_of_ignores⟩
  case announceStop => exact ⟨_, readStop payload, _, fun _ => rfl, readStop_of_ignores⟩
  case liveOpen => exact ⟨_, readLiveOpen payload, _, fun _ => rfl, readLiveOpen_of_ignores⟩
  case liveKeep => exact ⟨_, readEmpty payload, _, fun _ => rfl, readEmpty_of_length⟩
  case liveClose => exact ⟨_, readEmpty payload, _, fun _ => rfl, readEmpty_of_length⟩
  case announceResult => exact ⟨_, untested payload, _, fun _ => rfl, False.elim⟩
  case evacStart => exact ⟨_, readEmpty payload, _, fun _ => rfl, readEmpty_of_length⟩
  case evacStop => exact ⟨_, readEmpty payload, _, fun _ => rfl, readEmpty_of_length⟩
  case claim => exact ⟨_, readClaim payload, _, fun _ => rfl, readClaim_of_ignores⟩
  case release => exact ⟨_, readRelease payload, _, fun _ => rfl, readRelease_of_ignores⟩
  case faultReport => exact ⟨_, untested payload, _, fun _ => rfl, False.elim⟩
  case faultAck => exact ⟨_, readAck payload, _, fun _ => rfl, readAck_of_ignores⟩
  case testStep => exact ⟨_, readEmpty payload, _, fun _ => rfl, readEmpty_of_length⟩
  case statusQuery => exact ⟨_, readQuery payload, _, fun _ => rfl, readQuery_of_ignores⟩
  case nodeStatus => exact ⟨_, untested payload, _, fun _ => rfl, False.elim⟩

/-! ### The frames that reach no owner (R16 to R19) -/

theorem exec_receives (k : FrameKind) (dst src : Byte) (payload : List Byte) :
    ∃ (α : Type) (read : Option α) (act : State → α → State),
      (∀ s : State, s.Awake → exec (k.command dst src payload) s = .next (s.receive k dst src read act))
      ∧ (k.Ignores payload → read = none) := by
  obtain ⟨α, read, act, hmeaning, hread⟩ := meaning_receives k dst src payload
  exact ⟨α, read, act, fun s hawake => by rw [exec_command, hmeaning, run_awake hawake], hread⟩

theorem exec_unknownKind {s : State} (hawake : s.Awake) (dst src kind : Byte) (payload : List Byte) :
    exec (.unknownKind dst src kind payload) s = .next (s.unknownKind dst src kind) := exec_awake hawake rfl

/-- Settles O22: the checks in their order, each with what it counts. -/
theorem badFrameCounted : Obligations.BadFrameCounted := by
  refine ⟨fun raw s b hawake hhears hon hbudget hbad => ?_, fun k dst src payload s hawake hhears helse => ?_,
    fun k dst src payload s hawake hhears hon hdst => ⟨fun hown => ?_, fun hsrc hmask => ?_, fun hsrc hmask hignored => ?_⟩,
    fun dst src payload s => ⟨fun h => ?_, fun h => ?_, fun h => ?_⟩,
    fun dst src kind payload s hawake hhears hon hdst hsrc hkind => ?_⟩
  · have hexec : exec (.badFrame raw) s = .next (s.badFrame raw) := exec_awake hawake rfl
    have hfail : s.badFrame raw = (s.endOfFrame.count .rxBad).spend := by
      unfold State.badFrame
      rw [hbad, hhears]
      exact failCheck_of_linked hon
    have hspent := spent_spend (s.endOfFrame.count .rxBad)
    have hcount := count_counter s.endOfFrame .rxBad
    rw [hfail] at hexec
    refine ⟨_, hexec, ?_, ?_, ?_, ?_, fun hlt => ?_, fun hle => ?_, ?_⟩
    · rw [hspent.frame]
      rfl
    · rw [hspent.frame]
      rfl
    · rw [hspent.frame]
      rfl
    · rw [hspent.counter 1 (by decide) (by decide)]
      exact hcount
    · obtain ⟨hleft, hfaults, -, -⟩ := hspent.left b hbudget hlt
      exact ⟨hleft, hfaults⟩
    · obtain ⟨hload, hraised, hfound⟩ := hspent.last b hbudget hle
      exact ⟨hload, raised_congr hraised (fun _ => rfl) (fun _ => rfl) (count_other s.endOfFrame .rxBad 15 (by decide)).symm rfl rfl rfl,
        hfound⟩
    · rw [hspent.frame]
      rfl
  · obtain ⟨α, read, act, hexec, -⟩ := exec_receives k dst src payload
    rw [hexec s hawake, receive_elsewhere read act hhears helse]
  · obtain ⟨α, read, act, hexec, -⟩ := exec_receives k dst src payload
    have hraise := hexec s hawake
    rw [receive_own read act hhears hon hdst hown] at hraise
    refine ⟨_, hraise, raised_from _ _ (fun _ => rfl) rfl, ?_, sends_raise s.goodFrame _ _⟩
    refine (find_raise s.goodFrame .nodeIdClash (some s.cfg.nodeId)).imp_right fun h => ?_
    rw [h]
    exact ⟨rfl, rfl⟩
  · obtain ⟨α, read, act, hexec, -⟩ := exec_receives k dst src payload
    rw [hexec s hawake, receive_unauthorised read act hhears hon hdst hsrc hmask]
  · obtain ⟨α, read, act, hexec, hread⟩ := exec_receives k dst src payload
    rw [hexec s hawake, receive_reaches read act ⟨hawake, hhears, hon, hdst, hsrc, hmask⟩, hread hignored]
  · exact (exec_awake h.awake rfl).trans (congrArg _ (receive_reaches (untested payload) _ h))
  · exact (exec_awake h.awake rfl).trans (congrArg _ (receive_reaches (untested payload) _ h))
  · exact (exec_awake h.awake rfl).trans (congrArg _ (receive_reaches (untested payload) _ h))
  · have haddressed : s.goodFrame.addressed dst src = .goesOn := by
      have hon' : s.goodFrame.onLink = true := hon
      unfold State.addressed
      rw [hon', goodFrame_cfg, if_neg (by simp), if_neg (by omega), if_neg hsrc]
    have hnone : (kindOfCode kind.toNat).isSome = false := by simpa using hkind
    rw [exec_unknownKind hawake]
    unfold State.unknownKind
    rw [hnone, if_neg (by simp), if_pos hhears, haddressed]

end Sys2Proof.Proofs.Reception
end

section
/-! The fault table's own rules (R173 to R178): the place of a new record, FAULT_ACK, TEST_STEP and STATUS_QUERY. -/

namespace Sys2Proof.Proofs.FaultRules

open Sys2Proof.Machine
open Sys2Proof.Proofs.LiveClose Sys2Proof.Proofs.Faults Sys2Proof.Proofs.Upkeep Sys2Proof.Proofs.Uphold Sys2Proof.Proofs.CallRules
open Sys2Proof.Proofs.Commands Sys2Proof.Proofs.Steps Sys2Proof.Proofs.Reports Sys2Proof.Proofs.Starting

/-! ### The oldest record of a sort (R174) -/

/-- A slot of a list holds a record of the sort `p`, older than those of the others, or as old and lower. -/
def Oldest (t : FaultTable) (p : FaultRecord → Bool) (l : List (Fin 16)) (i : Fin 16) : Prop :=
  i ∈ l ∧ ∃ r, (t.slots[i]).record = some r ∧ p r = true
    ∧ ∀ j ∈ l, ∀ w, (t.slots[j]).record = some w → p w = true → r.age < w.age ∨ (r.age = w.age ∧ i ≤ j)

/-- What the search for the oldest record has found in a list of slots. -/
def OldestOf (t : FaultTable) (p : FaultRecord → Bool) (l : List (Fin 16)) (best : Option (Fin 16)) : Prop :=
  match best with
  | none => ∀ j ∈ l, ∀ w, (t.slots[j]).record = some w → p w = false
  | some i => Oldest t p l i

/-- One step of the search. -/
def oldestStep (t : FaultTable) (p : FaultRecord → Bool) (best : Option (Fin 16)) (i : Fin 16) : Option (Fin 16) :=
  match t.slots[i].record, best with
  | none, _ => best
  | some r, none => if p r then some i else none
  | some r, some j => if p r && (t.slots[j].record).any (fun q => decide (r.age < q.age)) then some i else some j

theorem oldest_eq (t : FaultTable) (p : FaultRecord → Bool) : t.oldest p = allSlots.foldl (oldestStep t p) none := rfl

theorem oldestStep_of_empty {t : FaultTable} {p : FaultRecord → Bool} {best : Option (Fin 16)} {i : Fin 16}
    (h : (t.slots[i]).record = none) : oldestStep t p best i = best := by
  simp only [oldestStep, h]

theorem oldestStep_of_none {t : FaultTable} {p : FaultRecord → Bool} {i : Fin 16} {r : FaultRecord} (h : (t.slots[i]).record = some r) :
    oldestStep t p none i = if p r then some i else none := by
  simp only [oldestStep, h]

theorem oldestStep_of_some {t : FaultTable} {p : FaultRecord → Bool} {i j : Fin 16} {r q : FaultRecord}
    (h : (t.slots[i]).record = some r) (hq : (t.slots[j]).record = some q) :
    oldestStep t p (some j) i = if p r = true ∧ r.age < q.age then some i else some j := by
  simp only [oldestStep, h, hq, Option.any_some, Bool.and_eq_true, decide_eq_true_eq]

/-- The search goes on to a slot above those searched. -/
theorem oldestOf_step {t : FaultTable} {p : FaultRecord → Bool} {l : List (Fin 16)} {best : Option (Fin 16)} {i : Fin 16}
    (hbelow : ∀ j ∈ l, j < i) (h : OldestOf t p l best) : OldestOf t p (l ++ [i]) (oldestStep t p best i) := by
  have hsplit {P : Fin 16 → Prop} (hl : ∀ j ∈ l, P j) (hi : P i) : ∀ j ∈ l ++ [i], P j :=
    List.forall_mem_append.mpr ⟨hl, List.forall_mem_singleton.mpr hi⟩
  cases hr : (t.slots[i]).record with
  | none =>
    rw [oldestStep_of_empty hr]
    cases best with
    | none => exact hsplit h fun w hw => by rw [hr] at hw; cases hw
    | some j =>
      obtain ⟨hmem, q, hq, hp, hold⟩ := h
      exact ⟨List.mem_append_left _ hmem, q, hq, hp, hsplit hold fun w hw => by rw [hr] at hw; cases hw⟩
  | some r =>
    cases best with
    | none =>
      rw [oldestStep_of_none hr]
      by_cases hp : p r = true
      · rw [if_pos hp]
        refine ⟨List.mem_append_right _ (List.mem_singleton_self i), r, hr, hp, hsplit (fun j hj w hw hpw => ?_) fun w hw _ => ?_⟩
        · rw [h j hj w hw] at hpw
          cases hpw
        · rw [hr] at hw
          cases hw
          exact .inr ⟨rfl, le_rfl⟩
      · rw [if_neg hp]
        refine hsplit h fun w hw => ?_
        rw [hr] at hw
        cases hw
        simpa using hp
    | some j =>
      obtain ⟨hmem, q, hq, hpq, hold⟩ := h
      rw [oldestStep_of_some hr hq]
      split
      next hyoung =>
        obtain ⟨hp, hage⟩ := hyoung
        refine ⟨List.mem_append_right _ (List.mem_singleton_self i), r, hr, hp, hsplit (fun m hm w hw hpw => .inl ?_) fun w hw _ => ?_⟩
        · have hle := hold m hm w hw hpw
          omega
        · rw [hr] at hw
          cases hw
          exact .inr ⟨rfl, le_rfl⟩
      next hkeep =>
        refine ⟨List.mem_append_left _ hmem, q, hq, hpq, hsplit hold fun w hw hpw => ?_⟩
        rw [hr] at hw
        cases hw
        have hage : ¬ r.age < q.age := fun hlt => hkeep ⟨hpw, hlt⟩
        have hlow := (hbelow j hmem).le
        omega

theorem oldestOf_foldl {t : FaultTable} {p : FaultRecord → Bool} {rest l : List (Fin 16)} {best : Option (Fin 16)}
    (hsorted : (l ++ rest).Pairwise (· < ·)) (h : OldestOf t p l best) : OldestOf t p (l ++ rest) (rest.foldl (oldestStep t p) best) := by
  induction rest generalizing l best with
  | nil => rwa [List.append_nil]
  | cons i rest ih =>
    have hcons : l ++ i :: rest = (l ++ [i]) ++ rest := by simp
    rw [hcons] at hsorted ⊢
    refine ih hsorted (oldestOf_step (fun j hj => ?_) h)
    exact (List.pairwise_append.mp (List.pairwise_append.mp hsorted).1).2.2 j hj i (List.mem_singleton_self i)

theorem allSlots_sorted : allSlots.Pairwise (· < ·) := by decide

/-- The search over the whole table finds the oldest record of its sort, if there is one. -/
theorem oldestOf_oldest (t : FaultTable) (p : FaultRecord → Bool) : OldestOf t p allSlots (t.oldest p) :=
  oldestOf_foldl (l := []) allSlots_sorted fun _ hj => nomatch hj

theorem oldest_eq_some {t : FaultTable} {p : FaultRecord → Bool} {i : Fin 16} (h : Oldest t p allSlots i) : t.oldest p = some i := by
  obtain ⟨-, r, hr, hp, hold⟩ := h
  have hspec := oldestOf_oldest t p
  cases hbest : t.oldest p with
  | none =>
    rw [hbest] at hspec
    rw [hspec i (mem_allSlots i) r hr] at hp
    cases hp
  | some j =>
    rw [hbest] at hspec
    obtain ⟨-, q, hq, hpq, hold'⟩ := hspec
    have h1 := hold j (mem_allSlots j) q hq hpq
    have h2 := hold' i (mem_allSlots i) r hr hp
    exact congrArg some (by omega)

theorem oldest_eq_none {t : FaultTable} {p : FaultRecord → Bool}
    (h : ∀ (i : Fin 16) (r : FaultRecord), (t.slots[i]).record = some r → p r = false) : t.oldest p = none := by
  have hspec := oldestOf_oldest t p
  cases hbest : t.oldest p with
  | none => rfl
  | some j =>
    rw [hbest] at hspec
    obtain ⟨-, q, hq, hpq, -⟩ := hspec
    rw [h j q hq] at hpq
    cases hpq

/-! ### The place of a new record (R174) -/

theorem find?_isNone_eq_none {t : FaultTable} (h : ∀ j : Fin 16, (t.slots[j]).record ≠ none) :
    (allSlots.find? fun i => (t.slots[i].record).isNone) = none := by
  rw [List.find?_eq_none]
  intro j _ hnone
  exact h j (Option.isNone_iff_eq_none.mp hnone)

/-- In a list in order the first element that passes a test is the least. -/
theorem find?_eq_some_of_least {l : List (Fin 16)} (hsorted : l.Pairwise (· < ·)) {p : Fin 16 → Bool} {i : Fin 16} (hi : i ∈ l)
    (hp : p i = true) (hleast : ∀ j, p j = true → i ≤ j) : l.find? p = some i := by
  induction l with
  | nil => cases hi
  | cons j rest ih =>
    obtain ⟨hbelow, hrest⟩ := List.pairwise_cons.mp hsorted
    by_cases hj : p j = true
    · obtain rfl | hmem := List.mem_cons.mp hi
      · rw [List.find?_cons_of_pos hp]
      · exact absurd (hleast j hj) (not_le.mpr (hbelow i hmem))
    · have hne : i ≠ j := fun e => hj (e ▸ hp)
      rw [List.find?_cons_of_neg hj]
      exact ih hrest ((List.mem_cons.mp hi).resolve_left hne)

theorem place_of_place {t : FaultTable} {k : FaultKind} {i : Fin 16} (h : t.Place k i) : t.place k.isMajor = some i := by
  unfold FaultTable.place
  obtain ⟨hempty, hleast⟩ | ⟨hfull, ⟨v, hv, hstate, hold⟩ | ⟨hmajor, hno, v, hv, hminor, hack, hold⟩⟩ := h
  · have hfind : (allSlots.find? fun i => (t.slots[i].record).isNone) = some i :=
      find?_eq_some_of_least allSlots_sorted (mem_allSlots i) (by rw [hempty]; rfl) fun j hj => hleast j (Option.isNone_iff_eq_none.mp hj)
    simp only [hfind]
  · have holdest : (t.oldest fun r => decide (r.state = .clearedUnack)) = some i :=
      oldest_eq_some ⟨mem_allSlots i, v, hv, decide_eq_true hstate, fun j _ w hw hp => hold j w hw (of_decide_eq_true hp)⟩
    simp only [find?_isNone_eq_none hfull, holdest]
  · have hnone : (t.oldest fun r => decide (r.state = .clearedUnack)) = none :=
      oldest_eq_none fun j w hw => decide_eq_false (hno j w hw)
    have holdest : (t.oldest fun r => !r.kind.isMajor && decide (r.state = .activeAck)) = some i := by
      refine oldest_eq_some ⟨mem_allSlots i, v, hv, by simp [hminor, hack], fun j _ w hw hp => ?_⟩
      simp only [Bool.and_eq_true, Bool.not_eq_true', decide_eq_true_eq] at hp
      exact hold j w hw hp.1 hp.2
    simp only [find?_isNone_eq_none hfull, hnone, hmajor, if_true, holdest]

theorem place_of_held {t : FaultTable} {k : FaultKind}
    (h : ∀ i : Fin 16, ∃ r, (t.slots[i]).record = some r ∧ r.state ≠ .clearedUnack
      ∧ (k.isMajor = true → r.kind.isMajor = true ∨ r.state = .activeUnack)) : t.place k.isMajor = none := by
  have hget (i : Fin 16) (r : FaultRecord) (hr : (t.slots[i]).record = some r) : r.state ≠ .clearedUnack
      ∧ (k.isMajor = true → r.kind.isMajor = true ∨ r.state = .activeUnack) := by
    obtain ⟨q, hq, hrest⟩ := h i
    rw [hr] at hq
    cases hq
    exact hrest
  have hfull (i : Fin 16) : (t.slots[i]).record ≠ none := by
    obtain ⟨r, hr, -⟩ := h i
    rw [hr]
    exact Option.some_ne_none r
  have hnone : (t.oldest fun r => decide (r.state = .clearedUnack)) = none :=
    oldest_eq_none fun j w hw => decide_eq_false (hget j w hw).1
  unfold FaultTable.place
  simp only [find?_isNone_eq_none hfull, hnone]
  split
  next hmajor =>
    refine oldest_eq_none fun j w hw => ?_
    obtain hm | hs := (hget j w hw).2 hmajor
    · simp [hm]
    · simp [hs]
  · rfl

/-! ### A slot that is marked is reported (R176) -/

/-- The pump offers one report at most: there is room in the queue, or a report in it. -/
def OneReport (s : State) : Prop := s.link.queue.length < 8 ∨ ∃ f ∈ s.link.queue, f.kind = .faultReport

theorem pump_of_oneReport {s : State} (h : OneReport s) :
    s.pump = s ∨ ∃ i, s.onLink = true ∧ s.link.queue.length < 8 ∧ s.pump = s.report i := by
  obtain hroom | ⟨f, hf, hkind⟩ := h
  · exact (pump_of_room hroom).imp_right fun ⟨i, hon, _, hreport⟩ => ⟨i, hon, hroom, hreport⟩
  · exact .inl (pumpN_of_reporting hf hkind 16)

/-- After a pump that offers one report at most, so does the next. -/
theorem oneReport_pump {s : State} (h : OneReport s) : OneReport s.pump := by
  obtain hsame | ⟨i, hon, hroom, hreport⟩ := pump_of_oneReport h
  · rwa [hsame]
  · rw [hreport, report_of_room hon hroom]
    exact .inr ⟨_, mem_insertFrame.mpr (.inl rfl), rfl⟩

theorem counters_pump_of_oneReport {s : State} (h : OneReport s) : s.pump.counters = s.counters := by
  obtain hsame | ⟨i, hon, hroom, hreport⟩ := pump_of_oneReport h
  · rw [hsame]
  · rw [hreport, report_of_room hon hroom]
    rfl

theorem mem_pump_of_oneReport {s : State} (h : OneReport s) {f : TxFrame} (hf : f ∈ s.link.queue) : f ∈ s.pump.link.queue := by
  obtain hsame | ⟨i, hon, hroom, hreport⟩ := pump_of_oneReport h
  · rwa [hsame]
  · rw [hreport, report_of_room hon hroom]
    exact mem_insertFrame.mpr (.inr hf)

/-- A slot that is marked stays so, or its report is offered. -/
theorem pump_pending {s : State} (hone : OneReport s) {i : Fin 16} (h : (s.faults.slots[i]).reportPending = true) :
    (s.pump.faults.slots[i]).reportPending = true
    ∨ ∃ f ∈ s.pump.link.queue, f.kind = .faultReport ∧ f.dest = 0
      ∧ f.payload = reportPayload i (s.faults.slots[i]).record (s.faults.slots[i]).staleAck := by
  obtain hsame | ⟨j, hon, hroom, hreport⟩ := pump_of_oneReport hone
  · rw [hsame]
    exact .inl h
  · rw [hreport, report_of_room hon hroom]
    by_cases hij : i = j
    · subst hij
      exact .inr ⟨_, mem_insertFrame.mpr (.inl rfl), rfl, rfl, rfl⟩
    · left
      have hval : j.val ≠ i.val := fun e => hij (Fin.ext e.symm)
      change ((unmarked s j).faults.slots[i]).reportPending = true
      simpa [unmarked, hval] using h

theorem replaced_write (s : State) (i : Fin 16) (r : FaultRecord) :
    s.Replaced ({ s with faults := s.faults.write i (some r) } : State).pump i r := by
  refine ⟨by rw [pump_record, record_write, if_pos rfl], fun j hj => by rw [pump_record, record_write, if_neg hj], fun hroom => ?_⟩
  have hmarked := pump_pending (s := { s with faults := s.faults.write i (some r) }) (i := i) (.inl hroom) (by rw [write_slot_self])
  rwa [write_slot_self] at hmarked

/-! ### FAULT_ACK (R175) -/

theorem ack_of_empty {t : FaultTable} {i : Fin 16} (h : (t.slots[i]).record = none) (g : Nat) : t.ack i g = t := by
  simp only [FaultTable.ack, h]

theorem ack_of_unack {t : FaultTable} {i : Fin 16} {r : FaultRecord} (hr : (t.slots[i]).record = some r) (hstate : r.state = .activeUnack) :
    t.ack i r.generation = t.write i (some { r with state := .activeAck }) := by
  simp only [FaultTable.ack, hr, if_true, hstate]

theorem ack_of_ack {t : FaultTable} {i : Fin 16} {r : FaultRecord} (hr : (t.slots[i]).record = some r) (hstate : r.state = .activeAck) :
    t.ack i r.generation = t := by
  simp only [FaultTable.ack, hr, if_true, hstate]

theorem ack_of_cleared {t : FaultTable} {i : Fin 16} {r : FaultRecord} (hr : (t.slots[i]).record = some r)
    (hstate : r.state = .clearedUnack) : t.ack i r.generation = t.write i none := by
  simp only [FaultTable.ack, hr, if_true, hstate]

theorem record_ack_of_stale {t : FaultTable} {i : Fin 16} {r : FaultRecord} {g : Nat} (hr : (t.slots[i]).record = some r)
    (hg : r.generation ≠ g) (j : Fin 16) : ((t.ack i g).slots[j]).record = (t.slots[j]).record := by
  have hack : t.ack i g = { t with slots := t.slots.set i { t.slots[i] with staleAck := true } } := by
    simp only [FaultTable.ack, hr, if_neg hg]
  rw [hack]
  by_cases h : i = j
  · subst h
    simp
  · have hval : i.val ≠ j.val := fun e => h (Fin.ext e)
    simp [hval]

theorem record_ack_of_ne (t : FaultTable) {i j : Fin 16} (g : Nat) (h : j ≠ i) : ((t.ack i g).slots[j]).record = (t.slots[j]).record := by
  obtain hnone | ⟨r, hr⟩ := Option.eq_none_or_eq_some (t.slots[i]).record
  · rw [ack_of_empty hnone]
  · by_cases hg : r.generation = g
    · subst hg
      cases hstate : r.state with
      | activeUnack => rw [ack_of_unack hr hstate, write_slot_of_ne t _ h]
      | activeAck => rw [ack_of_ack hr hstate]
      | clearedUnack => rw [ack_of_cleared hr hstate, write_slot_of_ne t _ h]
    · exact record_ack_of_stale hr hg j

/-! ### TEST_STEP (R177) -/

theorem nextTestStep_eq {n : Nat} (h : n ≤ 7) : nextTestStep n = (n + 1) % 8 := by
  unfold nextTestStep
  split <;> omega

/-- The simulated record, of which a table has one at most, is freed. -/
theorem not_simulated_freeSimulated {t : FaultTable}
    (hone : ∀ i j : Fin 16, ∀ a b : FaultRecord, (t.slots[i]).record = some a → (t.slots[j]).record = some b →
      a.simulated = true → b.simulated = true → i = j) {i : Fin 16} {r : FaultRecord} (hr : (t.freeSimulated.slots[i]).record = some r) :
    r.simulated = false := by
  unfold FaultTable.freeSimulated at hr
  obtain hnone | ⟨j, hj⟩ := Option.eq_none_or_eq_some (allSlots.find? fun i => (t.slots[i].record).any fun r => r.simulated)
  · simp only [hnone] at hr
    have hno := List.find?_eq_none.mp hnone i (mem_allSlots i)
    rw [hr] at hno
    simpa using hno
  · simp only [hj] at hr
    have hsim := List.find?_some hj
    obtain ⟨q, hq⟩ := Option.isSome_iff_exists.mp (Option.isSome_of_any hsim)
    rw [hq, Option.any_some] at hsim
    rw [record_write] at hr
    split at hr
    · cases hr
    next hne =>
      cases hrs : r.simulated with
      | false => rfl
      | true => exact absurd (hone i j r q hr hq hrs hsim) hne

/-- TEST_STEP in the state that its frame leaves. -/
theorem stepTest_cases (s : State) :
    (∃ k, stepFault (nextTestStep s.faults.testStep) = some k ∧ s.stepTest = s.advanceStep.raiseAs k none true)
    ∨ (stepFault (nextTestStep s.faults.testStep) = none ∧ s.stepTest = s.advanceStep.pump) := by
  unfold State.stepTest
  cases h : stepFault s.advanceStep.faults.testStep with
  | none => exact .inr ⟨h, rfl⟩
  | some k => exact .inl ⟨k, h, rfl⟩

theorem sends_stepTest (s : State) : Sends s s.stepTest := by
  have hadvance : Sends s s.advanceStep := rfl
  obtain ⟨k, -, h⟩ | ⟨-, h⟩ := stepTest_cases s <;> rw [h]
  · exact hadvance.trans (sends_raiseAs _ _ _ _)
  · exact hadvance.trans (tells_pump _).sends

theorem find_raiseAs (s : State) (k : FaultKind) (subject : Option Nat) (sim : Bool) :
    ((s.raiseAs k subject sim).faults.find k subject sim).isSome = true ∨ s.raiseAs k subject sim = s.count .faultsDropped := by
  obtain ⟨i, r, hfind, hr, hraise⟩ | ⟨hfind, i, -, hraise⟩ | ⟨-, -, hraise⟩ := raiseAs_cases s k subject sim
  · left
    rw [hraise, find_congr_record (tells_pump _).record,
      find_write (by rw [hasKey_raised]; exact hasKey_of_find hfind hr) (.inl hfind)]
    rfl
  · left
    rw [hraise, find_congr_record (tells_pump _).record,
      find_write (k := k) (subject := subject) (sim := sim) ((hasKey_iff _ _ _ _).mpr ⟨rfl, rfl, rfl⟩) (.inr hfind)]
    rfl
  · exact .inr hraise

/-- A raise of a simulated fault in a table without simulated records leaves that of the fault alone. -/
theorem simulated_raiseAs {s : State} (hno : ∀ (i : Fin 16) (r : FaultRecord), (s.faults.slots[i]).record = some r → r.simulated = false)
    (k : FaultKind) {i : Fin 16} {r : FaultRecord} (hr : ((s.raiseAs k none true).faults.slots[i]).record = some r)
    (hsim : r.simulated = true) : r.kind = k ∧ r.subject = none ∧ r.occurrences = 1 := by
  have hold (hr : (s.faults.slots[i]).record = some r) : r.kind = k ∧ r.subject = none ∧ r.occurrences = 1 := by
    rw [hno i r hr] at hsim
    cases hsim
  obtain ⟨j, q, hfind, -, -⟩ | ⟨-, j, -, hraise⟩ | ⟨-, -, hraise⟩ := raiseAs_cases s k none true
  · obtain ⟨p, hp, -, -, hpsim⟩ := record_of_find hfind
    rw [hno j p hp] at hpsim
    cases hpsim
  · rw [hraise, pump_record, record_write] at hr
    split at hr
    · cases hr
      exact ⟨rfl, rfl, rfl⟩
    · exact hold hr
  · rw [hraise] at hr
    exact hold hr

theorem testStep_pump (s : State) : s.pump.faults.testStep = s.faults.testStep := (keeps_pump s).testStep

/-! ### STATUS_QUERY (R176, R178, R179) -/

/-- With room for it a frame that no rule coalesces joins the queue, which then offers one report at most. -/
theorem offer_of_room {s : State} {f : TxFrame} (hon : s.onLink = true) (hclaim : f.kind ≠ .claim) (hrelease : f.kind ≠ .release)
    (hevac : f.kind ≠ .evacStart) (hroom : s.link.queue.length < 7) :
    s.offer f = ({ s with link := s.link.join f } : State).pump ∧ OneReport { s with link := s.link.join f } := by
  refine ⟨?_, .inl ?_⟩
  · rw [State.offer, txOffer_of_plain hon hclaim hrelease hevac, txInsert_of_room (by omega)]
  · change (insertFrame _ _).length < 8
    rw [insertFrame_length]
    omega

theorem sendStatus_of_room {s : State} (hon : s.onLink = true) (hroom : s.link.queue.length < 7) (dest : Nat) (joining : Bool) :
    (s.sendStatus dest joining).counters = s.counters ∧ OneReport (s.sendStatus dest joining) := by
  obtain ⟨hoffer, hone⟩ := offer_of_room (f := plainFrame dest .nodeStatus (s.statusPayload joining) 3) hon
    (by simp [plainFrame]) (by simp [plainFrame]) (by simp [plainFrame]) hroom
  unfold State.sendStatus
  rw [if_pos hon, hoffer]
  exact ⟨counters_pump_of_oneReport hone, oneReport_pump hone⟩

/-- NODE_STATUS of a query and, where it asks so, the counters zeroed. -/
def answered (s : State) (src flags : Nat) : State :=
  if flags.testBit 1 then (s.sendStatus src false).zeroCounters else s.sendStatus src false

theorem query_eq (s : State) (src flags : Nat) :
    s.query src flags = if flags.testBit 0 then (answered s src flags).dump else answered s src flags := rfl

theorem answered_link (s : State) (src flags : Nat) : (answered s src flags).link = (s.sendStatus src false).link := by
  unfold answered
  split <;> rfl

theorem answered_faults (s : State) (src flags : Nat) : (answered s src flags).faults = (s.sendStatus src false).faults := by
  unfold answered
  split <;> rfl

theorem record_sendStatus (s : State) (dest : Nat) (joining : Bool) (i : Fin 16) :
    ((s.sendStatus dest joining).faults.slots[i]).record = (s.faults.slots[i]).record := by
  unfold State.sendStatus
  split
  · exact offer_record _ _ _
  · rfl

theorem sends_answered (s : State) (src flags : Nat) : Sends s (answered s src flags) := by
  have hsent : Sends s (s.sendStatus src false) := .ite (tells_offer _ _).sends (.refl s)
  exact .ite (hsent.trans rfl) hsent

theorem sends_query (s : State) (src flags : Nat) : Sends s (s.query src flags) := by
  rw [query_eq]
  exact .ite ((sends_answered s src flags).trans ((sends_faults _ _).trans (tells_pump _).sends)) (sends_answered s src flags)

theorem record_query (s : State) (src flags : Nat) (i : Fin 16) :
    ((s.query src flags).faults.slots[i]).record = (s.faults.slots[i]).record := by
  have hanswered : ((answered s src flags).faults.slots[i]).record = (s.faults.slots[i]).record := by
    rw [answered_faults, record_sendStatus]
  rw [query_eq]
  split
  · rw [State.dump, pump_record, markAll_record, hanswered]
  · exact hanswered

theorem pending_markAll (t : FaultTable) {i : Fin 16} (h : (t.slots[i]).record.isSome = true) :
    (t.markAll.slots[i]).reportPending = true := by
  simp only [Fin.getElem_fin] at h
  simp [FaultTable.markAll, h]

theorem reportPayload_slot (i : Fin 16) (r : Option FaultRecord) (stale : Bool) : u8 (reportPayload i r stale) 0 = i.val := by
  have hbyte (n : Nat) (l : List Byte) : u8 (byte n :: l) 0 = n % 256 := by simp [u8, byte]
  cases r with
  | none => exact (hbyte _ _).trans (by omega)
  | some r => exact (hbyte _ _).trans (by omega)

theorem oneReport_answered {s : State} (hon : s.onLink = true) (hroom : s.link.queue.length < 7) (src flags : Nat) :
    OneReport (answered s src flags) := by
  unfold OneReport
  rw [answered_link]
  exact (sendStatus_of_room hon hroom src false).2

theorem mem_query {s : State} (hon : s.onLink = true) (hroom : s.link.queue.length < 7) (src flags : Nat) :
    ∃ f ∈ (s.query src flags).link.queue, f.kind = .nodeStatus ∧ f.dest = src ∧ f.payload = s.statusPayload false := by
  have hmem := mem_sendStatus hon hroom src false
  rw [← answered_link s src flags] at hmem
  refine ⟨{ plainFrame src .nodeStatus (s.statusPayload false) 3 with seq := s.link.seqCounter }, ?_, rfl, rfl, rfl⟩
  rw [query_eq]
  split
  · exact mem_pump_of_oneReport (s := { answered s src flags with faults := (answered s src flags).faults.markAll })
      (oneReport_answered hon hroom src flags) hmem
  · exact hmem

theorem counters_query_of_zero (s : State) (src : Nat) {flags : Nat} (hzero : flags.testBit 1 = true) (hdump : flags.testBit 0 = false)
    (i : Fin 16) : (s.query src flags).counters[i] = 0 := by
  rw [query_eq, hdump, answered, hzero]
  simp [State.zeroCounters]

theorem counters_query_of_kept {s : State} (hon : s.onLink = true) (hroom : s.link.queue.length < 7) (src : Nat) {flags : Nat}
    (hzero : flags.testBit 1 = false) : (s.query src flags).counters = s.counters := by
  have hanswered : (answered s src flags).counters = s.counters := by
    rw [answered, hzero]
    exact (sendStatus_of_room hon hroom src false).1
  rw [query_eq]
  split
  · exact (counters_pump_of_oneReport (s := { answered s src flags with faults := (answered s src flags).faults.markAll })
      (oneReport_answered hon hroom src flags)).trans hanswered
  · exact hanswered

theorem pending_query {s : State} (hon : s.onLink = true) (hroom : s.link.queue.length < 7) (src : Nat) {flags : Nat}
    (hdump : flags.testBit 0 = true) {i : Fin 16} (hi : (s.faults.slots[i]).record.isSome = true) :
    ((s.query src flags).faults.slots[i]).reportPending = true
    ∨ ∃ f ∈ (s.query src flags).link.queue, f.kind = .faultReport ∧ u8 f.payload 0 = i.val := by
  have hrecord : ((answered s src flags).faults.slots[i]).record.isSome = true := by
    rwa [answered_faults, record_sendStatus]
  rw [query_eq, if_pos hdump]
  refine (pump_pending (s := { answered s src flags with faults := (answered s src flags).faults.markAll })
    (oneReport_answered hon hroom src flags) (pending_markAll _ hrecord)).imp_right fun ⟨f, hf, hkind, _, hpayload⟩ => ⟨f, hf, hkind, ?_⟩
  rw [hpayload, reportPayload_slot]

/-! ### The obligation -/

/-- A frame that reaches its owner, with a payload that the layout reads, has the owner's effect on the state that it leaves (R16 to R19). -/
theorem exec_reaches {α : Type} {s : State} {k : FrameKind} {dst src : Byte} {read : Option α} {act : State → α → State} {x : α}
    {y : Host.Outcome State Fault Refusal} (h : s.Reaches k dst src) (hread : read = some x)
    (hy : y = .next (if s.startup.resetHeld then s else s.receive k dst src read act)) : y = .next (act s.taken x) := by
  rw [exec_awake h.awake hy, receive_reaches read act h, hread]

/-- What the owner of a good frame leaves when it only raises, clears, counts and sends. -/
theorem frame_of_taken {s t : State} (h : Sends s.taken t) : t = { s with faults := t.faults, link := t.link, counters := t.counters } := by
  unfold Sends at h
  rw [h]
  rfl

theorem counter_taken (s : State) {i : Fin 16} (hi : Counter.idx .rxGood ≠ i) : s.taken.counters[i] = s.counters[i] :=
  count_other s.goodFrame .rxGood i hi

/-- Settles O58: each command and operation of the table in its turn, a record's place found by the search that keeps the oldest so far. -/
theorem faultAcknowledged : Obligations.FaultAcknowledged := by
  refine ⟨fun dst src payload s a hreach hread => ?_, fun dst src payload s hreach hpayload hstep hone => ?_,
    fun dst src payload s flags hreach hread => ?_, fun s k subject sim u hu => ?_, fun s k subject u hu => ?_⟩
  · have hexec := exec_reaches hreach hread (y := exec (.faultAck dst src payload) s) rfl
    have hrec (j : Fin 16) : ((s.taken.acknowledge a).faults.slots[j]).record = ((s.faults.ack a.slot a.generation).slots[j]).record :=
      pump_record _ j
    refine ⟨_, hexec, fun i hi => ?_, fun hempty => ?_, fun r hr => ⟨fun hg => ?_, fun hg hstate => ?_, fun hg hstate => ?_,
      fun hg hstate => ?_⟩, ?_⟩
    · exact (hrec i).trans (record_ack_of_ne _ _ hi)
    · refine (hrec _).trans ?_
      rw [ack_of_empty hempty, hempty]
    · refine (hrec _).trans ?_
      rw [record_ack_of_stale hr hg, hr]
    · refine (hrec _).trans ?_
      rw [← hg, ack_of_unack hr hstate, record_write, if_pos rfl]
    · refine (hrec _).trans ?_
      rw [← hg, ack_of_ack hr hstate, hr]
    · refine (hrec _).trans ?_
      rw [← hg, ack_of_cleared hr hstate, record_write, if_pos rfl]
    · exact frame_of_taken ((sends_faults _ _).trans (tells_pump _).sends)
  · have hread : readEmpty payload = some () := by rw [hpayload]; rfl
    have hexec := exec_reaches hreach hread (y := exec (.testStep dst src payload) s) rfl
    have hno (i : Fin 16) (r : FaultRecord) (hr : (s.taken.advanceStep.faults.slots[i]).record = some r) : r.simulated = false :=
      not_simulated_freeSimulated hone hr
    have hnext : nextTestStep s.taken.faults.testStep = (s.faults.testStep + 1) % 8 := nextTestStep_eq hstep
    refine ⟨_, hexec, ?_, ?_, ?_, frame_of_taken (sends_stepTest s.taken)⟩ <;>
      obtain ⟨k, hk, ht⟩ | ⟨hk, ht⟩ := stepTest_cases s.taken <;> rw [hnext] at hk <;> rw [ht]
    · exact ((keeps_raiseAs _ k none true).testStep).trans hnext
    · exact (testStep_pump _).trans hnext
    · intro i r hr hsim
      obtain ⟨hkind, hsubject, hcount⟩ := simulated_raiseAs hno k hr hsim
      exact ⟨by rw [hk, hkind], hsubject, hcount⟩
    · intro i r hr hsim
      rw [pump_record] at hr
      rw [hno i r hr] at hsim
      cases hsim
    · intro k' hk'
      rw [hk] at hk'
      cases hk'
      refine (find_raiseAs s.taken.advanceStep k none true).imp_right fun hdropped => ?_
      rw [hdropped]
      exact (count_counter _ .faultsDropped).trans (by rw [← counter_taken s (i := 15) (by decide)]; rfl)
    · intro k' hk'
      rw [hk] at hk'
      cases hk'
  · have hexec := exec_reaches hreach hread (y := exec (.statusQuery dst src payload) s) rfl
    refine ⟨_, hexec, fun hroom => ?_, fun hzero hdump i => ?_, fun hzero hroom => ?_, fun hdump hroom i hi => ?_, fun i => ?_, ?_⟩
    · exact mem_query (s := s.taken) hreach.linked hroom _ _
    · exact counters_query_of_zero _ _ hzero hdump i
    · exact counters_query_of_kept (s := s.taken) hreach.linked hroom _ hzero
    · exact pending_query (s := s.taken) hreach.linked hroom _ hdump hi
    · exact record_query s.taken _ _ i
    · exact frame_of_taken (sends_query _ _ _)
  · subst hu
    refine ⟨fun i r hfind hr => ?_, fun i hfind hplace => ?_, fun hfind hheld => ?_⟩
    · obtain ⟨j, q, hj, hq, hraise⟩ | ⟨hnone, -⟩ | ⟨hnone, -⟩ := raiseAs_cases s k subject sim
      · rw [hfind] at hj
        cases hj
        rw [hr] at hq
        cases hq
        rw [hraise, ← ((hasKey_iff _ _ _ _).mp (hasKey_of_find hfind hr)).1]
        exact replaced_write s i _
      all_goals
        rw [hfind] at hnone
        cases hnone
    · obtain ⟨j, q, hj, -⟩ | ⟨-, j, hj, hraise⟩ | ⟨-, hnone, -⟩ := raiseAs_cases s k subject sim
      · rw [hfind] at hj
        cases hj
      · rw [place_of_place hplace] at hj
        cases hj
        rw [hraise]
        exact replaced_write s i _
      · rw [place_of_place hplace] at hnone
        cases hnone
    · obtain ⟨j, q, hj, -⟩ | ⟨-, j, hj, -⟩ | ⟨-, -, hraise⟩ := raiseAs_cases s k subject sim
      · rw [hfind] at hj
        cases hj
      · rw [place_of_held hheld] at hj
        cases hj
      · exact hraise
  · subst hu
    refine ⟨fun i r hfind hr => ⟨fun hactive => ?_, fun hcleared j => ?_⟩, fun hnone j => ?_⟩
    · rw [State.clear, clear_of_find hfind hr, if_pos (by simp [FaultRecord.isActive, hactive])]
      exact replaced_write s i _
    · rw [State.clear, clear_of_find hfind hr, if_neg (by simp [FaultRecord.isActive, hcleared]), pump_record]
    · rw [State.clear, clear_of_find_none hnone, pump_record]

end Sys2Proof.Proofs.FaultRules
end

section
/-! The length of a phrase list (R79, R83, R84): what survives the absent groups, and how the calling points take the room that is left. -/

namespace Sys2Proof.Proofs.Sentences

open Sys2Proof.Machine

/-! ### Laying out (R84) -/

/-- The points as they are placed in the room for them. -/
def placedIn (room : Nat) (truncated : Bool) (p : List Nat) : List Nat :=
  if (speakPoints truncated p).length ≤ room then speakPoints truncated p else p.take (room - 1) ++ [67]

theorem layOut_points (room : Nat) (truncated : Bool) (p : List Nat) (rest : List Expansion) :
    layOut room (.points truncated p :: rest)
      = if room = 0 then none
        else (layOut (room - (placedIn room truncated p).length) rest).map fun r => placedIn room truncated p ++ r := rfl

theorem length_placedIn_le {room : Nat} (h : room ≠ 0) (truncated : Bool) (p : List Nat) : (placedIn room truncated p).length ≤ room := by
  unfold placedIn
  split
  next hle => exact hle
  · rw [List.length_append, List.length_take, List.length_singleton]
    omega

/-- What is laid out is no longer than the words and the room for points together. -/
theorem length_layOut {l : List Expansion} {room : Nat} {out : List Nat} (h : layOut room l = some out) :
    out.length ≤ (l.map Expansion.fixedLength).sum + room := by
  induction l generalizing room out with
  | nil =>
    cases h
    exact Nat.zero_le _
  | cons x rest ih =>
    cases x with
    | words w =>
      obtain ⟨r, hr, rfl⟩ := Option.map_eq_some_iff.mp h
      have hle := ih hr
      rw [List.length_append, List.map_cons, List.sum_cons, Expansion.fixedLength]
      omega
    | points truncated p =>
      rw [layOut_points] at h
      split at h
      · cases h
      next hroom =>
        obtain ⟨r, hr, rfl⟩ := Option.map_eq_some_iff.mp h
        have hle := ih hr
        have hplaced := length_placedIn_le hroom truncated p
        rw [List.length_append, List.map_cons, List.sum_cons, Expansion.fixedLength]
        omega

theorem layOut_words_append (words : List (List Nat)) (room : Nat) (rest : List Expansion) :
    layOut room (words.map .words ++ rest) = (layOut room rest).map fun r => words.flatten ++ r := by
  induction words with
  | nil => simp
  | cons w more ih =>
    rw [List.map_cons, List.cons_append, layOut, ih, Option.map_map]
    refine congrArg (Option.map · _) (funext fun r => ?_)
    simp

theorem layOut_words (words : List (List Nat)) (room : Nat) : layOut room (words.map .words) = some words.flatten := by
  have h := layOut_words_append words room []
  rw [List.append_nil] at h
  rw [h, layOut, Option.map_some, List.append_nil]

theorem sum_words (words : List (List Nat)) :
    ((words.map Expansion.words).map Expansion.fixedLength).sum = words.flatten.length := by
  rw [List.map_map, List.length_flatten]
  rfl

/-! ### Absent groups (R79) -/

theorem groupAbsent_iff {h0 : Nat} {x : Inputs} {t : List Element} {g : Nat} :
    groupAbsent h0 x t g = true ↔ ∃ e ∈ t, e.group = g ∧ expand h0 x e.kind = none := by
  simp [groupAbsent]

theorem groupAbsent_filter {h0 : Nat} {x : Inputs} {t : List Element} {g k : Nat} (h : g ≠ k) :
    groupAbsent h0 x (t.filter fun f => decide (f.group ≠ k)) g = groupAbsent h0 x t g := by
  rw [Bool.eq_iff_iff, groupAbsent_iff, groupAbsent_iff]
  refine ⟨fun ⟨e, he, hg, hnone⟩ => ⟨e, (List.mem_filter.mp he).1, hg, hnone⟩,
    fun ⟨e, he, hg, hnone⟩ => ⟨e, List.mem_filter.mpr ⟨he, ?_⟩, hg, hnone⟩⟩
  rw [hg]
  exact decide_eq_true h

/-- An absent group might as well not be in the template. -/
theorem surviving_filter {h0 : Nat} {x : Inputs} {t : List Element} {k : Nat} (h : groupAbsent h0 x t k = true) :
    surviving h0 x (t.filter fun f => decide (f.group ≠ k)) = surviving h0 x t := by
  unfold surviving
  rw [List.filter_filter]
  refine congrArg _ (List.filter_congr fun e _ => ?_)
  by_cases hk : e.group = k
  · simp [hk, h]
  · rw [groupAbsent_filter hk]
    simp [hk]

/-- With nothing absent every expansion survives. -/
theorem surviving_of_expanded {h0 : Nat} {x : Inputs} {t : List Element} {l : List Expansion}
    (h : t.map (fun e => expand h0 x e.kind) = l.map some) : (∀ g, groupAbsent h0 x t g = false) ∧ surviving h0 x t = l := by
  have habsent (g : Nat) : groupAbsent h0 x t g = false := by
    rw [Bool.eq_false_iff]
    intro hg
    obtain ⟨e, he, -, hnone⟩ := groupAbsent_iff.mp hg
    have hmem : expand h0 x e.kind ∈ l.map some := h ▸ List.mem_map_of_mem he
    rw [hnone] at hmem
    obtain ⟨y, -, hy⟩ := List.mem_map.mp hmem
    cases hy
  refine ⟨habsent, ?_⟩
  have hall : (t.filter fun e => !groupAbsent h0 x t e.group) = t := List.filter_eq_self.mpr fun e _ => by rw [habsent]; rfl
  have hmap : t.filterMap (fun e => expand h0 x e.kind) = (t.map fun e => expand h0 x e.kind).filterMap id := by
    rw [List.filterMap_map]
    rfl
  rw [surviving, hall, hmap, h, List.filterMap_map]
  simp

/-! ### The phrase list -/

theorem phraseList_of_expanded {h0 : Nat} {x : Inputs} {t : List Element} {l : List Expansion}
    (h : t.map (fun e => expand h0 x e.kind) = l.map some) :
    phraseList h0 x t = if 40 < (l.map Expansion.fixedLength).sum then none
      else (layOut (40 - (l.map Expansion.fixedLength).sum) l).filter fun out => decide (out ≠ []) := by
  obtain ⟨habsent, hsurviving⟩ := surviving_of_expanded h
  unfold phraseList
  rw [habsent, hsurviving, if_neg Bool.false_ne_true]
  dsimp only
  split
  · rfl
  · cases layOut (40 - (l.map Expansion.fixedLength).sum) l with
    | none => rfl
    | some out => cases out <;> rfl

/-- Words, calling points and words, laid end to end. -/
theorem phraseList_points {h0 : Nat} {x : Inputs} {t : List Element} {before after : List (List Nat)} {truncated : Bool} {p : List Nat}
    (h : t.map (fun e => expand h0 x e.kind) =
      before.map (fun l => some (.words l)) ++ some (.points truncated p) :: after.map (fun l => some (.words l)))
    {room : Nat} (hroom : room = 40 - (before.flatten.length + after.flatten.length)) :
    phraseList h0 x t = if room = 0 then none
      else (some (before.flatten ++ (placedIn room truncated p ++ after.flatten))).filter fun out => decide (out ≠ []) := by
  have hl : t.map (fun e => expand h0 x e.kind)
      = (before.map Expansion.words ++ .points truncated p :: after.map Expansion.words).map some := by
    rw [h]
    simp [Function.comp_def]
  have hsum : ((before.map Expansion.words ++ .points truncated p :: after.map Expansion.words).map Expansion.fixedLength).sum
      = before.flatten.length + after.flatten.length := by
    rw [List.map_append, List.sum_append, sum_words, List.map_cons, List.sum_cons, sum_words, Expansion.fixedLength, Nat.zero_add]
  rw [phraseList_of_expanded hl, hsum, ← hroom, layOut_words_append, layOut_points, layOut_words]
  by_cases hzero : room = 0
  · rw [if_pos hzero, if_pos hzero]
    split <;> rfl
  · rw [if_neg hzero, if_neg hzero, if_neg (by omega)]
    rfl

theorem length_le_speakPoints (truncated : Bool) (p : List Nat) : p.length ≤ (speakPoints truncated p).length := by
  unfold speakPoints
  split
  · simp
  · split
    · exact le_rfl
    · simp only [List.length_append, List.length_dropLast, List.length_drop, List.length_singleton]
      omega

theorem length_placedIn_pos {room : Nat} {p : List Nat} (hp : p ≠ []) (truncated : Bool) : 1 ≤ (placedIn room truncated p).length := by
  have hpos := List.length_pos_iff.mpr hp
  have hle := length_le_speakPoints truncated p
  unfold placedIn
  split
  · omega
  · simp

/-- Points that fill the room leave none. -/
theorem length_placedIn_of_full {room : Nat} {p : List Nat} (hroom : room ≠ 0) (hp : room < p.length) (truncated : Bool) :
    (placedIn room truncated p).length = room := by
  have hle := length_le_speakPoints truncated p
  unfold placedIn
  rw [if_neg (by omega), List.length_append, List.length_take, List.length_singleton]
  omega

/-- Settles O60: the words and the points placed never exceed 40, and each case of the calling points follows from how they are placed. -/
theorem phraseListFits : Obligations.PhraseListFits := by
  refine ⟨fun h0 x t l h => ?_, fun h0 x t e he hnone => ?_, fun h0 x r hcall p hp => ?_, fun h0 x t words h => ?_,
    fun h0 x t before after truncated p hp h room hroom whole hwhole => ?_, fun h0 x t before after last truncated p h hlong => ?_⟩
  · unfold phraseList at h
    dsimp only at h
    split at h
    · cases h
    · split at h
      · cases h
      next hfixed =>
        cases hlay : layOut (40 - ((surviving h0 x t).map Expansion.fixedLength).sum) (surviving h0 x t) with
        | none => rw [hlay] at h; cases h
        | some out =>
          have hle := length_layOut hlay
          rw [hlay] at h
          cases out with
          | nil => cases h
          | cons c more =>
            cases h
            rw [List.length_cons] at hle ⊢
            omega
  · have habsent : groupAbsent h0 x t e.group = true := groupAbsent_iff.mpr ⟨e, he, rfl, hnone⟩
    refine ⟨fun hzero => ?_, fun hne => ?_⟩
    · rw [hzero] at habsent
      rw [phraseList, if_pos habsent]
    · rw [phraseList, phraseList, groupAbsent_filter (Ne.symm hne), surviving_filter habsent]
  · have hspoken : r.spokenPoints = p := by
      rw [hp]
      refine List.filter_congr fun c _ => ?_
      by_cases hlow : 69 ≤ c <;> by_cases hhigh : c ≤ 127 <;> simp [reservedCode, hlow, hhigh] <;> omega
    have hexpand : expand h0 x .callingPoints = if p.isEmpty then none else some (.points r.truncated p) := by
      rw [expand, hcall, Option.bind_some, hspoken]
    rw [hexpand]
    refine ⟨fun hempty => ?_, fun hne => ?_⟩
    · rw [hempty]
      rfl
    · rw [if_neg (by simpa using hne)]
  · have hl : t.map (fun e => expand h0 x e.kind) = (words.map Expansion.words).map some := by
      rw [h, List.map_map]
      rfl
    rw [phraseList_of_expanded hl, sum_words, layOut_words]
    refine ⟨fun hpos hle => ?_, fun hout => ?_⟩
    · rw [if_neg (by omega), Option.filter_some, if_pos (decide_eq_true (List.ne_nil_of_length_pos hpos))]
    · obtain hempty | hlong := hout
      · rw [if_neg (by omega), List.eq_nil_of_length_eq_zero hempty]
        rfl
      · rw [if_pos hlong]
  · have hwhole : whole = speakPoints truncated p := by
      have hpos := List.length_pos_iff.mpr hp
      have hone : p.length = 1 ↔ p.length ≤ 1 := by omega
      simp only [hwhole, speakPoints, hone]
    have hne : before.flatten ++ (placedIn room truncated p ++ after.flatten) ≠ [] := by
      have hpos := length_placedIn_pos (room := room) hp truncated
      refine List.ne_nil_of_length_pos ?_
      rw [List.length_append, List.length_append]
      omega
    rw [phraseList_points h hroom, Option.filter_some, if_pos (decide_eq_true hne), hwhole]
    refine ⟨fun hzero => if_pos hzero, fun hone hfits => ?_, fun hone hover => ?_⟩
    · rw [if_neg (by omega), placedIn, if_pos hfits, List.append_assoc]
    · rw [if_neg (by omega), placedIn, if_neg (by omega)]
      simp only [List.append_assoc]
  · have hl : t.map (fun e => expand h0 x e.kind)
        = (before.map Expansion.words
          ++ .points truncated p :: (after.map Expansion.words ++ .points truncated p :: last.map Expansion.words)).map some := by
      rw [h]
      simp [Function.comp_def]
    rw [phraseList_of_expanded hl]
    simp only [List.map_append, List.map_cons, List.sum_append, List.sum_cons, sum_words, Expansion.fixedLength, Nat.zero_add]
    generalize hfixed : before.flatten.length + (after.flatten.length + last.flatten.length) = fixed
    split
    · rfl
    next hle =>
      rw [layOut_words_append, layOut_points]
      by_cases hzero : 40 - fixed = 0
      · rw [if_pos hzero]
        rfl
      · rw [if_neg hzero, length_placedIn_of_full hzero (by omega), Nat.sub_self, layOut_words_append, layOut_points, if_pos rfl]
        rfl

end Sys2Proof.Proofs.Sentences
end

section
/-! The CALL_HANDOVER payload and the twelve-bit runs (R184, R186): each field reads back from where it was written. -/

namespace Sys2Proof.Proofs.HandoverBytes

open Sys2Proof.Machine
open Sys2Proof.Proofs.Reception

theorem u8_cons_zero (x : Byte) (l : List Byte) : u8 (x :: l) 0 = x.toNat := rfl

theorem u8_cons_succ (x : Byte) (l : List Byte) (n : Nat) : u8 (x :: l) (n + 1) = u8 l n := by simp [u8]

/-! ### Twelve-bit runs (R184) -/

theorem length_run12 (l : List Nat) : (run12 l).length = (3 * l.length + 1) / 2 := by
  induction l using run12.induct with
  | case1 => rfl
  | case2 a => simp [run12]
  | case3 a b rest ih =>
    simp only [run12, List.length_cons, ih]
    omega

/-- A run reads back, whatever follows it. -/
theorem unrun12_run12 (l : List Nat) (h : ∀ n ∈ l, n < 4096) (tail : List Byte) : unrun12 l.length (run12 l ++ tail) = l := by
  induction l using run12.induct with
  | case1 => rfl
  | case2 a =>
    have ha := h a (List.mem_singleton_self a)
    simp only [run12, List.length_singleton, unrun12, List.cons_append, List.nil_append, u8_cons_zero, u8_cons_succ, toNat_byte]
    exact congrArg (· :: []) (by omega)
  | case3 a b rest ih =>
    have ha := h a List.mem_cons_self
    have hb := h b (List.mem_cons_of_mem _ List.mem_cons_self)
    have hfirst : a / 16 % 256 * 16 + (a % 16 * 16 + b / 256) % 256 / 16 = a := by omega
    have hsecond : (a % 16 * 16 + b / 256) % 256 % 16 * 256 + b % 256 = b := by omega
    have hrest := ih fun n hn => h n (List.mem_cons_of_mem _ (List.mem_cons_of_mem _ hn))
    simp only [run12, List.length_cons, unrun12, List.cons_append, u8_cons_zero, u8_cons_succ, toNat_byte, List.drop_succ_cons,
      List.drop_zero, hfirst, hsecond, hrest]

/-! ### Single fields -/

theorem word16_reads {n : Nat} (h : n < 65536) : n / 256 % 256 * 256 + n % 256 = n := by omega

theorem opt12_getD {x : Option Nat} (h : ∀ m, x = some m → m < 4095) : opt12 (x.getD 4095) = x := by
  cases x with
  | none => rfl
  | some m => exact if_neg (h m rfl).ne

theorem getD_lt {x : Option Nat} (h : ∀ m, x = some m → m < 4095) : x.getD 4095 < 4096 := by
  cases x with
  | none => decide
  | some m => exact (h m rfl).trans (by decide)

theorem validMinute12_getD {x : Option Nat} (h : ∀ m, x = some m → m ≤ 1439) : validMinute12 (x.getD 4095) = true := by
  cases x with
  | none => rfl
  | some m => simp [validMinute12, h m rfl]

theorem slotStateOf_code (st : SlotState) : slotStateOf st.code = st ∧ st.code < 4 := by
  cases st <;> decide

theorem slotWord_lt {c : CueSlot} (h : ∀ b, c.firedBase = some b → b < 4095) : slotWord c < 65536 := by
  have hcode := (slotStateOf_code c.state).2
  have hbase := getD_lt h
  unfold slotWord
  omega

theorem readSlot_slotWord {c : CueSlot} (h : ∀ b, c.firedBase = some b → b < 4095) : readSlot (slotWord c) = { c with next := none } := by
  have hbase := getD_lt h
  have hstate : slotWord c / 16384 = c.state.code := by unfold slotWord; omega
  have hlow : slotWord c % 4096 = c.firedBase.getD 4095 := by unfold slotWord; omega
  rw [readSlot, hstate, hlow, (slotStateOf_code c.state).1, opt12_getD h]

theorem optCarriages_getD {x : Option Nat} (h : ∀ n, x = some n → 1 ≤ n ∧ n ≤ 255) : optCarriages (x.getD 0 % 256) = x := by
  cases x with
  | none => rfl
  | some n =>
    have hn := h n rfl
    rw [Option.getD_some, Nat.mod_eq_of_lt (by omega)]
    exact if_neg (by omega)

/-! ### The parts of the payload (R186) -/

/-- The bit of the call kind in the fourth byte. -/
def kindBit : CallKind → Nat
  | .departure => 128
  | .arrival => 0

/-- The eight bytes before the twelve-bit values. -/
def headBytes (h : Handover) : List Byte :=
  word16 h.id
    ++ [byte h.oldPlatform, byte h.target, byte (kindBit h.kind + h.state.idx),
        byte (h.carriages.getD 0), byte ((if h.points.length < h.posted then 128 else 0) + h.posted), byte h.points.length]

/-- The nine twelve-bit values. -/
def carriedValues (h : Handover) : List Nat :=
  [h.scheduled, h.expected.getD 4095, h.destination, h.origin.getD 4095, h.events[0].getD 4095, h.events[1].getD 4095,
    h.events[2].getD 4095, h.events[3].getD 4095, h.lastDelay.getD 4095]

/-- The seven cue slots. -/
def slotBytes (h : Handover) : List Byte :=
  word16 (slotWord h.slots[0]) ++ word16 (slotWord h.slots[1]) ++ word16 (slotWord h.slots[2]) ++ word16 (slotWord h.slots[3])
    ++ word16 (slotWord h.slots[4]) ++ word16 (slotWord h.slots[5]) ++ word16 (slotWord h.slots[6])

theorem handoverPayload_eq (h : Handover) :
    handoverPayload h = headBytes h ++ (run12 (carriedValues h) ++ (slotBytes h ++ run12 h.points)) := by
  simp only [handoverPayload, headBytes, carriedValues, slotBytes, List.append_assoc]
  rfl

theorem length_headBytes (h : Handover) : (headBytes h).length = 8 := rfl

theorem length_slotBytes (h : Handover) : (slotBytes h).length = 14 := rfl

theorem length_carried (h : Handover) : (run12 (carriedValues h)).length = 14 := by simp [length_run12, carriedValues]

theorem u8_append_left {a b : List Byte} {i : Nat} (h : i < a.length) : u8 (a ++ b) i = u8 a i := by
  simp [u8, List.getElem?_append_left h]

theorem u8_append_right {a b : List Byte} (i : Nat) : u8 (a ++ b) (a.length + i) = u8 b i := by
  simp [u8, List.getElem?_append_right]

theorem u8_head (h : Handover) {i : Nat} (hi : i < 8) : u8 (handoverPayload h) i = u8 (headBytes h) i := by
  rw [handoverPayload_eq, u8_append_left hi]

theorem u16_slot (h : Handover) {i : Nat} (hi : i < 13) : u16 (handoverPayload h) (22 + i) = u16 (slotBytes h) i := by
  have hbyte {j : Nat} (hj : j < 14) : u8 (handoverPayload h) (22 + j) = u8 (slotBytes h) j := by
    have hleft := u8_append_right (a := headBytes h) (b := run12 (carriedValues h) ++ (slotBytes h ++ run12 h.points)) (14 + j)
    have hright := u8_append_right (a := run12 (carriedValues h)) (b := slotBytes h ++ run12 h.points) j
    rw [length_headBytes, ← Nat.add_assoc] at hleft
    rw [length_carried] at hright
    rw [handoverPayload_eq, hleft, hright, u8_append_left (by rwa [length_slotBytes])]
  rw [u16, u16, hbyte (by omega), Nat.add_assoc, hbyte (by omega)]

theorem drop_values (h : Handover) : (handoverPayload h).drop 8 = run12 (carriedValues h) ++ (slotBytes h ++ run12 h.points) := by
  rw [handoverPayload_eq, ← length_headBytes h, List.drop_left]

theorem drop_points (h : Handover) : (handoverPayload h).drop 36 = run12 h.points := by
  have hsplit : (handoverPayload h).drop 36 = (((handoverPayload h).drop 8).drop 14).drop 14 := by rw [List.drop_drop, List.drop_drop]
  rw [hsplit, drop_values, ← length_carried h, List.drop_left, length_carried, ← length_slotBytes h, List.drop_left]

theorem length_handoverPayload (h : Handover) : (handoverPayload h).length = 36 + (3 * h.points.length + 1) / 2 := by
  rw [handoverPayload_eq, List.length_append, List.length_append, List.length_append, length_headBytes, length_carried, length_slotBytes,
    length_run12]
  omega

/-! ### What is read of them -/

section
variable {h : Handover} (hfits : h.Fits)
include hfits

theorem slotWord_slot_lt (n : Fin 7) : slotWord h.slots[n] < 65536 := slotWord_lt (hfits.bases n)

theorem carriedValues_lt : ∀ n ∈ carriedValues h, n < 4096 := by
  have hevent (i : Fin 4) : h.events[i].getD 4095 < 4096 := getD_lt fun m hm => by have := hfits.events i m hm; omega
  intro n hn
  simp only [carriedValues, List.mem_cons, List.not_mem_nil, or_false] at hn
  obtain rfl | rfl | rfl | rfl | rfl | rfl | rfl | rfl | rfl := hn
  · exact hfits.scheduled.trans_lt (by decide)
  · exact getD_lt fun m hm => by have := hfits.expected m hm; omega
  · exact hfits.destination
  · exact getD_lt hfits.origin
  · exact hevent 0
  · exact hevent 1
  · exact hevent 2
  · exact hevent 3
  · exact getD_lt fun m hm => by have := hfits.lastDelay m hm; omega

theorem values_read : unrun12 9 ((handoverPayload h).drop 8) = carriedValues h := by
  rw [drop_values]
  exact unrun12_run12 (carriedValues h) (carriedValues_lt hfits) _

theorem points_read : unrun12 h.points.length ((handoverPayload h).drop 36) = h.points := by
  have hrun := unrun12_run12 h.points hfits.points []
  rwa [List.append_nil, ← drop_points] at hrun

theorem slots_read : #v[readSlot (u16 (handoverPayload h) 22), readSlot (u16 (handoverPayload h) 24), readSlot (u16 (handoverPayload h) 26),
    readSlot (u16 (handoverPayload h) 28), readSlot (u16 (handoverPayload h) 30), readSlot (u16 (handoverPayload h) 32),
    readSlot (u16 (handoverPayload h) 34)] = h.slots.map fun c => { c with next := none } := by
  have hslot (n : Fin 7) : readSlot (u16 (handoverPayload h) (22 + 2 * n.val)) = { h.slots[n] with next := none } := by
    rw [u16_slot h (by omega), ← readSlot_slotWord (hfits.bases n), ← word16_reads (slotWord_slot_lt hfits n)]
    refine congrArg readSlot ?_
    fin_cases n <;> simp [slotBytes, word16, u16, u8, toNat_byte]
  ext1 i hi
  rw [Vector.getElem_map]
  interval_cases i
  exacts [hslot 0, hslot 1, hslot 2, hslot 3, hslot 4, hslot 5, hslot 6]

theorem head_read : u16 (handoverPayload h) 0 = h.id ∧ u8 (handoverPayload h) 2 = h.oldPlatform ∧ u8 (handoverPayload h) 3 = h.target
    ∧ u8 (handoverPayload h) 5 = h.carriages.getD 0 % 256 ∧ u8 (handoverPayload h) 6 % 32 = h.posted
    ∧ u8 (handoverPayload h) 7 = h.points.length := by
  obtain ⟨hold, hold'⟩ := hfits.oldPlatform
  obtain ⟨htarget, htarget'⟩ := hfits.target
  obtain ⟨hpoints, hposted⟩ := hfits.posted
  simp only [u16, u8_head h (show 0 < 8 by decide), u8_head h (show 0 + 1 < 8 by decide), u8_head h (show 2 < 8 by decide),
    u8_head h (show 3 < 8 by decide), u8_head h (show 5 < 8 by decide), u8_head h (show 6 < 8 by decide),
    u8_head h (show 7 < 8 by decide), headBytes, word16, List.cons_append, List.nil_append, u8_cons_zero, u8_cons_succ, toNat_byte]
  refine ⟨word16_reads hfits.id, by omega, by omega, trivial, ?_, by omega⟩
  split <;> omega

/-- The fourth byte gives back the kind and the state, which the kind admits. -/
theorem state_read : (if u8 (handoverPayload h) 4 / 128 = 1 then CallKind.departure else CallKind.arrival) = h.kind
    ∧ carriedState (u8 (handoverPayload h) 4 % 16) = some h.state ∧ ¬(h.kind = .arrival ∧ (h.state = .atPlatform ∨ h.state = .closing)) := by
  have hstate := hfits.state
  have harrival := hfits.arrival
  have hbyte : u8 (handoverPayload h) 4 = (kindBit h.kind + h.state.idx) % 256 := by
    simp only [u8_head h (show 4 < 8 by decide), headBytes, word16, List.cons_append, List.nil_append, u8_cons_zero, u8_cons_succ,
      toNat_byte]
  rw [hbyte]
  simp only [List.mem_cons, List.not_mem_nil, or_false] at hstate
  refine ⟨?_, ?_, fun ⟨hkind, hlate⟩ => hlate.elim (harrival hkind).1 (harrival hkind).2⟩ <;>
    cases h.kind <;> obtain hs | hs | hs | hs | hs := hstate <;> rw [hs] <;> rfl

/-- A hand-over that fits its layout reads back. -/
theorem readHandover_handoverPayload :
    readHandover (handoverPayload h) = some { h with slots := h.slots.map fun c => { c with next := none } } := by
  obtain ⟨hid, hold, htarget, hcarriages, hposted, hlength⟩ := head_read hfits
  obtain ⟨hkind, hstate, hadmits⟩ := state_read hfits
  have hvalid {p : Nat} (h : 1 ≤ p ∧ p ≤ 40) : validPlatform p = true := by simp [validPlatform, h]
  have hevent (i : Fin 4) : validMinute12 (h.events[i].getD 4095) = true := validMinute12_getD (hfits.events i)
  have hevents (i : Fin 4) : opt12 (h.events[i].getD 4095) = h.events[i] := opt12_getD fun m hm => by have := hfits.events i m hm; omega
  unfold readHandover
  simp only [values_read hfits, hid, hold, htarget, hcarriages, hposted, hlength, hkind, hstate, if_neg hadmits, points_read hfits,
    slots_read hfits, length_handoverPayload, optCarriages_getD hfits.carriages]
  simp only [carriedValues, List.getD_cons_zero, List.getD_cons_succ]
  rw [if_pos ⟨by omega, trivial, hvalid hfits.oldPlatform, hvalid hfits.target, hfits.posted.2, hfits.posted.1, hfits.scheduled,
    validMinute12_getD hfits.expected, hevent 0, hevent 1, hevent 2, hevent 3, validMinute12_getD hfits.lastDelay⟩]
  have hexpected : opt12 (h.expected.getD 4095) = h.expected := opt12_getD fun m hm => by have := hfits.expected m hm; omega
  have hdelay : opt12 (h.lastDelay.getD 4095) = h.lastDelay := opt12_getD fun m hm => by have := hfits.lastDelay m hm; omega
  have hvector : #v[opt12 (h.events[0].getD 4095), opt12 (h.events[1].getD 4095), opt12 (h.events[2].getD 4095),
      opt12 (h.events[3].getD 4095)] = h.events := by
    ext1 i hi
    interval_cases i
    exacts [hevents 0, hevents 1, hevents 2, hevents 3]
  rw [hexpected, hdelay, opt12_getD hfits.origin, hvector]

end

/-- Settles O31. -/
theorem handoverReadsBack : Obligations.HandoverReadsBack :=
  ⟨fun _ hfits => readHandover_handoverPayload hfits, fun l hl => ⟨by simpa using unrun12_run12 l hl [], length_run12 l⟩⟩

end Sys2Proof.Proofs.HandoverBytes
end

section
/-! Offers to the announcement queue and the removal of entries (R91 to R96, R102, R106), with the desk's frames. -/

namespace Sys2Proof.Proofs.QueueRules

open Sys2Proof.Machine
open Sys2Proof.Proofs.LiveClose Sys2Proof.Proofs.Faults Sys2Proof.Proofs.Upkeep Sys2Proof.Proofs.Uphold Sys2Proof.Proofs.CallRules
open Sys2Proof.Proofs.Commands Sys2Proof.Proofs.Steps Sys2Proof.Proofs.Reports Sys2Proof.Proofs.Starting Sys2Proof.Proofs.FaultRules

/-! ### An offer, case by case (R91, R92) -/

/-- An entry put in the place of the one of its key that waits. -/
def replacing (s : State) (e f : Entry) : State :=
  (s.dropEntry e.key).setEntries (insertEntry { e with tag := f.tag, seq := f.seq, attempts := 0 } (s.dropEntry e.key).queue.entries)

theorem offerEntry_of_waiting {s : State} {e f : Entry} (h : s.entryOf e.key = some f) : s.offerEntry e = (replacing s e f).walk := by
  unfold State.offerEntry
  simp only [h]
  rfl

theorem offerEntry_of_new {s : State} {e : Entry} (hwaiting : s.entryOf e.key = none) (hplaying : s.chanOfKey e.key = none) :
    s.offerEntry e = s.offerNew e := by
  unfold State.offerEntry
  simp only [hwaiting, hplaying]

theorem offerEntry_of_desk {s : State} {e : Entry} {c : ChanId} {desk tag : Nat} (hkey : e.key = .desk desk tag)
    (hwaiting : s.entryOf e.key = none) (hplaying : s.chanOfKey e.key = some c) :
    s.offerEntry e = (s.setCont c ((s.cont c).map fun k => { k with renewal := some e })).walk := by
  unfold State.offerEntry
  simp only [hwaiting, hplaying]
  simp only [hkey]

theorem offerEntry_of_live {s : State} {e : Entry} {c : ChanId} {desk : Nat} (hkey : e.key = .live desk)
    (hwaiting : s.entryOf e.key = none) (hplaying : s.chanOfKey e.key = some c) : s.offerEntry e = s := by
  unfold State.offerEntry
  simp only [hwaiting, hplaying]
  simp only [hkey]

theorem offerNew_of_room {s : State} (e : Entry) (h : s.queue.entries.length < 24) : s.offerNew e = (s.insertNew e).walk := by
  unfold State.offerNew
  rw [if_pos h]

theorem offerNew_of_full {s : State} (e : Entry) {f : Entry} (h : 24 ≤ s.queue.entries.length) (hlast : s.queue.entries.getLast? = some f) :
    s.offerNew e = if e.cls < f.cls then ((s.removeEntry f.key .evicted).insertNew e).walk else s.give e.key .queueFull := by
  unfold State.offerNew
  rw [if_neg (by omega)]
  simp only [hlast]

/-! ### What an insertion and a replacement leave in the queue -/

/-- The entry as it joins the queue (R90). -/
def numbered (s : State) (e : Entry) : Entry := { e with tag := s.nextTag, seq := s.queue.seqCounter }

theorem entries_insertNew (s : State) (e : Entry) : (s.insertNew e).queue.entries = insertEntry (numbered s e) s.queue.entries := rfl

theorem mem_insertNew_self (s : State) (e : Entry) : numbered s e ∈ (s.insertNew e).queue.entries := mem_insertEntry.mpr (.inl rfl)

theorem mem_insertNew {s : State} {f : Entry} (e : Entry) (h : f ∈ s.queue.entries) : f ∈ (s.insertNew e).queue.entries :=
  mem_insertEntry.mpr (.inr h)

theorem length_insertNew (s : State) (e : Entry) : (s.insertNew e).queue.entries.length = s.queue.entries.length + 1 :=
  insertEntry_length _ _

theorem insertNew_frame (s : State) (e : Entry) : s.insertNew e = { s with queue := (s.insertNew e).queue } := rfl

theorem mem_dropEntry {s : State} {k : Key} {f : Entry} : f ∈ (s.dropEntry k).queue.entries ↔ f ∈ s.queue.entries ∧ f.key ≠ k :=
  List.mem_filter.trans (and_congr_right fun _ => decide_eq_true_iff)

theorem mem_replacing {s : State} {e f g : Entry} :
    g ∈ (replacing s e f).queue.entries ↔ g = { e with tag := f.tag, seq := f.seq, attempts := 0 } ∨ (g ∈ s.queue.entries ∧ g.key ≠ e.key) :=
  mem_insertEntry.trans (or_congr_right mem_dropEntry)

theorem keeps_replacing (s : State) (e f : Entry) : Keeps s (replacing s e f) := (keeps_setEntries s _).trans (keeps_setEntries _ _)

/-! ### A result given (R106) -/

theorem tells_give (s : State) (k : Key) (r : Result) : Tells (s.count r.counter) (s.give k r) := by
  unfold State.give
  split
  · exact Tells.refl _
  · exact tells_offer _ _

theorem give_frame (s : State) (k : Key) (r : Result) :
    s.give k r = { s with link := (s.give k r).link, faults := (s.give k r).faults, counters := (s.give k r).counters } :=
  (offersOnly_give s k r).frame

/-- With room for it, and no report that waits to be offered, the result of a desk's announcement is in the transmit queue. -/
theorem mem_give {s : State} {k : Key} {f : TxFrame} (hframe : resultFrame k r = some f) (hon : s.onLink = true)
    (hroom : s.link.queue.length < 8) (hmarked : s.faults.firstMarked = none) :
    { f with seq := s.link.seqCounter } ∈ (s.give k r).link.queue := by
  have hkind : f.kind = .announceResult := by
    unfold resultFrame at hframe
    split at hframe <;> cases hframe <;> rfl
  unfold State.give
  simp only [hframe]
  rw [State.offer, txOffer_of_plain (s := s.count r.counter) hon (by rw [hkind]; decide) (by rw [hkind]; decide) (by rw [hkind]; decide),
    txInsert_of_room (s := s.count r.counter) hroom, pump_of_unmarked]
  · exact mem_insertFrame.mpr (.inl rfl)
  · exact hmarked

/-! ### ANNOUNCE and LIVE_OPEN (R93, R94) -/

theorem announce_of_zones {s : State} {desk : Nat} {a : AnnounceFields} (h : s.cfg.deskMask a.zones ≠ []) :
    s.announce desk a = s.offerEntry (a.entry desk (s.cfg.deskMask a.zones) s.now) := by
  unfold State.announce
  dsimp only
  rw [if_neg (by simpa using h)]

theorem announce_of_none {s : State} {desk : Nat} {a : AnnounceFields} (h : s.cfg.deskMask a.zones = []) : s.announce desk a = s := by
  unfold State.announce
  dsimp only
  rw [if_pos (by simpa using h)]

theorem liveOpen_of_zones {s : State} {desk : Nat} {zones : List Nat} (h : s.cfg.deskMask zones ≠ []) :
    s.liveOpen desk zones = s.offerEntry (liveEntry desk (s.cfg.deskMask zones) s.now) := by
  unfold State.liveOpen
  dsimp only
  rw [if_neg (by simpa using h)]

theorem liveOpen_of_none {s : State} {desk : Nat} {zones : List Nat} (h : s.cfg.deskMask zones = []) : s.liveOpen desk zones = s := by
  unfold State.liveOpen
  dsimp only
  rw [if_pos (by simpa using h)]

/-- Settles O35: the offer of R91 in each of its cases. -/
theorem announceOffered : Obligations.AnnounceOffered := by
  intro dst src payload s a hreach hread
  have hexec := exec_reaches hreach hread (y := exec (.announce dst src payload) s) rfl
  refine ⟨fun hnone => ?_, fun hzones hwaiting hplaying hroom => ?_, fun c hzones hwaiting hplaying => ?_, fun f hzones hwaiting => ?_,
    fun f hzones hwaiting hplaying hfull hlast => ?_⟩
  · rw [hexec, announce_of_none (s := s.taken) hnone]
  all_goals
    have hoffer : s.taken.announce src.toNat a = s.taken.offerEntry (a.entry src.toNat (s.cfg.deskMask a.zones) s.now) :=
      announce_of_zones (s := s.taken) hzones
    rw [hoffer] at hexec
    have hkey : (a.entry src.toNat (s.cfg.deskMask a.zones) s.now).key = .desk src.toNat a.tag := rfl
    rw [← hkey] at hwaiting
  · rw [offerEntry_of_new (s := s.taken) hwaiting (hkey ▸ hplaying), offerNew_of_room (s := s.taken) _ hroom] at hexec
    have hkeeps := (keeps_insertNew s.taken (a.entry src.toNat (s.cfg.deskMask a.zones) s.now)).trans (keeps_walk _)
    exact ⟨_, _, _, hexec, rfl, undisturbed_of_keeps hkeeps, hkeeps.calls, rfl, mem_insertNew_self s.taken _,
      fun f hf => mem_insertNew (s := s.taken) _ hf, length_insertNew s.taken _, rfl, rfl⟩
  · rw [offerEntry_of_desk (s := s.taken) hkey hwaiting hplaying] at hexec
    have hkeeps := (keeps_setCont s.taken c ((s.cont c).map fun k =>
      { k with renewal := some (a.entry src.toNat (s.cfg.deskMask a.zones) s.now) })).trans (keeps_walk _)
    exact ⟨_, _, hexec, rfl, rfl, rfl, cont_setCont_self s.taken c _, undisturbed_of_keeps hkeeps, hkeeps.calls⟩
  · rw [offerEntry_of_waiting (s := s.taken) hwaiting] at hexec
    have hkeeps := (keeps_replacing s.taken (a.entry src.toNat (s.cfg.deskMask a.zones) s.now) f).trans (keeps_walk _)
    refine ⟨_, _, hexec, rfl, mem_replacing.mpr (.inl rfl), fun e he hkey => ?_, fun e he hkey => mem_replacing.mpr (.inr ⟨he, hkey⟩), rfl,
      undisturbed_of_keeps hkeeps, hkeeps.calls⟩
    obtain rfl | ⟨-, hne⟩ := mem_replacing.mp he
    · rfl
    · exact absurd hkey hne
  · rw [offerEntry_of_new (s := s.taken) hwaiting (hkey ▸ hplaying), offerNew_of_full (s := s.taken) _ hfull hlast] at hexec
    have hentry : (a.entry src.toNat (s.cfg.deskMask a.zones) s.now).cls = a.cls := rfl
    rw [hentry] at hexec
    refine ⟨fun hcls => ?_, fun hcls => ?_⟩
    · rw [if_neg (not_lt.mpr hcls)] at hexec
      have hcount : (s.taken.give (.desk src.toNat a.tag) .queueFull).counters[(7 : Fin 16)] = min (s.counters[(7 : Fin 16)] + 1) 65535 := by
        have hgive := (tells_give s.taken (.desk src.toNat a.tag) .queueFull).counter 7 (by decide)
        rw [hgive, ← counter_taken s (i := 7) (by decide)]
        exact count_counter s.taken .qRefused
      refine ⟨_, hexec, (offersOnly_give _ _ _).queue, hcount, fun hmarked hroom => ?_, ?_⟩
      · exact ⟨_, mem_give (s := s.taken) rfl hreach.linked hroom hmarked, rfl, rfl, rfl⟩
      · exact (give_frame s.taken _ _).trans rfl
    · rw [if_pos hcls] at hexec
      have hmem : f ∈ s.queue.entries := List.mem_of_getLast? hlast
      have hentries := entries_removeEntry s.taken f.key .evicted
      refine ⟨_, _, _, hexec, rfl, ?_, mem_insertNew_self _ _, fun hin => ?_, fun g hg hkey => mem_insertNew _ ?_, ?_⟩
      · unfold numbered
        rw [(offersOnly_removeEntry s.taken f.key .evicted).queue]
        rfl
      · obtain ⟨g, hg, hgkey⟩ := List.mem_map.mp hin
        rw [entries_insertNew, hentries] at hg
        obtain rfl | hg := mem_insertEntry.mp hg
        · exact entryOf_eq_none_iff.mp hwaiting f hmem hgkey.symm
        · exact of_decide_eq_true (List.mem_filter.mp hg).2 hgkey
      · rw [hentries]
        exact List.mem_filter.mpr ⟨hg, decide_eq_true hkey⟩
      · have hcount := counter_removeEntry s.taken f.key .evicted (by decide)
        rw [← counter_taken s (i := 9) (by decide)]
        exact hcount

/-- LIVE_KEEP on the desk's channel (R136). -/
theorem liveKeep_of_chan {s : State} {desk : Nat} {c : ChanId} {i : ChanInst} (hkey : s.chanOfKey (.live desk) = some c)
    (hchan : s.chan c = some i) :
    s.liveKeep desk = s.setChan c (some (if i.state = .live then { i with keepAt := some (s.now + 5000) } else i)) := by
  unfold State.liveKeep
  simp only [hkey, State.updChan, hchan, Option.map_some]

/-- Settles O36. -/
theorem liveOpened : Obligations.LiveOpened := by
  refine ⟨fun dst src payload s zones hreach hread => ?_, fun dst src payload s hreach hpayload => ?_⟩
  · have hexec := exec_reaches hreach hread (y := exec (.liveOpen dst src payload) s) rfl
    have hkey : (liveEntry src.toNat (s.cfg.deskMask zones) s.now).key = .live src.toNat := rfl
    refine ⟨fun hnone => ?_, fun hwaiting hplaying => ?_, fun hzones hwaiting hplaying hroom => ?_⟩
    · rw [hexec, liveOpen_of_none (s := s.taken) hnone]
    · obtain ⟨c, hc⟩ := Option.isSome_iff_exists.mp hplaying
      by_cases hzones : s.cfg.deskMask zones = []
      · rw [hexec, liveOpen_of_none (s := s.taken) hzones]
      · rw [hexec, liveOpen_of_zones (s := s.taken) hzones]
        exact congrArg _ (offerEntry_of_live (s := s.taken) (e := liveEntry src.toNat (s.cfg.deskMask zones) s.now) hkey hwaiting hc)
    · have hoffer : s.taken.liveOpen src.toNat zones = (s.taken.insertNew (liveEntry src.toNat (s.cfg.deskMask zones) s.now)).walk := by
        rw [liveOpen_of_zones (s := s.taken) hzones]
        exact (offerEntry_of_new (s := s.taken) (e := liveEntry src.toNat (s.cfg.deskMask zones) s.now) hwaiting hplaying).trans
          (offerNew_of_room (s := s.taken) _ hroom)
      rw [hoffer] at hexec
      have hkeeps := (keeps_insertNew s.taken (liveEntry src.toNat (s.cfg.deskMask zones) s.now)).trans (keeps_walk _)
      exact ⟨_, _, _, hexec, rfl, mem_insertNew_self s.taken _, rfl, rfl, rfl, rfl, rfl, rfl, fun f hf => mem_insertNew (s := s.taken) _ hf,
        rfl, undisturbed_of_keeps hkeeps, hkeeps.calls⟩
  · have hread : readEmpty payload = some () := by rw [hpayload]; rfl
    have hexec := exec_reaches hreach hread (y := exec (.liveKeep dst src payload) s) rfl
    refine ⟨fun hnone => ?_, fun c i hkey hchan => ?_⟩
    · have hkeep : s.taken.liveKeep src.toNat = s.taken := by
        have htaken : s.taken.chanOfKey (.live src.toNat) = none := hnone
        simp only [State.liveKeep, htaken]
      rw [hexec, hkeep]
    · rw [liveKeep_of_chan (s := s.taken) hkey hchan] at hexec
      refine ⟨fun hlive => ?_, fun hlive => ?_⟩
      · rw [hexec, if_pos hlive]
        rfl
      · rw [hexec, if_neg hlive, setChan_eq_self (s := s.taken) hchan]

/-! ### ANNOUNCE_STOP (R95, R131) -/

theorem stopKey_of_waiting {s : State} {k : Key} (h : (s.entryOf k).isSome = true) (m : StopMark) : s.stopKey k m = s.removeEntry k m.result := by
  unfold State.stopKey
  rw [if_pos h]

theorem stopKey_of_unknown {s : State} {k : Key} (hwaiting : s.entryOf k = none) (hplaying : s.chanOfKey k = none) (m : StopMark) :
    s.stopKey k m = s := by
  unfold State.stopKey
  simp only [hwaiting, hplaying, Option.isSome_none, Bool.false_eq_true, if_false]

theorem stopKey_of_chan {s : State} {k : Key} {c : ChanId} {i : ChanInst} (hwaiting : s.entryOf k = none) (hplaying : s.chanOfKey k = some c)
    (hchan : s.chan c = some i) (m : StopMark) :
    s.stopKey k m = if i.state = .tail then s.setCont c ((s.cont c).map fun x => { x with stopMark := some m })
      else s.stopInstance c m.ending := by
  unfold State.stopKey
  simp only [hwaiting, hplaying, hchan, Option.isSome_none, Bool.false_eq_true, if_false, Option.any_some, decide_eq_true_eq]

/-! #### The table of R131 -/

theorem stopInstance_of_ended {s : State} {c : ChanId} {i : ChanInst} (hchan : s.chan c = some i) (h : i.outcome.isSome = true)
    (o : Ending) : s.stopInstance c o = s := by
  unfold State.stopInstance
  simp only [hchan, h, if_true]

theorem stopInstance_at_once {s : State} {c : ChanId} {i : ChanInst} (hchan : s.chan c = some i) (h : i.outcome = none)
    (hstate : i.state = .claiming ∨ (i.state = .leadIn ∧ i.stage ≠ .chime)) (o : Ending) : s.stopInstance c o = s.enterTail c o := by
  unfold State.stopInstance
  simp only [hchan, h, Option.isSome_none, Bool.false_eq_true, if_false]
  obtain hs | ⟨hs, hstage⟩ := hstate
  · simp only [hs]
  · simp only [hs]

theorem stopInstance_later {s : State} {c : ChanId} {i : ChanInst} (hchan : s.chan c = some i) (h : i.outcome = none)
    (hstate : i.state = .speaking ∨ (i.state = .leadIn ∧ i.stage = .chime)) (o : Ending) :
    s.stopInstance c o = s.setChan c (some { i with outcome := some o, stopPending := true }) := by
  unfold State.stopInstance
  simp only [hchan, h, Option.isSome_none, Bool.false_eq_true, if_false]
  obtain hs | ⟨hs, hstage⟩ := hstate
  · simp only [hs]
  · simp only [hs, hstage]

/-- ANNOUNCE_STOP for a key on a channel: the renewal is discarded, then the key is stopped (R95). -/
def unrenewed (s : State) (c : ChanId) : State := s.setCont c ((s.cont c).map fun x => { x with renewal := none })

theorem announceStop_of_chan {s : State} {desk tag : Nat} {c : ChanId} (h : s.chanOfKey (.desk desk tag) = some c) :
    s.announceStop desk tag = (unrenewed s c).stopKey (.desk desk tag) .stopped := by
  unfold State.announceStop
  simp only [h]
  rfl

theorem announceStop_of_free {s : State} {desk tag : Nat} (h : s.chanOfKey (.desk desk tag) = none) :
    s.announceStop desk tag = s.stopKey (.desk desk tag) .stopped := by
  unfold State.announceStop
  simp only [h]

theorem cont_enterTail {s : State} {c : ChanId} {i : ChanInst} (o : Ending) (hchan : s.chan c = some i) (htail : i.state ≠ .tail)
    (d : ChanId) : (s.enterTail c o).cont d = s.cont d := by
  unfold State.cont
  rw [queue_enterTail o hchan htail]

theorem levels_enterTail {s : State} {c : ChanId} {i : ChanInst} (o : Ending) (hchan : s.chan c = some i) (htail : i.state ≠ .tail) :
    (s.enterTail c o).levels = s.levels := by
  rw [(offersOnly_enterTail o hchan htail).frame]
  rfl

theorem cont_setCont_of_ne {s : State} {c d : ChanId} (k : Option Continuation) (h : d ≠ c) : (s.setCont c k).cont d = s.cont d := by
  have hval : c.val ≠ d.val := fun e => h (Fin.ext e.symm)
  simp [State.setCont, State.cont, hval]

theorem unrenewed_marked (s : State) (c : ChanId) (m : StopMark) :
    (unrenewed s c).setCont c (((unrenewed s c).cont c).map fun x => { x with stopMark := some m })
      = s.setCont c ((s.cont c).map fun x => { x with renewal := none, stopMark := some m }) := by
  have hcont : (unrenewed s c).cont c = (s.cont c).map fun x => { x with renewal := none } := cont_setCont_self s c _
  rw [hcont, Option.map_map]
  simp [unrenewed, State.setCont, Function.comp_def]

/-- Settles O37: the table of R131, an instance's renewal discarded before it. -/
theorem announcementStopped : Obligations.AnnouncementStopped := by
  intro dst src payload s tag hreach hread
  have hexec := exec_reaches hreach hread (y := exec (.announceStop dst src payload) s) rfl
  refine ⟨fun hwaiting hplaying => ?_, fun hwaiting hplaying => ?_, fun c i hwaiting hplaying hchan hstate houtcome => ?_,
    fun c i hwaiting hplaying hchan => ?_⟩
  · rw [hexec, announceStop_of_free (s := s.taken) hplaying, stopKey_of_unknown (s := s.taken) hwaiting hplaying]
  · rw [announceStop_of_free (s := s.taken) hplaying, stopKey_of_waiting (s := s.taken) hwaiting] at hexec
    have hcount := counter_removeEntry s.taken (.desk src.toNat tag) .stopped (by decide)
    refine ⟨_, hexec, entries_removeEntry s.taken _ _, ?_, removeEntry_frame s.taken _ _⟩
    rw [← counter_taken s (i := 9) (by decide)]
    exact hcount
  all_goals
    have hchan' : (unrenewed s.taken c).chan c = some i := hchan
    rw [announceStop_of_chan (s := s.taken) hplaying,
      stopKey_of_chan (s := unrenewed s.taken c) hwaiting hplaying hchan'] at hexec
  · rw [if_neg (by rw [hstate]; decide), stopInstance_later hchan' houtcome (.inl hstate)] at hexec
    have hcont (x : Option ChanInst) : ((unrenewed s.taken c).setChan c x).cont c
        = (s.cont c).map fun k => { k with renewal := none } := cont_setCont_self s.taken c _
    refine ⟨_, hexec, chan_setChan_self _ c _, hcont _, ?_⟩
    rw [chan_setChan_self, hcont]
    rfl
  · refine ⟨fun hstate hstage houtcome => ?_, fun hstate houtcome => ?_, fun hstate => ?_, fun hstate houtcome => ?_⟩
    · rw [hexec, if_neg (by rw [hstate]; decide), stopInstance_later hchan' houtcome (.inr ⟨hstate, hstage⟩)]
      rfl
    · have htail : i.state ≠ .tail := by obtain hs | ⟨hs, -⟩ := hstate <;> rw [hs] <;> decide
      rw [if_neg htail, stopInstance_at_once hchan' houtcome hstate] at hexec
      have hkeeps : Keeps s.taken ((unrenewed s.taken c).enterTail c .stopped) :=
        (keeps_setCont s.taken c _).trans (keeps_enterTail _ _ _)
      refine ⟨_, _, hexec, chan_enterTail_self _ hchan' htail, rfl, by simp [ChanInst.ended, houtcome, StopMark.ending], rfl,
        claimOf_enterTail_self _ hchan' htail, ?_, fun b hb => ⟨?_, ?_, ?_⟩, ?_, ?_, ?_, hkeeps.calls, undisturbed_of_keeps hkeeps⟩
      · rw [cont_enterTail _ hchan' htail]
        exact cont_setCont_self s.taken c _
      · exact chan_enterTail_of_ne _ hchan' htail hb
      · exact claimOf_enterTail_of_ne _ hchan' htail hb
      · rw [cont_enterTail _ hchan' htail]
        exact cont_setCont_of_ne (s := s.taken) _ hb
      · rw [queue_enterTail _ hchan' htail]
        rfl
      · exact zones_enterTail _ hchan' htail
      · exact levels_enterTail _ hchan' htail
    · rw [hexec, if_pos hstate, unrenewed_marked]
      rfl
    · rw [hexec, if_neg hstate, stopInstance_of_ended hchan' houtcome]
      rfl

/-! ### The instants of an entry (R96, R102) -/

theorem aborted_removeEntry (s : State) (k : Key) {r : Result} (hr : r.counter = .annAborted) :
    (s.removeEntry k r).counters[(9 : Fin 16)] = satInc s.counters[(9 : Fin 16)] := by
  rw [(offersOnly_removeEntry s k r).counters 9 (by decide), hr]
  exact count_counter (s.dropEntry k) .annAborted

/-- Settles O39. -/
theorem entryInstants : Obligations.EntryInstants := by
  intro s tag e hawake htagged
  refine ⟨?_, fun d hexpiry => ?_⟩
  · have hexec : exec (.notBeforeReached tag) s = .next (s.notBeforeReached tag.toNat) := exec_awake hawake rfl
    rw [hexec]
    simp only [State.notBeforeReached, htagged]
    rfl
  · have hexec : exec (.entryExpiry tag) s = .next (s.entryExpired tag.toNat) := exec_awake hawake rfl
    have hover : s.entryExpired tag.toNat = (s.advanceTo d).removeEntry e.key (s.expiryResult e.key) := by
      simp only [State.entryExpired, htagged, hexpiry]
    have hresult : (s.expiryResult e.key).counter = .annAborted := by
      unfold State.expiryResult
      split <;> rfl
    have hframe := removeEntry_frame (s.advanceTo d) e.key (s.expiryResult e.key)
    have hcount : ((s.advanceTo d).removeEntry e.key (s.expiryResult e.key)).counters[(9 : Fin 16)]
        = min (s.counters[(9 : Fin 16)] + 1) 65535 := aborted_removeEntry (s.advanceTo d) e.key hresult
    rw [hover] at hexec
    refine ⟨_, hexec, entries_removeEntry _ _ _, by rw [hframe]; rfl, hcount, fun hmarked hroom hon k hkey => ?_, ?_⟩
    · have hlive : s.expiryResult (.live k) = if s.liveInUse then .busy else .expired := rfl
      refine ⟨_, mem_give (s := (s.advanceTo d).dropEntry e.key) (by rw [hkey]; rfl) hon hroom hmarked, rfl, rfl, ?_⟩
      rw [hlive]
      change [byte 1, byte 0, byte (if s.liveInUse = true then Result.busy else Result.expired).code] = _
      cases s.liveInUse <;> rfl
    · rw [hframe]
      rfl

/-! ### The nine tests (R97 to R99) -/

/-- What a search through a list in order finds is the least element that passes. -/
theorem find?_eq_some_iff_least {α : Type} [LinearOrder α] {l : List α} (hsorted : l.Pairwise (· < ·)) {p : α → Bool} {a : α} :
    l.find? p = some a ↔ a ∈ l ∧ p a = true ∧ ∀ b ∈ l, b < a → p b = false := by
  induction l with
  | nil => simp
  | cons x rest ih =>
    obtain ⟨hbelow, hrest⟩ := List.pairwise_cons.mp hsorted
    by_cases hx : p x = true
    · rw [List.find?_cons_of_pos hx, Option.some.injEq]
      refine ⟨fun h => ?_, fun ⟨hmem, hp, hleast⟩ => ?_⟩
      · subst h
        refine ⟨List.mem_cons_self, hx, fun b hb hlt => ?_⟩
        obtain rfl | hb := List.mem_cons.mp hb
        · exact absurd hlt (lt_irrefl _)
        · exact absurd (hbelow b hb) (lt_asymm hlt)
      · obtain rfl | hmem := List.mem_cons.mp hmem
        · rfl
        · rw [hleast x List.mem_cons_self (hbelow a hmem)] at hx
          cases hx
    · rw [List.find?_cons_of_neg hx, ih hrest]
      refine ⟨fun ⟨hmem, hp, hleast⟩ => ⟨List.mem_cons_of_mem _ hmem, hp, fun b hb hlt => ?_⟩, fun ⟨hmem, hp, hleast⟩ => ⟨?_, hp, ?_⟩⟩
      · obtain rfl | hb := List.mem_cons.mp hb
        · simpa using hx
        · exact hleast b hb hlt
      · obtain rfl | hmem := List.mem_cons.mp hmem
        · exact absurd hp hx
        · exact hmem
      · exact fun b hb hlt => hleast b (List.mem_cons_of_mem _ hb) hlt

theorem outranks_iff {a b : Nat} : outranks a b = true ↔ Preempts a b := by simp [outranks, preempting, Preempts]

theorem channelFor_iff {s : State} {cls : Nat} {c : ChanId} :
    s.channelFor cls = some c ↔ s.chan c = none ∧ (3 ≤ cls → c ≠ 0) ∧ ∀ d : ChanId, d < c → s.chan d = none → d = 0 ∧ 3 ≤ cls := by
  have hfree (d : ChanId) : s.isFree d = true ↔ s.chan d = none := Option.isNone_iff_eq_none
  have hbusy (d : ChanId) : s.isFree d = false ↔ s.chan d ≠ none := by rw [Bool.eq_false_iff, Ne, hfree]
  unfold State.channelFor
  by_cases hcls : cls ≤ 2
  · have hall : ∀ d : ChanId, d ∈ ([0, 1, 2, 3] : List ChanId) := by decide
    rw [if_pos hcls, find?_eq_some_iff_least (by decide), hfree]
    refine ⟨fun ⟨_, hc, hleast⟩ => ⟨hc, by omega, fun d hd hnone => absurd hnone ((hbusy d).mp (hleast d (hall d) hd))⟩,
      fun ⟨hc, _, hleast⟩ => ⟨hall c, hc, fun d _ hd => (hbusy d).mpr fun hnone => ?_⟩⟩
    have := (hleast d hd hnone).2
    omega
  · have hall : ∀ d : ChanId, d ∈ ([1, 2, 3] : List ChanId) ↔ d ≠ 0 := by decide
    rw [if_neg hcls, find?_eq_some_iff_least (by decide), hfree, hall]
    refine ⟨fun ⟨hne, hc, hleast⟩ => ⟨hc, fun _ => hne, fun d hd hnone => ⟨?_, by omega⟩⟩,
      fun ⟨hc, hne, hleast⟩ => ⟨hne (by omega), hc, fun d hd hlt => (hbusy d).mpr fun hnone => (hall d).mp hd (hleast d hlt hnone).1⟩⟩
    by_contra hd0
    exact (hbusy d).mp (hleast d ((hall d).mpr hd0) hd) hnone

theorem ownZoneOk_iff {s : State} {cls : Nat} {z : ZoneId} :
    s.ownZoneOk cls z = true ↔ (s.zone z).state = .idle ∨ ((s.zone z).state = .test ∧ cls ≤ 2)
      ∨ ∃ d : ChanId, (s.zone z).state = .held d ∧ ∃ i, s.chan d = some i ∧ Preempts cls i.cls := by
  unfold State.ownZoneOk
  cases hz : (s.zone z).state with
  | idle => simp
  | off => simp
  | test => simp [preempting]
  | held d =>
    cases hd : s.chan d with
    | none => simp [hd]
    | some i => simp [hd, outranks_iff]

theorem neighboursOk_iff {s : State} {cls : Nat} {zs : ZoneSet} {z : ZoneId} :
    s.neighboursOk cls zs z = true ↔ (∀ n ∈ s.cfg.localNeighbours z, n ∈ zs
        ∨ ∀ d : ChanId, (s.zone n).state = .held d → ∀ i, s.chan d = some i → Preempts cls i.cls)
      ∧ ∀ g ∈ s.cfg.remoteNeighbours z, ∀ o, s.occupant g = some o → Preempts cls o.cls := by
  unfold State.neighboursOk
  rw [Bool.and_eq_true, List.all_eq_true, List.all_eq_true]
  refine and_congr (forall₂_congr fun n _ => ?_) (forall₂_congr fun g _ => ?_)
  · rw [Bool.or_eq_true, List.contains_iff_mem]
    refine or_congr_right ?_
    unfold State.holder
    cases hn : (s.zone n).state with
    | idle => simp
    | off => simp
    | test => simp
    | held d =>
      cases hd : s.chan d with
      | none => simp [hd]
      | some i => simp [hd, outranks_iff]
  · cases hg : s.occupant g with
    | none => simp
    | some o => simp [outranks_iff]

theorem phaseOk_iff {s : State} {cls : Nat} :
    s.phaseOk cls = true ↔ s.startup.phase = .run ∨ (s.startup.phase = .joining ∧ cls ≤ 2) := by
  simp [State.phaseOk]

theorem isLive_iff {k : Key} : k.isLive = true ↔ ∃ desk, k = .live desk := by
  cases k <;> simp [Key.isLive]

/-- The tests that come before those of zones and channels: not-before, evacuation, phase, power (R97). -/
def Offered (s : State) (e : Entry) : Prop :=
  e.notBefore ≤ s.now ∧ s.evac.active = false ∧ (s.startup.phase = .run ∨ (s.startup.phase = .joining ∧ e.cls ≤ 2))

theorem verdict_of_early {s : State} {e : Entry} (h : ¬Offered s e) : s.verdict e = .pass := by
  unfold State.verdict
  by_cases hdue : s.now < e.notBefore
  · rw [if_pos hdue]
  rw [if_neg hdue]
  by_cases hactive : s.evac.active = true
  · rw [if_pos hactive]
  rw [if_neg hactive]
  have hphase : s.phaseOk e.cls = false := by
    rw [Bool.eq_false_iff, Ne, phaseOk_iff]
    exact fun hphase => h ⟨not_lt.mp hdue, by simpa using hactive, hphase⟩
  rw [hphase]
  rfl

theorem verdict_of_offered {s : State} {e : Entry} (h : Offered s e) :
    s.verdict e =
      if s.battery = true ∧ e.cls = 4 then .drop .suppressed
      else if s.effective e = [] then .drop .noZone
      else match s.channelFor e.cls with
        | none => .pass
        | some c =>
          if e.key.isLive = true ∧ s.liveInUse = true then .pass
          else if (∀ z ∈ s.effective e, s.ownZoneOk e.cls z = true) ∧ ∀ z ∈ s.effective e, s.neighboursOk e.cls (s.effective e) z = true
          then .go c (s.effective e) else .pass := by
  obtain ⟨hdue, hactive, hphase⟩ := h
  unfold State.verdict
  rw [if_neg (not_lt.mpr hdue), hactive, phaseOk_iff.mpr hphase]
  simp only [Bool.false_eq_true, if_false, Bool.not_true, Bool.and_eq_true, decide_eq_true_eq, List.isEmpty_iff, List.all_eq_true]
    <;> rfl

theorem effective_eq (s : State) (e : Entry) :
    s.effective e = e.mask.filter fun z => decide ((s.zone z).state ≠ .off) && !(s.zone z).ampFault := rfl

theorem effective_eq_nil_iff {s : State} {e : Entry} :
    s.effective e = [] ↔ ∀ z ∈ e.mask, (s.zone z).state = .off ∨ (s.zone z).ampFault = true := by
  rw [effective_eq, List.filter_eq_nil_iff]
  refine forall₂_congr fun z _ => ?_
  simp only [ne_eq, decide_not, Bool.and_eq_true, Bool.not_eq_true', decide_eq_false_iff_not, not_and, Bool.not_eq_false]
  exact ⟨fun h => or_iff_not_imp_left.mpr h, fun h => or_iff_not_imp_left.mp h⟩

/-- An entry is dispatched just when the nine tests pass (R97 to R99). -/
theorem verdict_go_iff {s : State} {e : Entry} {c : ChanId} {zs : ZoneSet} : s.verdict e = .go c zs ↔ s.Passes e c zs := by
  by_cases hoffered : Offered s e
  · rw [verdict_of_offered hoffered]
    obtain ⟨hdue, hactive, hphase⟩ := hoffered
    constructor
    · intro h
      split at h
      · cases h
      next hpower =>
        split at h
        · cases h
        next hsome =>
          split at h
          · cases h
          next d hd =>
            split at h
            · cases h
            next hlive =>
              split at h
              next htests =>
                cases h
                refine ⟨hdue, hactive, hphase, ?_, effective_eq s e, hsome, channelFor_iff.mp hd, fun hkey => ?_,
                  fun z hz => ownZoneOk_iff.mp (htests.1 z hz), fun z hz => (neighboursOk_iff.mp (htests.2 z hz)).1,
                  fun z hz => (neighboursOk_iff.mp (htests.2 z hz)).2⟩
                · by_cases hb : s.battery = true
                  · exact .inr fun hc => hpower ⟨hb, hc⟩
                  · exact .inl (by simpa using hb)
                · by_contra hused
                  exact hlive ⟨isLive_iff.mpr hkey, by simpa using hused⟩
              · cases h
    · intro h
      have hzs : s.effective e = zs := (effective_eq s e).trans h.effective.symm
      rw [hzs, channelFor_iff.mpr h.free, if_neg, if_neg h.some]
      · dsimp only
        rw [if_neg, if_pos]
        · exact ⟨fun z hz => ownZoneOk_iff.mpr (h.own z hz), fun z hz => neighboursOk_iff.mpr ⟨h.near z hz, h.far z hz⟩⟩
        · rintro ⟨hkey, hused⟩
          rw [h.live (isLive_iff.mp hkey)] at hused
          cases hused
      · rintro ⟨hb, hc⟩
        obtain hp | hp := h.power
        · rw [hp] at hb
          cases hb
        · exact hp hc
  · rw [verdict_of_early hoffered]
    exact ⟨(nomatch ·), fun h => absurd ⟨h.due, h.calm, h.phase⟩ hoffered⟩

/-! ### A walk over one entry that passes (R96, R100) -/

theorem pass_of_go {s : State} {e : Entry} {c : ChanId} {zs : ZoneSet} (h : s.verdict e = .go c zs) (rest : List Entry) :
    State.pass (e :: rest) s = (s.dispatch e c zs, true) := by
  rw [State.pass, h]

theorem pass_of_pass {s : State} {e : Entry} (h : s.verdict e = .pass) (rest : List Entry) : State.pass (e :: rest) s = State.pass rest s := by
  rw [State.pass, h]

theorem pass_of_drop {s : State} {e : Entry} {r : Result} (h : s.verdict e = .drop r) (rest : List Entry) :
    State.pass (e :: rest) s = State.pass rest (s.removeEntry e.key r) := by
  rw [State.pass, h]

theorem offerClaim_of_claim {s : State} {c : ChanId} {r : OwnClaim} (h : s.claimOf c = some r) :
    s.offerClaim c = (s.setClaim c (some { r with refreshAt := s.now + 8000 })).offer r.frame := by
  simp only [State.offerClaim, h]

theorem claimOf_of_tells {s t : State} (h : Tells s t) (c : ChanId) : t.claimOf c = s.claimOf c := by
  rw [State.claimOf, h.sends.claims]
  rfl

theorem chan_of_tells {s t : State} (h : Tells s t) (c : ChanId) : t.chan c = s.chan c := by
  rw [State.chan, h.sends.chans]
  rfl

theorem claimOf_offerClaim {s : State} {c : ChanId} {r : OwnClaim} (h : s.claimOf c = some r) :
    (s.offerClaim c).claimOf c = some { r with refreshAt := s.now + 8000 } := by
  rw [offerClaim_of_claim h, claimOf_of_tells (tells_offer _ _)]
  exact claimOf_setClaim_self _ _ _

theorem chan_offerClaim (s : State) (c d : ChanId) : (s.offerClaim c).chan d = s.chan d := by
  unfold State.offerClaim
  split
  · rfl
  · exact chan_of_tells (tells_offer _ _) d

theorem chan_makeClaim (s : State) (c d : ChanId) (tag cls : Nat) (deadline : Option Nat) :
    (s.makeClaim c tag cls deadline).chan d = s.chan d := by
  unfold State.makeClaim
  dsimp only
  split
  · rfl
  · exact chan_offerClaim _ c d

theorem claimOf_makeClaim {s : State} {c : ChanId} (h : s.heldBy c ≠ []) (tag cls : Nat) (deadline : Option Nat) :
    ((s.makeClaim c tag cls deadline).claimOf c).isSome = true := by
  unfold State.makeClaim
  dsimp only
  rw [if_neg (by simpa using h), claimOf_offerClaim (claimOf_setClaim_self _ _ _)]
  rfl

theorem mem_heldBy_iff {s : State} {c : ChanId} {z : ZoneId} : z ∈ s.heldBy c ↔ (s.zone z).state = .held c := by
  simp [State.heldBy, mem_allZones]

section
variable (s : State) (e : Entry) (c : ChanId) (zs : ZoneSet) (words : List Nat)

theorem state_launch {z : ZoneId} (hz : z ∈ zs) : ((s.launch e c zs words).zone z).state = .held c := by
  have hend : ((seated s e c zs words).zone z).state = (((cleared s e.cls zs).hold c zs).zone z).state :=
    ((calm_groupEnded _).zone z).2
  rw [((calm_after_seated s e c zs words).zone z).2, hend, zone_hold, if_pos hz]

theorem chan_launch : (s.launch e c zs words).chan c = some (launched s e c zs words) := by
  rw [launch_eq, chan_makeClaim]
  exact chan_setChan_self _ c _

theorem claimOf_launch (hzs : zs ≠ []) : ((s.launch e c zs words).claimOf c).isSome = true := by
  obtain ⟨z, hz⟩ := List.exists_mem_of_ne_nil zs hzs
  rw [launch_eq]
  refine claimOf_makeClaim (fun hnil => ?_) _ _ _
  have hend : ((seated s e c zs words).zone z).state = (((cleared s e.cls zs).hold c zs).zone z).state :=
    ((calm_groupEnded _).zone z).2
  rw [zone_hold, if_pos hz] at hend
  exact List.eq_nil_iff_forall_not_mem.mp hnil z (mem_heldBy_iff.mpr hend)

theorem entries_launch : (s.launch e c zs words).queue.entries.Sublist (s.queue.entries.filter fun f => decide (f.key ≠ e.key)) := by
  rw [launch_eq]
  refine List.Sublist.trans (l₂ := (seated s e c zs words).queue.entries.filter fun f => decide (f.key ≠ e.key)) ?_
    ((entries_seated words).filter _)
  have hchan : (((seated s e c zs words).setCont c
      (some { entry := e, dispatchedAt := (seated s e c zs words).now, renewal := none, stopMark := none })).dropEntry e.key).chan c
      = some (launched s e c zs words) := chan_setChan_self _ c _
  exact (calm_makeClaim hchan (fun h => nomatch h) _ _ _).entries

end

/-- What the walk does after its last pass touches no channel, claim record, zone or entry. -/
theorem walk_eq_of_walkN {s t : State} (h : State.walkN (s.queue.entries.length + 1) s = t) :
    s.walk = { t with queue := { t.queue with walkedAt := t.now }, port := s.walk.port, levels := s.walk.levels } := by
  have hwalk : s.walk = ({ t with queue := { t.queue with walkedAt := t.now } } : State).arbitrate.settleGates := by
    unfold State.walk
    rw [h]
  rw [hwalk]
  conv_lhs => rw [settleGates_eq, arbitrate_eq]
  conv_rhs => rw [settleGates_eq, arbitrate_eq]

theorem pass_nil (s : State) : State.pass [] s = (s, false) := rfl

/-- Settles O40: a verdict is GO just when the nine tests pass, and a dispatch puts the entry on its channel. -/
theorem dispatchTests : Obligations.DispatchTests := by
  refine ⟨fun s e rest c zs h => pass_of_go (verdict_go_iff.mpr h) rest, fun s e rest hno => ⟨fun hearly => ?_, fun hdue hcalm hphase => ?_⟩,
    fun s e c zs hentries hpasses hwords => ?_⟩
  · refine pass_of_pass (verdict_of_early fun ⟨hdue, hcalm, hphase⟩ => ?_) rest
    obtain h | h | h := hearly
    · omega
    · rw [hcalm] at h
      cases h
    · exact h hphase
  · have hverdict := verdict_of_offered (s := s) (e := e) ⟨hdue, hcalm, hphase⟩
    refine ⟨fun hb hc => ?_, fun hpower => ⟨fun hnone => ?_, fun hsome => ?_⟩⟩
    · rw [if_pos ⟨hb, hc⟩] at hverdict
      exact pass_of_drop hverdict rest
    all_goals
      have hpower' : ¬(s.battery = true ∧ e.cls = 4) := by
        rintro ⟨hb, hc⟩
        obtain h | h := hpower
        · rw [hb] at h
          cases h
        · exact h hc
      rw [if_neg hpower'] at hverdict
    · rw [if_pos (effective_eq_nil_iff.mpr hnone)] at hverdict
      exact pass_of_drop hverdict rest
    · have hne : s.effective e ≠ [] := fun hnil => by
        obtain ⟨z, hz, hoff, hamp⟩ := hsome
        obtain h | h := effective_eq_nil_iff.mp hnil z hz
        · exact hoff h
        · rw [hamp] at h
          cases h
      rw [if_neg hne] at hverdict
      refine pass_of_pass ?_ rest
      cases hv : s.verdict e with
      | pass => rfl
      | go c zs => exact absurd (verdict_go_iff.mp hv) (hno c zs)
      | drop r =>
        rw [hverdict] at hv
        split at hv
        · cases hv
        · split at hv
          · cases hv
          · split at hv <;> cases hv
  · obtain ⟨words, hw⟩ := Option.isSome_iff_exists.mp hwords
    have hgo := verdict_go_iff.mpr hpasses
    have hpair : s.words e = ((s.words e).1, some words) := Prod.ext rfl hw
    have hcalm := calm_words hpair
    have hdispatch : s.dispatch e c zs = (s.words e).1.launch e c zs words := by
      unfold State.dispatch
      rw [hpair]
    have hempty : ((s.words e).1.launch e c zs words).queue.entries = [] := by
      have hsub := (entries_launch (s.words e).1 e c zs words).trans (hcalm.entries.filter _)
      rw [hentries] at hsub
      simpa using hsub
    have hwalkN : State.walkN (s.queue.entries.length + 1) s = (s.words e).1.launch e c zs words := by
      rw [hentries, List.length_singleton, State.walkN, hentries, pass_of_go hgo, hdispatch]
      dsimp only
      rw [State.walkN, hempty, pass_nil]
    have hwalk := walk_eq_of_walkN hwalkN
    have hchan (d : ChanId) : s.walk.chan d = ((s.words e).1.launch e c zs words).chan d := by rw [hwalk]; rfl
    have hzone (z : ZoneId) : s.walk.zone z = ((s.words e).1.launch e c zs words).zone z := by rw [hwalk]; rfl
    refine ⟨launched (s.words e).1 e c zs words, (hchan c).trans (chan_launch _ _ _ _ _), rfl, rfl, rfl, rfl, fun z hz => ?_, ?_, ?_⟩
    · rw [hzone]
      exact state_launch _ _ _ _ _ hz
    · have hclaim := claimOf_launch (s.words e).1 e c zs words hpasses.some
      rw [hwalk]
      exact hclaim
    · rw [hwalk]
      exact hempty

end Sys2Proof.Proofs.QueueRules
end

section
/-! The occupancy table, crossing claims and the deadlines of own claims (R109, R111, R114 to R123, R144). -/

namespace Sys2Proof.Proofs.ClaimRules

open Sys2Proof.Machine
open Sys2Proof.Proofs.LiveClose Sys2Proof.Proofs.Faults Sys2Proof.Proofs.Upkeep Sys2Proof.Proofs.Uphold Sys2Proof.Proofs.CallRules
open Sys2Proof.Proofs.Commands Sys2Proof.Proofs.Steps Sys2Proof.Proofs.Reports Sys2Proof.Proofs.Starting Sys2Proof.Proofs.Transmit
open Sys2Proof.Proofs.LineRules Sys2Proof.Proofs.FaultRules Sys2Proof.Proofs.QueueRules

/-! ### The gates at the end of an event (R143, R144) -/

/-- What a discard leaves of a zone's items (R144). -/
def gateDiscarded (l : Level) : Level := { l with gate := none, user := if l.user = .noise then .free else l.user }

theorem settleGate_cases (s : State) (z : ZoneId) :
    (s.silentAround z = true ∧ (s.settleGate z = s
        ∨ s.settleGate z = s.setLevel z fun l => { l with
            count := 0, overflow := false, user := .noise, gate := some { startAt := s.now, endAt := s.now + s.cfg.gateLength } }))
    ∨ (s.silentAround z = false ∧ s.settleGate z = if (s.level z).gate.isSome then s.setLevel z gateDiscarded else s) := by
  cases hsilent : s.silentAround z with
  | true =>
    left
    refine ⟨rfl, ?_⟩
    unfold State.settleGate
    rw [hsilent, Bool.not_true, Bool.and_false, if_neg Bool.false_ne_true]
    dsimp only
    split
    · exact .inr rfl
    · exact .inl rfl
  | false =>
    right
    refine ⟨rfl, ?_⟩
    have hmay (t : State) (ht : t.silentAround z = false) : t.gateMayStart z = false := by rw [State.gateMayStart, ht, Bool.and_false]
    unfold State.settleGate
    rw [hsilent, Bool.not_false, Bool.and_true]
    dsimp only
    split
    · rw [if_neg]
      · rfl
      · exact ne_true_of_eq_false (hmay (s.setLevel z gateDiscarded) hsilent)
    · rw [if_neg (ne_true_of_eq_false (hmay s hsilent))]

theorem level_settleGate_of_ne (s : State) {z y : ZoneId} (h : y ≠ z) : (s.settleGate z).level y = s.level y := by
  obtain ⟨-, hsame | hstart⟩ | ⟨-, hdiscard⟩ := settleGate_cases s z
  · rw [hsame]
  · rw [hstart, level_setLevel_of_ne _ _ _ _ h.symm]
  · rw [hdiscard]
    split
    · exact level_setLevel_of_ne _ _ _ _ h.symm
    · rfl

/-- Silence is a matter of zones, configuration and claims, which the gates leave alone. -/
theorem silentAround_settleGates (s : State) (z : ZoneId) : s.settleGates.silentAround z = s.silentAround z := by
  have hlevels (l : Vector Level 8) : ({ s with levels := l } : State).silentAround z = s.silentAround z := rfl
  rw [settleGates_eq, hlevels]

theorem gate_settleGate_of_loud {s : State} {z : ZoneId} (h : s.silentAround z = false) : ((s.settleGate z).level z).gate = none := by
  obtain ⟨hsilent, -⟩ | ⟨-, hdiscard⟩ := settleGate_cases s z
  · rw [h] at hsilent
    cases hsilent
  · rw [hdiscard]
    split
    · rw [level_setLevel_self]
      rfl
    next hnone => simpa using hnone

theorem gate_settleGate_of_silent {s : State} {z : ZoneId} (h : s.silentAround z = true) (hgate : (s.level z).gate.isSome = true) :
    ((s.settleGate z).level z).gate.isSome = true := by
  obtain ⟨-, hsame | hstart⟩ | ⟨hloud, -⟩ := settleGate_cases s z
  · rwa [hsame]
  · rw [hstart, level_setLevel_self]
    rfl
  · rw [h] at hloud
    cases hloud

theorem silentAround_of_levels {s t : State} (h : t = { s with levels := t.levels }) (z : ZoneId) : t.silentAround z = s.silentAround z := by
  have hlevels (l : Vector Level 8) : ({ s with levels := l } : State).silentAround z = s.silentAround z := rfl
  rw [h, hlevels]

/-- The gates are settled zone by zone: what settling one zone's gate gives it, settling them all gives it. -/
theorem level_settleGates {P : Level → Prop} {s : State} {z : ZoneId}
    (h : ∀ t : State, t = { s with levels := t.levels } → t.level z = s.level z → P ((t.settleGate z).level z)) :
    P (s.settleGates.level z) := by
  have hall (l : List ZoneId) (t : State) (ht : t = { s with levels := t.levels }) (hnodup : l.Nodup) :
      (z ∉ l → (l.foldl State.settleGate t).level z = t.level z)
      ∧ (z ∈ l → t.level z = s.level z → P ((l.foldl State.settleGate t).level z)) := by
    induction l generalizing t with
    | nil => exact ⟨fun _ => rfl, fun hz => nomatch hz⟩
    | cons y rest ih =>
      obtain ⟨hy, hrest⟩ := List.nodup_cons.mp hnodup
      have hstep : t.settleGate y = { s with levels := (t.settleGate y).levels } :=
        (settleGate_eq t y).trans (congrArg (fun v : State => { v with levels := (t.settleGate y).levels }) ht)
      obtain ⟨hout, hin⟩ := ih (t.settleGate y) hstep hrest
      refine ⟨fun hz => ?_, fun hz hlevel => ?_⟩
      · rw [List.mem_cons, not_or] at hz
        exact (hout hz.2).trans (level_settleGate_of_ne t hz.1)
      · obtain rfl | hz := List.mem_cons.mp hz
        · rw [List.foldl_cons, hout hy]
          exact h t ht hlevel
        · have hne : z ≠ y := fun e => hy (e ▸ hz)
          exact hin hz ((level_settleGate_of_ne t hne).trans hlevel)
  exact (hall allZones s rfl (by decide)).2 (mem_allZones z) rfl

theorem gate_settleGates_of_loud {s : State} {z : ZoneId} (h : s.silentAround z = false) : (s.settleGates.level z).gate = none :=
  level_settleGates (P := fun l => l.gate = none) fun _ ht _ => gate_settleGate_of_loud ((silentAround_of_levels ht z).trans h)

theorem gate_settleGates_of_silent {s : State} {z : ZoneId} (h : s.silentAround z = true) (hgate : (s.level z).gate.isSome = true) :
    (s.settleGates.level z).gate.isSome = true :=
  level_settleGates (P := fun l => l.gate.isSome = true) fun _ ht hlevel =>
    gate_settleGate_of_silent ((silentAround_of_levels ht z).trans h) (by rwa [hlevel])

/-! ### The occupancy table (R114 to R117) -/

theorem hear_eq (o : OccSlot) (x : ClaimFields) (src now : Nat) :
    o.hear x src now = if o.zone ∈ x.zones ∧ o.zone / 8 = src ∧ o.takes (x.occupant src now) = true
      then { o with occupant := some (x.occupant src now) } else o := by
  unfold OccSlot.hear
  simp only [Bool.and_eq_true, List.contains_iff_mem, decide_eq_true_eq, and_assoc]

theorem matches_eq (o : OccSlot) (src tag : Nat) : o.matches src tag = o.occupant.any fun b => decide (b.owner = src ∧ b.tag = tag) := by
  unfold OccSlot.matches
  refine congrArg (o.occupant.any ·) (funext fun b => ?_)
  rw [Bool.decide_and]

theorem any_matches_iff {l : List OccSlot} {src tag : Nat} :
    (l.any fun o => o.matches src tag) = true ↔ ∃ o ∈ l, ∃ b, o.occupant = some b ∧ b.owner = src ∧ b.tag = tag := by
  simp only [List.any_eq_true, OccSlot.matches, Option.any_eq_true, Bool.and_eq_true, decide_eq_true_eq]

theorem takes_iff {o : OccSlot} {b n : Occupant} (h : o.occupant = some b) :
    o.takes n = true ↔ b.owner = n.owner ∨ n.cls < b.cls
      ∨ (n.cls = b.cls ∧ (n.established = true ∧ b.established = false ∨ n.established = b.established ∧ n.owner < b.owner)) := by
  simp [OccSlot.takes, h, Occupant.above]

theorem takes_of_empty {o : OccSlot} (h : o.occupant = none) (n : Occupant) : o.takes n = true := by
  simp only [OccSlot.takes, h]

/-! ### Judging a CLAIM (R118 to R123) -/

theorem judge_of_unclaimed {s : State} {x : ClaimFields} {src : Nat} {c : ChanId} (h : s.claimOf c = none) : s.judge x src c = s := by
  simp only [State.judge, State.decision, h]

theorem judge_of_decision {s : State} {x : ClaimFields} {src : Nat} {c : ChanId} {d : Decision} (h : s.decision x src c = some d) :
    s.judge x src c = s.carryOut c d := by
  simp only [State.judge, h]

theorem judge_of_no_decision {s : State} {x : ClaimFields} {src : Nat} {c : ChanId} (h : s.decision x src c = none) : s.judge x src c = s := by
  simp only [State.judge, h]

theorem offerClaim_of_unclaimed {s : State} {c : ChanId} (h : s.claimOf c = none) : s.offerClaim c = s := by
  simp only [State.offerClaim, h]

theorem claimOf_offerClaim_of_ne (s : State) {c d : ChanId} (h : d ≠ c) : (s.offerClaim c).claimOf d = s.claimOf d := by
  obtain hnone | ⟨r, hr⟩ := Option.eq_none_or_eq_some (s.claimOf c)
  · rw [offerClaim_of_unclaimed hnone]
  · rw [offerClaim_of_claim hr, claimOf_of_tells (tells_offer _ _), claimOf_setClaim_of_ne _ _ _ _ h.symm]

theorem enterTail_of_free {s : State} {c : ChanId} (h : s.chan c = none) (o : Ending) : s.enterTail c o = s := by
  simp only [State.enterTail, h]

theorem claimOf_endTail_of_ne (s : State) {c d : ChanId} (o : Ending) (h : d ≠ c) : (s.enterTail c o).claimOf d = s.claimOf d := by
  obtain hnone | ⟨i, hi⟩ := Option.eq_none_or_eq_some (s.chan c)
  · rw [enterTail_of_free hnone]
  · by_cases htail : i.state = .tail
    · rw [enterTail_of_tail o hi htail]
    · exact claimOf_enterTail_of_ne o hi htail h

theorem claimOf_judge_of_ne (s : State) (x : ClaimFields) (src : Nat) {c d : ChanId} (h : d ≠ c) :
    (s.judge x src c).claimOf d = s.claimOf d := by
  obtain hnone | ⟨m, hm⟩ := Option.eq_none_or_eq_some (s.decision x src c)
  · rw [judge_of_no_decision hnone]
  · rw [judge_of_decision hm]
    match m with
    | .withdraw => exact claimOf_endTail_of_ne s _ h
    | .preempted => exact claimOf_endTail_of_ne s _ h
    | .assert => exact claimOf_offerClaim_of_ne s h
    | .contested => rfl

theorem judgeAll_of_unclaimed {s : State} (x : ClaimFields) (src : Nat) (h : ∀ c : ChanId, s.claimOf c = none) : s.judgeAll x src = s := by
  have hfold : allChans.foldl (fun s c => s.judge x src c) s = s :=
    List.foldlRecOn (motive := fun t : State => t = s) allChans _ rfl fun t ht c _ => by
      rw [ht]
      exact judge_of_unclaimed (h c)
  have hnone : (allChans.any fun c => decide (s.decision x src c = some .contested)) = false := by
    rw [List.any_eq_false]
    intro c _
    simp [State.decision, h c]
  unfold State.judgeAll
  rw [hfold, hnone]
  rfl

/-- Settles O41. -/
theorem claimTaken : Obligations.ClaimTaken := by
  refine ⟨fun dst src payload s x hreach hread hclaims => ?_, fun o b n => ⟨fun h => takes_of_empty h n, takes_iff⟩,
    fun dst src payload s tag hreach hread => ?_, fun zone s b hawake hocc => ?_⟩
  · have hexec := exec_reaches hreach hread (y := exec (.claim dst src payload) s) rfl
    have hhear : s.taken.hearClaim src.toNat x = (s.taken.mapOccupancy fun o => o.hear x src.toNat s.now).settleGates :=
      congrArg State.settleGates (judgeAll_of_unclaimed (s := s.taken.mapOccupancy fun o => o.hear x src.toNat s.now) x _ hclaims)
    rw [hhear] at hexec
    have hframe := settleGates_eq (s.taken.mapOccupancy fun o => o.hear x src.toNat s.now)
    refine ⟨_, hexec, ?_, fun z hz => ?_, fun z hz hgate => ?_, ?_⟩
    · refine (congrArg (·.claims.occupancy) hframe).trans ?_
      refine congrArg (s.claims.occupancy.map ·) (funext fun o => ?_)
      exact hear_eq o x src.toNat s.now
    · rw [silentAround_settleGates] at hz
      exact gate_settleGates_of_loud hz
    · rw [silentAround_settleGates] at hz
      exact gate_settleGates_of_silent hz hgate
    · generalize (s.taken.mapOccupancy fun o => o.hear x src.toNat s.now).settleGates = t at hframe
      rw [hframe]
      rfl
  · have hexec := exec_reaches hreach hread (y := exec (.release dst src payload) s) rfl
    rw [hexec]
    refine ⟨fun hnone => ?_, fun hsome => ?_⟩
    · have hany : ¬(s.claims.occupancy.any fun o => o.matches src.toNat tag) = true := by
        rw [any_matches_iff]
        rintro ⟨o, ho, b, hb, howner, htag⟩
        obtain h | h := hnone o ho b hb
        · exact h howner
        · exact h htag
      exact congrArg _ (if_neg hany)
    · refine congrArg _ ((if_pos (any_matches_iff.mpr hsome)).trans ?_)
      simp only [State.mapOccupancy, matches_eq]
      rfl
  · have hexec : exec (.occupancyExpiry zone) s = .next (s.occupancyExpired zone.toNat) := exec_awake hawake rfl
    rw [hexec]
    simp only [State.occupancyExpired, hocc]
    rfl

/-! ### The CLAIM in the queue (R108, R109, R13) -/

/-- A frame carries the CLAIM of a record: what `State.Carries` asks of a frame of the queue, with the rank that spares it an eviction. -/
structure Bears (r : OwnClaim) (f : TxFrame) : Prop where
  kind : f.kind = .claim
  tag : f.tag = some r.tag
  dest : f.dest = 0
  access : f.access ≤ 2
  payload : (if f.sending then f.successor else some f.payload)
    = some ([byte r.tag, byte r.cls, if r.established then 1#8 else 0#8, byte r.zones.length] ++ r.zones.map byte)

theorem Bears.kept {r : OwnClaim} {f : TxFrame} (h : Bears r f) : f.evictable = false := by
  rw [Bool.eq_false_iff, Ne, evictable_iff]
  have haccess := h.access
  omega

theorem claimPayload_eq (r : OwnClaim) : claimPayload r.tag r.cls r.established r.zones
    = [byte r.tag, byte r.cls, if r.established then 1#8 else 0#8, byte r.zones.length] ++ r.zones.map byte := by
  cases hest : r.established <;> rfl

theorem claimAccess_le (cls : Nat) : claimAccess cls ≤ 2 := by
  unfold claimAccess
  split
  · decide
  · split <;> decide

theorem bears_frame (r : OwnClaim) : Bears r r.frame where
  kind := rfl
  tag := rfl
  dest := rfl
  access := claimAccess_le r.cls
  payload := congrArg some (claimPayload_eq r)

/-- A CLAIM offered is carried: it renews the one of its tag, or it joins (R13). -/
theorem bears_txClaim {s : State} (hopen : s.ClaimsOpen) (r : OwnClaim) : ∃ f ∈ (s.txClaim r.frame).link.queue, Bears r f := by
  unfold State.txClaim
  split
  next hwaiting =>
    obtain ⟨g, hg, hclaim⟩ := List.any_eq_true.mp hwaiting
    obtain ⟨hkind, htag⟩ := isClaimOf_iff.mp hclaim
    obtain ⟨hdest, haccess⟩ := hopen.claims g hg hkind
    refine ⟨_, List.mem_map.mpr ⟨g, hg, rfl⟩, ?_⟩
    rw [if_pos hclaim]
    cases hsending : g.sending with
    | true =>
      rw [if_pos rfl]
      refine ⟨hkind, htag, hdest, haccess, (if_pos rfl).trans (congrArg some (claimPayload_eq r))⟩
    | false =>
      rw [if_neg Bool.false_ne_true]
      refine ⟨hkind, htag, hdest, haccess, (if_neg Bool.false_ne_true).trans (congrArg some (claimPayload_eq r))⟩
  next =>
    rw [txInsert_of_room hopen.room]
    obtain ⟨hkind, htag, hdest, haccess, hpayload⟩ := bears_frame r
    exact ⟨_, mem_insertFrame.mpr (.inl rfl), hkind, htag, hdest, haccess, hpayload⟩

theorem carries_offerClaim {s : State} {c : ChanId} {r : OwnClaim} (h : s.claimOf c = some r) (hopen : s.ClaimsOpen) :
    (s.offerClaim c).Carries r := by
  rw [offerClaim_of_claim h]
  have hopen' : (s.setClaim c (some { r with refreshAt := s.now + 8000 })).ClaimsOpen := ⟨hopen.linked, hopen.room, hopen.claims⟩
  have hoffer : (s.setClaim c (some { r with refreshAt := s.now + 8000 })).txOffer r.frame
      = (s.setClaim c (some { r with refreshAt := s.now + 8000 })).txClaim r.frame := txOffer_claim hopen.linked rfl
  obtain ⟨f, hf, hbears⟩ := bears_txClaim hopen' r
  refine ⟨f, mem_pump_of_kept (by rw [hoffer]; exact hf) hbears.kept, hbears.kind, hbears.tag, hbears.dest, hbears.payload⟩

/-! ### The judgement of a CLAIM (R118 to R123) -/

theorem conflicts_iff {s : State} {x : ClaimFields} {c : ChanId} {r : OwnClaim} : s.conflicts x c r = true ↔ s.Conflict x c r.cls := by
  simp [State.conflicts, State.Conflict, mem_heldBy_iff, imp_iff_not_or]

theorem judgeEarly_of_yields {x : ClaimFields} {src cls nodeId : Nat} (h : YieldsEarly x src cls nodeId) :
    judgeEarly x src cls nodeId = .withdraw := by
  unfold YieldsEarly at h
  unfold judgeEarly
  cases hest : x.established with
  | true =>
    rw [hest, if_pos rfl, ← outranks_iff] at h
    rw [if_pos rfl, if_neg h]
  | false =>
    rw [hest, if_neg Bool.false_ne_true] at h
    rw [if_neg Bool.false_ne_true, if_pos h]

theorem judgeEarly_of_not_yields {x : ClaimFields} {src cls nodeId : Nat} (h : ¬YieldsEarly x src cls nodeId) :
    judgeEarly x src cls nodeId = .assert := by
  unfold YieldsEarly at h
  unfold judgeEarly
  cases hest : x.established with
  | true =>
    rw [hest, if_pos rfl, not_not, ← outranks_iff] at h
    rw [if_pos rfl, if_pos h]
  | false =>
    rw [hest, if_neg Bool.false_ne_true] at h
    rw [if_neg Bool.false_ne_true, if_neg h]

theorem judgeLate_of_preempts {x : ClaimFields} {cls : Nat} (h : Preempts x.cls cls) : judgeLate x cls = .preempted :=
  if_pos (outranks_iff.mpr h)

theorem judgeLate_of_contested {x : ClaimFields} {cls : Nat} (h : ¬Preempts x.cls cls) (hown : ¬Preempts cls x.cls) (hest : x.established = true) :
    judgeLate x cls = .contested := by
  rw [← outranks_iff] at h hown
  rw [judgeLate, if_neg h, if_neg hown, if_pos hest]

theorem judgeLate_of_asserted {x : ClaimFields} {cls : Nat} (h : ¬Preempts x.cls cls) (hown : Preempts cls x.cls ∨ x.established = false) :
    judgeLate x cls = .assert := by
  rw [← outranks_iff] at h
  rw [judgeLate, if_neg h]
  split
  · rfl
  next hout =>
    obtain hp | hest := hown
    · exact absurd (outranks_iff.mpr hp) hout
    · rw [if_neg (by rw [hest]; exact Bool.false_ne_true)]

section
variable {s : State} {x : ClaimFields} {src : Nat} {c : ChanId} {r : OwnClaim} {i : ChanInst}

theorem decision_early (hclaim : s.claimOf c = some r) (hchan : s.chan c = some i) (hconflict : s.Conflict x c r.cls)
    (hstate : i.state = .claiming ∨ i.state = .leadIn) : s.decision x src c = some (judgeEarly x src i.cls s.cfg.nodeId) := by
  simp only [State.decision, hclaim, hchan, if_pos (conflicts_iff.mpr hconflict)]
  obtain h | h := hstate <;> rw [h]

theorem decision_late (hclaim : s.claimOf c = some r) (hchan : s.chan c = some i) (hconflict : s.Conflict x c r.cls)
    (hstate : i.state = .speaking ∨ i.state = .live) : s.decision x src c = some (judgeLate x i.cls) := by
  simp only [State.decision, hclaim, hchan, if_pos (conflicts_iff.mpr hconflict)]
  obtain h | h := hstate <;> rw [h]

theorem mem_allChans (c : ChanId) : c ∈ allChans := by
  revert c
  decide

/-- With one own claim, judging every channel is judging its channel. -/
theorem foldl_judge_of_alone (halone : ∀ d : ChanId, d ≠ c → s.claimOf d = none) :
    allChans.foldl (fun t d => t.judge x src d) s = s.judge x src c := by
  have hskip (l : List ChanId) (t : State) (ht : ∀ d : ChanId, d ≠ c → t.claimOf d = none) (hl : c ∉ l) :
      l.foldl (fun t d => t.judge x src d) t = t :=
    List.foldlRecOn (motive := fun u : State => u = t) l _ rfl fun u hu d hd => by
      rw [hu]
      exact judge_of_unclaimed (ht d fun e => hl (e ▸ hd))
  have hall (l : List ChanId) (hnodup : l.Nodup) (hl : c ∈ l) : l.foldl (fun t d => t.judge x src d) s = s.judge x src c := by
    induction l with
    | nil => cases hl
    | cons d rest ih =>
      obtain ⟨hd, hrest⟩ := List.nodup_cons.mp hnodup
      rw [List.foldl_cons]
      by_cases hdc : d = c
      · subst hdc
        exact hskip rest _ (fun e he => (claimOf_judge_of_ne s x src he).trans (halone e he)) hd
      · rw [judge_of_unclaimed (halone d hdc)]
        exact ih hrest ((List.mem_cons.mp hl).resolve_left (Ne.symm hdc))
  exact hall allChans (by decide) (mem_allChans c)

theorem judgeAll_of_alone {m : Decision} (halone : ∀ d : ChanId, d ≠ c → s.claimOf d = none) (hdecision : s.decision x src c = some m) :
    s.judgeAll x src = if m = .contested then (s.carryOut c m).count .contested else s.carryOut c m := by
  have hany : (allChans.any fun d => decide (s.decision x src d = some .contested)) = decide (m = .contested) := by
    rw [Bool.eq_iff_iff, List.any_eq_true, decide_eq_true_iff]
    refine ⟨fun ⟨d, _, hd⟩ => ?_, fun hm => ⟨c, mem_allChans c, by rw [hdecision, hm]; decide⟩⟩
    rw [decide_eq_true_iff] at hd
    by_cases hdc : d = c
    · rw [hdc, hdecision] at hd
      exact Option.some.inj hd
    · simp [State.decision, halone d hdc] at hd
  unfold State.judgeAll
  rw [foldl_judge_of_alone halone, hany, judge_of_decision hdecision]
  simp only [decide_eq_true_iff]

end

/-- What a CLAIM reaches beyond the occupancy table: what a judged CLAIM keeps (R122, R123). -/
structure Judged (s t : State) : Prop where
  zones : t.zones = s.zones
  calls : t.calls = s.calls
  queue : t.queue = s.queue
  clock : t.clock = s.clock
  evac : t.evac = s.evac

namespace Judged

theorem refl (s : State) : Judged s s := ⟨rfl, rfl, rfl, rfl, rfl⟩

theorem trans {s t u : State} (h : Judged s t) (k : Judged t u) : Judged s u :=
  ⟨k.zones.trans h.zones, k.calls.trans h.calls, k.queue.trans h.queue, k.clock.trans h.clock, k.evac.trans h.evac⟩

end Judged

theorem judged_settleGates {s t : State} (h : Judged s t) : Judged s t.settleGates := by
  have hframe := settleGates_eq t
  generalize t.settleGates = u at hframe ⊢
  rw [hframe]
  exact ⟨h.zones, h.calls, h.queue, h.clock, h.evac⟩

theorem judged_enterTail (s : State) (c : ChanId) (o : Ending) : Judged s (s.enterTail c o) := by
  obtain hnone | ⟨i, hi⟩ := Option.eq_none_or_eq_some (s.chan c)
  · rw [enterTail_of_free hnone]
    exact Judged.refl s
  · by_cases htail : i.state = .tail
    · rw [enterTail_of_tail o hi htail]
      exact Judged.refl s
    · have hkeeps := keeps_enterTail s c o
      exact ⟨zones_enterTail o hi htail, hkeeps.calls, queue_enterTail o hi htail, hkeeps.clock, hkeeps.evac⟩

theorem judged_offerClaim (s : State) (c : ChanId) : Judged s (s.offerClaim c) := by
  obtain hnone | ⟨r, hr⟩ := Option.eq_none_or_eq_some (s.claimOf c)
  · rw [offerClaim_of_unclaimed hnone]
    exact Judged.refl s
  · rw [offerClaim_of_claim hr]
    have hsends := (tells_offer (s.setClaim c (some { r with refreshAt := s.now + 8000 })) r.frame).sends
    exact ⟨hsends.zones, hsends.calls, hsends.queue, hsends.clock, hsends.evac⟩

theorem judged_carryOut (s : State) (c : ChanId) : ∀ m : Decision, Judged s (s.carryOut c m)
  | .withdraw => judged_enterTail s c .withdrawn
  | .preempted => judged_enterTail s c .preempted
  | .assert => judged_offerClaim s c
  | .contested => Judged.refl s

theorem judged_judge (s : State) (x : ClaimFields) (src : Nat) (c : ChanId) : Judged s (s.judge x src c) := by
  obtain hnone | ⟨m, hm⟩ := Option.eq_none_or_eq_some (s.decision x src c)
  · rw [judge_of_no_decision hnone]
    exact Judged.refl s
  · rw [judge_of_decision hm]
    exact judged_carryOut s c m

theorem judged_judgeAll (s : State) (x : ClaimFields) (src : Nat) : Judged s (s.judgeAll x src) := by
  have hfold : Judged s (allChans.foldl (fun t c => t.judge x src c) s) :=
    List.foldlRecOn (motive := Judged s) allChans _ (Judged.refl s) fun t ht c _ => ht.trans (judged_judge t x src c)
  unfold State.judgeAll
  dsimp only
  generalize allChans.foldl (fun t c => t.judge x src c) s = t at hfold
  split
  · exact ⟨hfold.zones, hfold.calls, hfold.queue, hfold.clock, hfold.evac⟩
  · exact hfold

theorem counter_carryOut (s : State) (c : ChanId) {i : Fin 16} (h : Counter.txDropped.idx ≠ i) (m : Decision) :
    (s.carryOut c m).counters[i] = s.counters[i] := by
  have htails (o : Ending) : (s.enterTail c o).counters[i] = s.counters[i] := by
    obtain hnone | ⟨j, hj⟩ := Option.eq_none_or_eq_some (s.chan c)
    · rw [enterTail_of_free hnone]
    · by_cases htail : j.state = .tail
      · rw [enterTail_of_tail o hj htail]
      · exact (offersOnly_enterTail o hj htail).counters i h
  match m with
  | .withdraw => exact htails .withdrawn
  | .preempted => exact htails .preempted
  | .contested => rfl
  | .assert =>
    obtain hnone | ⟨r, hr⟩ := Option.eq_none_or_eq_some (s.claimOf c)
    · exact congrArg (·.counters[i]) (offerClaim_of_unclaimed hnone)
    · have hoffer : s.carryOut c .assert = _ := offerClaim_of_claim hr
      rw [hoffer]
      exact (offersOnly_offer _ _).counters i h

/-- CONTESTED is counted once, however many instances the CLAIM meets (R120). -/
theorem contested_judgeAll {s : State} {x : ClaimFields} {src : Nat} {c : ChanId} (h : s.decision x src c = some .contested) :
    (s.judgeAll x src).counters[(14 : Fin 16)] = min (s.counters[(14 : Fin 16)] + 1) 65535 := by
  have hfold : (allChans.foldl (fun t c => t.judge x src c) s).counters[(14 : Fin 16)] = s.counters[(14 : Fin 16)] :=
    List.foldlRecOn (motive := fun t : State => t.counters[(14 : Fin 16)] = s.counters[(14 : Fin 16)]) allChans _ rfl fun t ht c _ => by
      obtain hnone | ⟨m, hm⟩ := Option.eq_none_or_eq_some (t.decision x src c)
      · rw [judge_of_no_decision hnone]
        exact ht
      · rw [judge_of_decision hm]
        exact (counter_carryOut t c (by decide) m).trans ht
  have hany : (allChans.any fun c => decide (s.decision x src c = some .contested)) = true :=
    List.any_eq_true.mpr ⟨c, mem_allChans c, decide_eq_true h⟩
  unfold State.judgeAll
  rw [hany, if_pos rfl]
  generalize allChans.foldl (fun t c => t.judge x src c) s = t at hfold
  rw [← hfold]
  exact count_counter t .contested

theorem chan_settleGates (s : State) (c : ChanId) : s.settleGates.chan c = s.chan c := by
  have hframe := settleGates_eq s
  generalize s.settleGates = u at hframe ⊢
  rw [hframe]
  rfl

theorem claimOf_settleGates (s : State) (c : ChanId) : s.settleGates.claimOf c = s.claimOf c := by
  have hframe := settleGates_eq s
  generalize s.settleGates = u at hframe ⊢
  rw [hframe]
  rfl

theorem link_settleGates (s : State) : s.settleGates.link = s.link := by
  have hframe := settleGates_eq s
  generalize s.settleGates = u at hframe ⊢
  rw [hframe]

theorem counters_settleGates (s : State) : s.settleGates.counters = s.counters := by
  have hframe := settleGates_eq s
  generalize s.settleGates = u at hframe ⊢
  rw [hframe]

theorem carries_settleGates {s : State} {r : OwnClaim} (h : s.Carries r) : s.settleGates.Carries r := by
  unfold State.Carries
  rw [link_settleGates]
  exact h

/-- The state in which a received CLAIM is judged (R115, R118). -/
def heard (s : State) (src : Nat) (x : ClaimFields) : State := s.taken.mapOccupancy fun o => o.hear x src s.now

theorem hearClaim_eq (s : State) (src : Nat) (x : ClaimFields) : s.taken.hearClaim src x = ((heard s src x).judgeAll x src).settleGates := rfl

theorem chan_count (s : State) (k : Counter) (c : ChanId) : (s.count k).chan c = s.chan c := rfl

theorem claimOf_count (s : State) (k : Counter) (c : ChanId) : (s.count k).claimOf c = s.claimOf c := rfl

/-- Settles O42. -/
theorem claimJudged : Obligations.ClaimJudged := by
  refine ⟨fun dst src payload s x c r i hreach hread hclaim hchan hconflict hout halone => ?_,
    fun dst src payload s x c r i hreach hread hclaim hchan hconflict hstate hpre hown hest => ?_,
    fun a b tagA tagB clsA clsB zonesA zonesB hne => ?_⟩
  · have hexec := exec_reaches hreach hread (y := exec (.claim dst src payload) s) rfl
    rw [hearClaim_eq] at hexec
    have hkept : Judged s ((heard s src.toNat x).judgeAll x src.toNat).settleGates :=
      judged_settleGates ((Judged.trans (t := heard s src.toNat x) ⟨rfl, rfl, rfl, rfl, rfl⟩ (judged_judgeAll (heard s src.toNat x) x src.toNat)))
    have hall {m : Decision} := judgeAll_of_alone (s := heard s src.toNat x) (x := x) (src := src.toNat) (m := m) halone
    have hearly (h : i.state = .claiming ∨ i.state = .leadIn) := decision_early (src := src.toNat) (s := heard s src.toNat x) hclaim hchan hconflict h
    have hlate (h : i.state = .speaking ∨ i.state = .live) := decision_late (src := src.toNat) (s := heard s src.toNat x) hclaim hchan hconflict h
    have htails {m : Decision} {o : Ending} (hm : m ≠ .contested) (hcarry : (heard s src.toNat x).carryOut c m = (heard s src.toNat x).enterTail c o)
        (htail : i.state ≠ .tail) (hdecision : (heard s src.toNat x).decision x src.toNat c = some m) :
        (((heard s src.toNat x).judgeAll x src.toNat).settleGates).claimOf c = none
          ∧ ∃ j, (((heard s src.toNat x).judgeAll x src.toNat).settleGates).chan c = some j ∧ j.state = .tail ∧ j.outcome = some o
            ∧ j.tailEnd = some (s.now + 300) := by
      rw [hall hdecision, if_neg hm, hcarry, chan_settleGates, claimOf_settleGates]
      refine ⟨claimOf_enterTail_self o hchan htail, _, chan_enterTail_self o hchan htail, rfl, ?_, rfl⟩
      simp only [ChanInst.ended, hout, Option.getD_none]
    refine ⟨_, hexec, fun hstate hyields => ?_, fun hstate hpre => ?_, fun hstate hpre hown hest => ?_, fun hassert => ?_,
      hkept.zones, hkept.calls, hkept.queue, hkept.clock, hkept.evac⟩
    · have htail : i.state ≠ .tail := by obtain h | h := hstate <;> rw [h] <;> decide
      exact htails (by decide) rfl htail ((hearly hstate).trans (congrArg some (judgeEarly_of_yields hyields)))
    · have htail : i.state ≠ .tail := by obtain h | h := hstate <;> rw [h] <;> decide
      exact htails (by decide) rfl htail ((hlate hstate).trans (congrArg some (judgeLate_of_preempts hpre)))
    · rw [hall ((hlate hstate).trans (congrArg some (judgeLate_of_contested hpre hown hest))), if_pos rfl, chan_settleGates,
        claimOf_settleGates, link_settleGates]
      exact ⟨hchan, hclaim, rfl⟩
    · have hdecision : (heard s src.toNat x).decision x src.toNat c = some .assert := by
        obtain ⟨hstate, hyields⟩ | ⟨hstate, hpre, hown⟩ := hassert
        · exact (hearly hstate).trans (congrArg some (judgeEarly_of_not_yields hyields))
        · exact (hlate hstate).trans (congrArg some (judgeLate_of_asserted hpre hown))
      have hclaim' : (heard s src.toNat x).claimOf c = some r := hclaim
      rw [hall hdecision, if_neg (by decide), chan_settleGates, claimOf_settleGates, counters_settleGates]
      refine ⟨(chan_offerClaim _ c c).trans hchan, claimOf_offerClaim hclaim', fun hopen => ?_, ?_⟩
      · exact carries_settleGates (carries_offerClaim hclaim' ⟨hopen.linked, hopen.room, hopen.claims⟩)
      · have htells := tells_offer ((heard s src.toNat x).setClaim c (some { r with refreshAt := s.now + 8000 })) r.frame
        have hoffer : (heard s src.toNat x).carryOut c .assert = _ := offerClaim_of_claim hclaim'
        rw [hoffer]
        exact (htells.counter 14 (by decide)).trans (counter_taken s (by decide))
  · have hexec := exec_reaches hreach hread (y := exec (.claim dst src payload) s) rfl
    rw [hearClaim_eq] at hexec
    have hdecision : (heard s src.toNat x).decision x src.toNat c = some .contested :=
      (decision_late (s := heard s src.toNat x) hclaim hchan hconflict hstate).trans
        (congrArg some (judgeLate_of_contested hpre hown hest))
    refine ⟨_, hexec, ?_⟩
    rw [counters_settleGates, contested_judgeAll hdecision, show (heard s src.toNat x).counters = s.taken.counters from rfl,
      counter_taken s (by decide)]
  · unfold YieldsEarly
    rw [if_neg Bool.false_ne_true, if_neg Bool.false_ne_true]
    dsimp only
    omega

/-! ### Own deadlines (R109, R111) -/

theorem claimOf_enterLeadIn (s : State) (c d : ChanId) : (s.enterLeadIn c).claimOf d = s.claimOf d := by
  rw [enterLeadIn_eq]
  rfl

theorem link_enterLeadIn (s : State) (c : ChanId) : (s.enterLeadIn c).link = s.link := by
  rw [enterLeadIn_eq]

/-- What an expiry's own work keeps, the expiry keeps but for the clock (log entry 2). -/
theorem undisturbed_of_expiry {s t : State} {d : Nat} (h : Keeps (s.advanceTo d) t) : Undisturbed { s with clock := t.clock } t :=
  ⟨h.pending, h.startup, rfl, h.store, h.evac, h.occupancy, h.joinTimer, h.handedOver, h.contacts, h.pins, h.sampleAt, h.roundAt, h.budget,
    h.monitor, h.testStep⟩

theorem keeps_enterLeadIn (s : State) (c : ChanId) : Keeps s (s.enterLeadIn c) := by
  rw [enterLeadIn_eq]
  exact ⟨rfl, rfl, rfl, rfl, rfl, rfl, rfl, rfl, rfl, rfl, rfl, rfl, rfl, rfl, rfl, rfl, fun h => ⟨h.1, h.2, h.3⟩, id⟩

theorem now_of_clock {s t : State} (h : t.clock = s.clock) : t.now = s.now := congrArg Clock.now h

/-- LEAD_IN without the CLAIM (R111): the instance's CLAIM stays in the queue, or is offered again. -/
theorem sendOver_of_low {s : State} {c : ChanId} {r : OwnClaim} {d : Nat} (hclaim : s.claimOf c = some r) (hdeadline : r.sendDeadline = some d)
    (hcls : r.cls ≤ 2) :
    s.sendOver c =
      if s.link.queue.any fun g => g.isClaimOf (some r.tag)
      then ((s.advanceTo d).setClaim c (some { r with sendDeadline := none })).enterLeadIn c
      else (((s.advanceTo d).setClaim c (some { r with sendDeadline := none })).enterLeadIn c).offerClaim c := by
  simp only [State.sendOver, hclaim, hdeadline, if_pos hcls, link_enterLeadIn]
  rfl

/-- Settles O43. -/
theorem claimDeadlines : Obligations.ClaimDeadlines := by
  intro s c r hawake hclaim
  refine ⟨?_, fun d i hdeadline hchan hstate hout => ?_⟩
  · have hexec : exec (.refreshDeadlineExpiry c) s = .next (s.refreshOver c) := exec_awake hawake rfl
    have hover : s.refreshOver c = (s.advanceTo r.refreshAt).offerClaim c := by simp only [State.refreshOver, hclaim]
    have hclaim' : (s.advanceTo r.refreshAt).claimOf c = some r := hclaim
    have htells := tells_offer ((s.advanceTo r.refreshAt).setClaim c (some { r with refreshAt := (s.advanceTo r.refreshAt).now + 8000 })) r.frame
    have hcarries := carries_offerClaim (s := s.advanceTo r.refreshAt) hclaim'
    have hself := claimOf_offerClaim (s := s.advanceTo r.refreshAt) hclaim'
    have hothers (e : ChanId) := claimOf_offerClaim_of_ne (s.advanceTo r.refreshAt) (c := c) (d := e)
    rw [← offerClaim_of_claim hclaim'] at htells
    rw [hexec, hover]
    generalize (s.advanceTo r.refreshAt).offerClaim c = t at htells hcarries hself hothers
    obtain ⟨hsends, -, -⟩ := htells
    refine ⟨t, rfl, hsends.clock, hself.trans ?_, hothers, fun hopen => hcarries ⟨hopen.linked, hopen.room, hopen.claims⟩, ?_⟩
    · rw [hsends.now]
      rfl
    · rw [hsends]
      rfl
  · have hexec : exec (.claimSendTimeout c) s = .next (s.sendOver c) := exec_awake hawake rfl
    have hchan' : (s.advanceTo d).chan c = some i := hchan
    by_cases hcls : r.cls ≤ 2
    · obtain ⟨u, hu⟩ : ∃ u, u = ((s.advanceTo d).setClaim c (some { r with sendDeadline := none })).enterLeadIn c := ⟨_, rfl⟩
      have hlead : u.chan c = some (leadingInst ((s.advanceTo d).setClaim c (some { r with sendDeadline := none })) c i) := by
        rw [hu]
        exact chan_enterLeadIn_self hchan'
      have hrecord : u.claimOf c = some { r with sendDeadline := none } := by
        rw [hu, claimOf_enterLeadIn]
        exact claimOf_setClaim_self _ _ _
      have hlink : u.link = s.link := by
        rw [hu, link_enterLeadIn]
        rfl
      have hkeeps : Keeps (s.advanceTo d) u := by
        rw [hu]
        exact (keeps_setClaim _ _ _).trans (keeps_enterLeadIn _ _)
      have hqueue : u.queue = s.queue := by
        rw [hu, enterLeadIn_eq]
        rfl
      have hothers (b : ChanId) (hb : b ≠ c) : u.chan b = s.chan b ∧ u.claimOf b = s.claimOf b := by
        rw [hu, claimOf_enterLeadIn]
        refine ⟨?_, claimOf_setClaim_of_ne _ _ _ _ hb.symm⟩
        exact chan_enterLeadIn_of_ne (s := (s.advanceTo d).setClaim c (some { r with sendDeadline := none })) hchan' hb
      have hover := sendOver_of_low hclaim hdeadline hcls
      rw [← hu] at hover
      rw [hexec, hover]
      split
      next hwaiting =>
        refine ⟨u, _, rfl, hlead, hkeeps.clock, fun _ => ⟨rfl, ?_, ?_, ?_, ?_, fun _ => hlink, fun hnone _ => ?_⟩, fun h => absurd hcls (by omega), hothers, hkeeps.calls, hqueue,
          undisturbed_of_expiry hkeeps⟩
        · rw [now_of_clock hkeeps.clock]
          rfl
        · rw [now_of_clock hkeeps.clock]
          rfl
        · rw [hrecord]
          rfl
        · rw [hrecord]
          rfl
        · obtain ⟨g, hg, hclaimOf⟩ := List.any_eq_true.mp hwaiting
          obtain ⟨hkind, htag⟩ := isClaimOf_iff.mp hclaimOf
          exact absurd htag (hnone g hg hkind)
      next hwaiting =>
        have hkeeps' : Keeps (s.advanceTo d) (u.offerClaim c) := hkeeps.trans (keeps_offerClaim u c)
        have hself := claimOf_offerClaim hrecord
        refine ⟨u.offerClaim c, _, rfl, (chan_offerClaim u c c).trans hlead, hkeeps'.clock, fun _ => ⟨rfl, ?_, ?_, ?_, ?_, fun hsome => ?_, fun _ hopen => ?_⟩, fun h => absurd hcls (by omega),
          fun b hb => ⟨(chan_offerClaim u c b).trans (hothers b hb).1, (claimOf_offerClaim_of_ne u hb).trans (hothers b hb).2⟩, hkeeps'.calls,
          (judged_offerClaim u c).queue.trans hqueue, undisturbed_of_expiry hkeeps'⟩
        · rw [now_of_clock hkeeps'.clock]
          rfl
        · rw [now_of_clock hkeeps'.clock]
          rfl
        · rw [hself]
          rfl
        · rw [hself]
          rfl
        · obtain ⟨g, hg, hkind, htag⟩ := hsome
          exact absurd (List.any_eq_true.mpr ⟨g, hg, isClaimOf_iff.mpr ⟨hkind, htag⟩⟩) hwaiting
        · have hopen' : u.ClaimsOpen := by
            obtain ⟨hlinked, hroom, hclaims⟩ := hopen
            rw [← hlink] at hroom hclaims
            refine ⟨?_, hroom, hclaims⟩
            rw [State.onLink, hkeeps.startup]
            exact hlinked
          exact (carries_offerClaim hrecord hopen' :)
    · have hover : s.sendOver c = (s.advanceTo d).enterTail c .withdrawn := by
        simp only [State.sendOver, hclaim, hdeadline, if_neg hcls]
      have htail : i.state ≠ .tail := by rw [hstate]; decide
      rw [hexec, hover]
      refine ⟨_, _, rfl, chan_enterTail_self _ hchan' htail, (keeps_enterTail _ _ _).clock, fun h => absurd h hcls, fun _ => ⟨rfl, ?_, ?_, claimOf_enterTail_self _ hchan' htail⟩,
        fun b hb => ⟨chan_enterTail_of_ne _ hchan' htail hb, claimOf_enterTail_of_ne _ hchan' htail hb⟩, (keeps_enterTail _ _ _).calls, queue_enterTail _ hchan' htail, ?_⟩
      · simp only [ChanInst.ended, hout, Option.getD_none]
      · rw [now_of_clock (keeps_enterTail _ _ _).clock]
        rfl
      · exact undisturbed_of_expiry (keeps_enterTail _ _ _)

end Sys2Proof.Proofs.ClaimRules
end

section
/-! What the work of one channel leaves alone, and what play does (R127 to R136, R156). -/

namespace Sys2Proof.Proofs.ChannelRules

open Sys2Proof.Machine
open Sys2Proof.Proofs.LiveClose Sys2Proof.Proofs.Faults Sys2Proof.Proofs.Upkeep Sys2Proof.Proofs.Uphold Sys2Proof.Proofs.CallRules
open Sys2Proof.Proofs.Commands Sys2Proof.Proofs.Steps Sys2Proof.Proofs.Reports Sys2Proof.Proofs.Starting Sys2Proof.Proofs.Transmit
open Sys2Proof.Proofs.LineRules Sys2Proof.Proofs.FaultRules Sys2Proof.Proofs.QueueRules Sys2Proof.Proofs.ClaimRules

/-! ### The work of one channel -/

/-- From `s` to `t` only channel `c` has worked: the other channels and claims, the zones and the announcement queue are as they were, and
its instance is there still, with no wake end and no chime that it did not have. -/
structure Within (c : ChanId) (s t : State) : Prop where
  keeps : Keeps s t
  chan : ∀ b : ChanId, b ≠ c → t.chan b = s.chan b
  claimOf : ∀ b : ChanId, b ≠ c → t.claimOf b = s.claimOf b
  zones : t.zones = s.zones
  queue : t.queue = s.queue
  inst : ∀ i, s.chan c = some i →
    ∃ j, t.chan c = some j ∧ (i.wakeEnd = none → j.wakeEnd = none) ∧ (i.chime = none → j.chime = none)

namespace Within

theorem refl (c : ChanId) (s : State) : Within c s s :=
  ⟨Keeps.refl s, fun _ _ => rfl, fun _ _ => rfl, rfl, rfl, fun i hi => ⟨i, hi, id, id⟩⟩

theorem trans {c : ChanId} {s t u : State} (h : Within c s t) (k : Within c t u) : Within c s u where
  keeps := h.keeps.trans k.keeps
  chan b hb := (k.chan b hb).trans (h.chan b hb)
  claimOf b hb := (k.claimOf b hb).trans (h.claimOf b hb)
  zones := k.zones.trans h.zones
  queue := k.queue.trans h.queue
  inst i hi := by
    obtain ⟨j, hj, hwake, hchime⟩ := h.inst i hi
    obtain ⟨l, hl, hwake', hchime'⟩ := k.inst j hj
    exact ⟨l, hl, hwake' ∘ hwake, hchime' ∘ hchime⟩

theorem after {c : ChanId} {s t u : State} (k : Within c t u) (h : Within c s t) : Within c s u := h.trans k

theorem now {c : ChanId} {s t : State} (h : Within c s t) : t.now = s.now := now_of_clock h.keeps.clock

/-- At an expiry only the clock is not as it was (log entry 2). -/
theorem expiry {c : ChanId} {s t : State} {d : Nat} (h : Within c (s.advanceTo d) t) :
    t.now = max s.now d % 2 ^ 40 ∧ (∀ b : ChanId, b ≠ c → t.chan b = s.chan b) ∧ t.zones = s.zones ∧ t.calls = s.calls ∧ t.queue = s.queue
      ∧ Undisturbed { s with clock := t.clock } t :=
  ⟨h.now, h.chan, h.zones, h.keeps.calls, h.queue, undisturbed_of_expiry h.keeps⟩

end Within

section
variable (c : ChanId)

theorem within_of_sends {s t : State} (hkeeps : Keeps s t) (h : Sends s t) : Within c s t where
  keeps := hkeeps
  chan b _ := by rw [State.chan, h.chans]; rfl
  claimOf b _ := by rw [State.claimOf, h.claims]; rfl
  zones := h.zones
  queue := h.queue
  inst i hi := ⟨i, by rw [State.chan, h.chans]; exact hi, id, id⟩

theorem within_count (s : State) (k : Counter) : Within c s (s.count k) := within_of_sends c (keeps_count s k) (sends_count s k)

theorem within_raise (s : State) (k : FaultKind) (subject : Option Nat) : Within c s (s.raise k subject) :=
  within_of_sends c (keeps_raise s k subject) (sends_raise s k subject)

theorem within_setChan {s : State} {i j : ChanInst} (hchan : s.chan c = some i) (hwake : i.wakeEnd = none → j.wakeEnd = none)
    (hchime : i.chime = none → j.chime = none) : Within c s (s.setChan c (some j)) where
  keeps := keeps_setChan s c _
  chan b hb := chan_setChan_of_ne s c b _ hb.symm
  claimOf _ _ := rfl
  zones := rfl
  queue := rfl
  inst l hl := by
    obtain rfl := Option.some.inj (hchan.symm.trans hl)
    exact ⟨j, chan_setChan_self s c _, hwake, hchime⟩

theorem within_updChan (s : State) {f : ChanInst → ChanInst} (hwake : ∀ i, i.wakeEnd = none → (f i).wakeEnd = none)
    (hchime : ∀ i, i.chime = none → (f i).chime = none) : Within c s (s.updChan c f) := by
  unfold State.updChan
  obtain hnone | ⟨i, hi⟩ := Option.eq_none_or_eq_some (s.chan c)
  · rw [hnone, Option.map_none, setChan_eq_self hnone]
    exact Within.refl c s
  · rw [hi]
    exact within_setChan c hi (hwake i) (hchime i)

theorem within_port (s : State) {t : State} (hkeeps : Keeps s t) (h : t = { s with port := t.port }) : Within c s t where
  keeps := hkeeps
  chan _ _ := by rw [h]; rfl
  claimOf _ _ := by rw [h]; rfl
  zones := by rw [h]
  queue := by rw [h]
  inst i hi := ⟨i, by rw [h]; exact hi, id, id⟩

theorem within_disown (s : State) (d : ChanId) : Within c s (s.disown d) := within_port c s (keeps_disown s d) rfl

theorem within_disownChime (s : State) (d : ChanId) : Within c s (s.disownChime d) := by
  unfold State.disownChime
  split
  · split
    · exact within_disown c s d
    · exact Within.refl c s
  · split
    · exact within_disown c s d
    · exact Within.refl c s
  · exact Within.refl c s

theorem within_arbitrate (s : State) : Within c s s.arbitrate := within_port c s (keeps_arbitrate s) (arbitrate_eq s)

theorem within_setClaim (s : State) (r : Option OwnClaim) : Within c s (s.setClaim c r) where
  keeps := keeps_setClaim s c r
  chan _ _ := rfl
  claimOf b hb := claimOf_setClaim_of_ne s c b r hb.symm
  zones := rfl
  queue := rfl
  inst i hi := ⟨i, hi, id, id⟩

theorem within_offerClaim (s : State) : Within c s (s.offerClaim c) where
  keeps := keeps_offerClaim s c
  chan := fun b _ => chan_offerClaim s c b
  claimOf _ hb := claimOf_offerClaim_of_ne s hb
  zones := (judged_offerClaim s c).zones
  queue := (judged_offerClaim s c).queue
  inst i hi := ⟨i, (chan_offerClaim s c c).trans hi, id, id⟩

theorem within_establish (s : State) : Within c s (s.establish c) := by
  unfold State.establish
  split
  · exact Within.refl c s
  · exact (within_setClaim c s _).trans (within_offerClaim c _)

theorem within_enterTail (s : State) (o : Ending) : Within c s (s.enterTail c o) := by
  obtain hnone | ⟨i, hi⟩ := Option.eq_none_or_eq_some (s.chan c)
  · rw [enterTail_of_free hnone]
    exact Within.refl c s
  · by_cases htail : i.state = .tail
    · rw [enterTail_of_tail o hi htail]
      exact Within.refl c s
    · refine ⟨keeps_enterTail s c o, fun b hb => chan_enterTail_of_ne o hi htail hb, fun b hb => claimOf_enterTail_of_ne o hi htail hb,
        zones_enterTail o hi htail, queue_enterTail o hi htail, fun l hl => ?_⟩
      obtain rfl := Option.some.inj (hi.symm.trans hl)
      exact ⟨_, chan_enterTail_self o hi htail, fun _ => rfl, id⟩

theorem within_assemble {s t : State} {n : Nat} {x : Inputs} {l : Option (List Nat)} (h : s.assemble n x = (t, l)) : Within c s t := by
  unfold State.assemble at h
  split at h <;> cases h
  · exact Within.refl c s
  · exact within_raise c s _ _

theorem within_choosePlaying (s : State) : Within c s (s.choosePlaying c) := by
  unfold State.choosePlaying
  split
  · split
    next h => exact (within_assemble c h).trans (within_updChan c _ (fun _ => id) fun _ => id)
    next h => exact (within_assemble c h).trans (within_updChan c _ (fun _ => id) fun _ => id)
  · exact within_updChan c s (fun _ => id) fun _ => id

theorem within_startTone (s : State) : Within c s (s.startTone c) :=
  Within.after (within_updChan c _ (fun _ => id) fun _ => id) (within_disown c s c)

theorem within_startPause (s : State) : Within c s (s.startPause c) :=
  (within_choosePlaying c _).after (within_updChan c s (fun _ => id) fun _ => id)

theorem within_thirdGap (s : State) (i : ChanInst) (code : Nat) : Within c s (s.thirdGap c i code) := by
  unfold State.thirdGap
  split
  · exact (within_enterTail c s _).trans (within_raise c _ _ _)
  · split
    · exact (within_raise c _ _ _).after (Within.after (within_updChan c _ (fun _ => id) fun _ _ => rfl) (within_disownChime c s c))
    · exact (within_startTone c s).trans (within_raise c _ _ _)

theorem within_nextBlock (s : State) (p : Place) (boundary : Bool) : Within c s (s.nextBlock c p boundary) := by
  unfold State.nextBlock
  split
  · exact Within.refl c s
  next i hi =>
    split
    · exact within_setChan c hi id id
    · have hcount : (s.count .underruns).chan c = some i := hi
      dsimp only
      split
      · exact Within.after (within_setChan c hcount id id) (within_count c s _)
      · exact (within_thirdGap c _ _ _).after (Within.after (within_setChan c hcount id id) (within_count c s _))

theorem within_boundary (s : State) : Within c s (s.boundary c) := by
  unfold State.boundary
  split
  · exact Within.refl c s
  · split
    · exact within_enterTail c s _
    · split
      · exact within_nextBlock c s _ _
      · split
        · split
          · exact within_startTone c s
          · exact within_startPause c s
        · exact within_enterTail c s _

theorem within_startPlaying (s : State) : Within c s (s.startPlaying c) := by
  unfold State.startPlaying
  split
  · exact Within.refl c s
  · dsimp only
    refine Within.trans (within_updChan c s (f := fun i => { i with gapCount := 0, evac := i.evac.map fun e => { e with pauseEnd := none } })
      (fun _ => id) fun _ => id) ?_
    split
    · exact within_boundary c _
    · exact within_startTone c _

theorem within_beginSpeech (s : State) : Within c s (s.beginSpeech c) := by
  unfold State.beginSpeech
  split
  · exact Within.refl c s
  next i hi =>
    dsimp only
    split
    · exact (within_establish c _).after (within_setChan c hi id id)
    · exact (within_startPlaying c _).after ((within_establish c _).after (within_setChan c hi id id))
    · exact (within_boundary c _).after ((within_establish c _).after (within_setChan c hi id id))

theorem within_judgeHold (s : State) : Within c s (s.judgeHold c) := by
  unfold State.judgeHold
  split
  · exact Within.refl c s
  next i hi =>
    split
    · split
      · exact within_beginSpeech c s
      · split
        · exact within_setChan c hi id id
        · exact Within.refl c s
      · exact within_enterTail c s _
      · exact (within_beginSpeech c _).after (within_updChan c s (fun _ => id) fun _ => id)
    · exact Within.refl c s

theorem within_enterHold (s : State) : Within c s (s.enterHold c) :=
  (within_judgeHold c _).after (within_updChan c s (fun _ => id) fun _ => id)

theorem within_leadIn (s : State) : Within c s (s.leadIn c) := by
  unfold State.leadIn
  split
  · exact Within.refl c s
  next i hi =>
    split
    · split
      · split
        · split
          · exact within_enterHold c s
          · split
            · exact within_setChan c hi id id
            · exact Within.refl c s
        · exact Within.refl c s
      · exact Within.refl c s
      · exact within_judgeHold c s
    · exact Within.refl c s

theorem within_passWake (s : State) (w : Nat) : Within c s (s.passWake c w) :=
  (within_leadIn c _).after (within_updChan c s (fun _ _ => rfl) fun _ => id)

theorem within_playOn (s : State) : Within c s (s.playOn c) := by
  have hchime (i : ChanInst) : Within c s (s.chimeEnd c i) := by
    unfold State.chimeEnd
    split
    · exact within_enterTail c s _
    · exact within_enterHold c s
  unfold State.playOn
  split
  · exact Within.refl c s
  · dsimp only
    split
    · split
      · exact (within_nextBlock c s _ _).trans (within_judgeHold c _)
      · exact hchime _
    · split
      · exact within_nextBlock c s _ _
      · exact within_boundary c s
    · exact Within.refl c s
    · exact Within.refl c s
    · exact Within.refl c s

theorem within_primeEvac (s : State) (i : ChanInst) : Within c s (s.primeEvac c i) := by
  unfold State.primeEvac
  split
  · exact (within_enterHold c _).after (Within.after (within_updChan c _ (fun _ => id) fun _ _ => rfl) (within_disownChime c s c))
  · exact (within_beginSpeech c _).after (Within.after (within_updChan c _ (fun _ => id) fun _ => id) (within_disown c s c))

end

/-! ### Play (R129, R135) -/

section
variable {s : State} {c : ChanId} {i : ChanInst} (hchan : s.chan c = some i)
include hchan

theorem nextBlock_of_buffered {p : Place} (h : i.buffered p = true) (boundary : Bool) :
    s.nextBlock c p boundary = s.setChan c (some (i.startBlock p s.now)) := by
  simp only [State.nextBlock, hchan, h, if_true]

theorem nextBlock_of_gap {p : Place} (h : i.buffered p = false) (boundary : Bool) (hgap : i.gapCount < 2) :
    s.nextBlock c p boundary
      = (s.count .underruns).setChan c (some (({ i with gapCount := i.gapCount + 1 } : ChanInst).startGap boundary s.now)) := by
  simp only [State.nextBlock, hchan, h, Bool.false_eq_true, if_false, if_pos (show i.gapCount + 1 < 3 by omega)]
  rfl

theorem nextBlock_of_third_gap {p : Place} (h : i.buffered p = false) (boundary : Bool) (hgap : 2 ≤ i.gapCount) :
    s.nextBlock c p boundary
      = ((s.count .underruns).setChan c (some { i with gapCount := i.gapCount + 1 })).thirdGap c { i with gapCount := i.gapCount + 1 }
          ((i.code p.phrase).getD 0) := by
  simp only [State.nextBlock, hchan, h, Bool.false_eq_true, if_false, if_neg (show ¬i.gapCount + 1 < 3 by omega)]
  rfl

theorem boundary_of_next {q : Nat} (hstop : i.stopPending = false) (hnext : i.playableFrom (i.play.phrase + 1) = some q) :
    s.boundary c = s.nextBlock c { phrase := q, block := 0 } true := by
  simp only [State.boundary, hchan, hstop, Bool.false_eq_true, if_false, hnext]

theorem boundary_of_over (hevac : i.evac = none) (h : i.stopPending = true ∨ i.playableFrom (i.play.phrase + 1) = none) :
    s.boundary c = s.enterTail c .done := by
  simp only [State.boundary, hchan]
  split
  · rfl
  next hstop =>
    rw [h.resolve_left hstop, hevac]
    rfl

theorem boundary_of_evac {e : EvacCycle} (hevac : i.evac = some e) (hstop : i.stopPending = false)
    (hnext : i.playableFrom (i.play.phrase + 1) = none) :
    s.boundary c = if i.play.phrase = 0 then s.startTone c else s.startPause c := by
  simp only [State.boundary, hchan, hstop, Bool.false_eq_true, if_false, hnext, hevac, Option.isSome_some, if_true]

theorem playOn_of_more {n : Nat} (hstate : i.state = .speaking) (hdir : (i.dir i.play.phrase).map DirRead.count = some n)
    (hmore : i.play.block + 1 < n) : s.playOn c = s.nextBlock c { i.play with block := i.play.block + 1 } false := by
  simp only [State.playOn, hchan, hstate, hdir, Option.getD_some, decide_eq_true hmore, if_true]

theorem playOn_of_last {n : Nat} (hstate : i.state = .speaking) (hdir : (i.dir i.play.phrase).map DirRead.count = some n)
    (hlast : n ≤ i.play.block + 1) : s.playOn c = s.boundary c := by
  simp only [State.playOn, hchan, hstate, hdir, Option.getD_some, decide_eq_false (Nat.not_lt.mpr hlast), Bool.false_eq_true, if_false]

theorem blockOver_of_block {d : Nat} (hplay : i.inPlay = .block) (hend : i.blockEnd = some d) :
    s.blockOver c = (((s.advanceTo d).setChan c (some i.playedOut)).playOn c).arbitrate := by
  simp only [State.blockOver, hchan, hplay, hend]

theorem gapOver_of_gap {d : Nat} (hplay : i.inPlay = .gap false) (hend : i.blockEnd = some d) :
    s.gapOver c = (((s.advanceTo d).setChan c (some i.playedOut)).playOn c).arbitrate := by
  simp only [State.gapOver, hchan, hplay, hend, Bool.false_and, Bool.false_eq_true, if_false]

end

theorem playedOut_of_block {i : ChanInst} (h : i.inPlay = .block) :
    i.playedOut = { i with inPlay := .nothing, blockEnd := none, buffer := i.buffer.drop 1 } := by
  simp only [ChanInst.playedOut, h, if_true, ChanInst.stopPlay]

/-- What the port's next grant leaves of a channel's work. -/
theorem chan_arbitrate (s : State) (c : ChanId) : s.arbitrate.chan c = s.chan c := by
  rw [arbitrate_eq]
  rfl

theorem claimOf_arbitrate (s : State) (c : ChanId) : s.arbitrate.claimOf c = s.claimOf c := by
  rw [arbitrate_eq]
  rfl

theorem tells_arbitrated (s : State) : s.arbitrate.counters = s.counters ∧ s.arbitrate.faults = s.faults := by
  rw [arbitrate_eq]
  exact ⟨rfl, rfl⟩

theorem raised_arbitrate {s t : State} {k : FaultKind} {subject : Option Nat} (h : s.Raised t k subject) : s.Raised t.arbitrate k subject := by
  rw [arbitrate_eq]
  exact raised_congr h (fun _ => rfl) (fun _ => rfl) rfl rfl rfl rfl

/-- The work at an expiry on a channel, and the port's next grant after it. -/
theorem within_expired {c : ChanId} {s t : State} {d : Nat} (h : Within c (s.advanceTo d) t) : Within c (s.advanceTo d) t.arbitrate :=
  h.trans (within_arbitrate c t)

/-! ### The third gap ends an instance (R135) -/

theorem thirdGap_of_phrase {i : ChanInst} (hevac : i.evac = none) (s : State) (c : ChanId) (code : Nat) :
    s.thirdGap c i code = (s.enterTail c .underrun).raise .phraseUnderrun (some code) := by
  simp only [State.thirdGap, hevac]

theorem tells_dropClaim (s : State) (c : ChanId) (o : Ending) : Tells (s.setClaim c none) (s.dropClaim c o) := by
  obtain hnone | ⟨r, hr⟩ := Option.eq_none_or_eq_some (s.claimOf c)
  · simp only [State.dropClaim, hnone]
    rw [setClaim_eq_self hnone]
    exact Tells.refl s
  · simp only [State.dropClaim, hr]
    exact tells_offer _ _

/-- No fault record and no counter but TX_DROPPED is touched by an entry to TAIL. -/
theorem unraised_enterTail {s : State} {c : ChanId} {i : ChanInst} (hchan : s.chan c = some i) (htail : i.state ≠ .tail) (o : Ending) :
    (∀ k : Fin 16, k ≠ 6 → (s.enterTail c o).counters[k] = s.counters[k])
      ∧ ∀ j : Fin 16, ((s.enterTail c o).faults.slots[j]).record = (s.faults.slots[j]).record := by
  simp only [State.enterTail, hchan, if_neg htail]
  have htells := tells_dropClaim ((s.setChan c (some (i.ended o s.now))).disown c) c (i.outcome.getD o)
  exact ⟨fun k hk => htells.counter k hk, htells.record⟩


theorem counter_enterTail (s : State) (c : ChanId) (o : Ending) {k : Fin 16} (hk : k ≠ 6) : (s.enterTail c o).counters[k] = s.counters[k] := by
  obtain hnone | ⟨i, hi⟩ := Option.eq_none_or_eq_some (s.chan c)
  · rw [enterTail_of_free hnone]
  · by_cases htail : i.state = .tail
    · rw [enterTail_of_tail o hi htail]
    · exact (unraised_enterTail hi htail o).1 k hk

theorem chan_raise (s : State) (k : FaultKind) (subject : Option Nat) (c : ChanId) : (s.raise k subject).chan c = s.chan c := by
  rw [State.chan, (sends_raise s k subject).chans]
  rfl

theorem claimOf_raise (s : State) (k : FaultKind) (subject : Option Nat) (c : ChanId) : (s.raise k subject).claimOf c = s.claimOf c := by
  rw [State.claimOf, (sends_raise s k subject).claims]
  rfl

theorem disownChime_frame (s : State) (c : ChanId) : s.disownChime c = { s with port := (s.disownChime c).port } := by
  unfold State.disownChime
  split
  · split <;> rfl
  · split <;> rfl
  · rfl

theorem counter_thirdGap (s : State) (c : ChanId) (i : ChanInst) (code : Nat) {k : Fin 16} (h6 : k ≠ 6) (h15 : k ≠ 15) :
    (s.thirdGap c i code).counters[k] = s.counters[k] := by
  unfold State.thirdGap
  split
  · exact (counters_raise _ _ _ h6 h15).trans (counter_enterTail s c _ h6)
  · split
    · refine (counters_raise _ _ _ h6 h15).trans ?_
      rw [State.updChan, State.setChan, disownChime_frame]
    · exact counters_raise _ _ _ h6 h15

/-- An instance as a tone playing begins (R157). -/
def toned (i : ChanInst) (now : Nat) : ChanInst :=
  { i.chooseTone.stopPlay with evac := i.evac.map fun _ => { chosen := .tone, toneEnd := some (now + 10000), pauseEnd := none } }

theorem chan_startTone {s : State} {c : ChanId} {i : ChanInst} (hchan : s.chan c = some i) :
    (s.startTone c).chan c = some (toned i s.now) := chan_updChan_self (s := s.disown c) _ hchan

theorem gapCount_thirdGap {s : State} {c : ChanId} {i : ChanInst} (hchan : s.chan c = some i) (hstate : i.state = .speaking) (code : Nat) :
    ∃ j, (s.thirdGap c i code).chan c = some j ∧ j.gapCount = i.gapCount := by
  have htail : i.state ≠ .tail := by rw [hstate]; decide
  unfold State.thirdGap
  split
  · exact ⟨_, (chan_raise _ _ _ c).trans (chan_enterTail_self _ hchan htail), rfl⟩
  · rw [if_neg (by rw [hstate]; decide)]
    exact ⟨_, (chan_raise _ _ _ c).trans (chan_startTone hchan), rfl⟩

/-- A block that is not there is a gap, which UNDERRUNS counts (R135). -/
theorem underruns_nextBlock {s : State} {c : ChanId} {i : ChanInst} {p : Place} (hchan : s.chan c = some i) (h : i.buffered p = false)
    (boundary : Bool) : (s.nextBlock c p boundary).counters[(10 : Fin 16)] = min (s.counters[(10 : Fin 16)] + 1) 65535 := by
  obtain hgap | hgap := Nat.lt_or_ge i.gapCount 2
  · rw [nextBlock_of_gap hchan h boundary hgap]
    exact count_counter s .underruns
  · rw [nextBlock_of_third_gap hchan h boundary hgap]
    exact (counter_thirdGap _ c _ _ (by decide) (by decide)).trans (count_counter s .underruns)

/-- An instance in SPEAKING whose block has been played: the block is out of the buffer. -/
def playedBlock (i : ChanInst) : ChanInst := { i with inPlay := .nothing, blockEnd := none, buffer := i.buffer.drop 1 }

/-- The state in which play goes on after the block of an instance (R129). -/
structure Between (s : State) (c : ChanId) (p : ChanInst) (d : Nat) (u : State) : Prop where
  chan : u.chan c = some p
  within : Within c (s.advanceTo d) u
  counters : u.counters = s.counters
  faults : u.faults = s.faults
  claimOf : u.claimOf c = s.claimOf c
  store : u.store = s.store

section
variable {s : State} {c : ChanId} {i : ChanInst} {d n : Nat}

theorem between_block (hawake : s.Awake) (hchan : s.chan c = some i) (hend : i.blockEnd = some d) (hplay : i.inPlay = .block) :
    ∃ u, Between s c (playedBlock i) d u ∧ exec (.blockPlayed c) s = .next (u.playOn c).arbitrate := by
  have hexec : exec (.blockPlayed c) s = .next (s.blockOver c) := exec_awake hawake rfl
  rw [blockOver_of_block hchan hplay hend, playedOut_of_block hplay] at hexec
  exact ⟨_, ⟨chan_setChan_self _ _ _, within_setChan c (i := i) hchan id id, rfl, rfl, rfl, rfl⟩, hexec⟩

/-- What play does after a block of an instance in SPEAKING, whatever the instance is (R129, R135). -/
structure AfterBlock (s : State) (i : ChanInst) (n : Nat) (t : State) (j : ChanInst) : Prop where
  next : i.play.block + 1 < n → (i.buffer.drop 1).any (fun b => decide (b.place = { i.play with block := i.play.block + 1 })) = true →
    j = { i with buffer := i.buffer.drop 1, play := { i.play with block := i.play.block + 1 }, blockEnd := some (t.now + 32) }
  underruns : i.play.block + 1 < n →
    (i.buffer.drop 1).any (fun b => decide (b.place = { i.play with block := i.play.block + 1 })) = false →
    t.counters[(10 : Fin 16)] = min (s.counters[(10 : Fin 16)] + 1) 65535 ∧ j.gapCount = i.gapCount + 1
  gap : i.play.block + 1 < n →
    (i.buffer.drop 1).any (fun b => decide (b.place = { i.play with block := i.play.block + 1 })) = false → i.gapCount < 2 →
    j = { i with buffer := i.buffer.drop 1, gapCount := i.gapCount + 1, inPlay := .gap false, blockEnd := some (t.now + 32) }
  phrase : ∀ q, n ≤ i.play.block + 1 → i.stopPending = false → i.playableFrom (i.play.phrase + 1) = some q →
    (i.buffer.drop 1).any (fun b => decide (b.place = { phrase := q, block := 0 })) = true →
    j = { i with buffer := i.buffer.drop 1, play := { phrase := q, block := 0 }, blockEnd := some (t.now + 32) }

theorem afterBlock_playOn {u : State} (hu : Between s c (playedBlock i) d u) (hstate : i.state = .speaking)
    (hdir : (i.dir i.play.phrase).map DirRead.count = some n) (hplay : i.inPlay = .block) {j : ChanInst}
    (hj : (u.playOn c).arbitrate.chan c = some j) : AfterBlock s i n (u.playOn c).arbitrate j := by
  have hnow : (u.playOn c).arbitrate.now = u.now := (within_playOn c u).now ▸ (within_arbitrate c _).now
  have hself {k : ChanInst} (h : (u.playOn c).chan c = some k) : j = k := Option.some.inj (hj.symm.trans ((chan_arbitrate _ _).trans h))
  have hcounters : (u.playOn c).arbitrate.counters = (u.playOn c).counters := (tells_arbitrated _).1
  have hmoreOn (hmore : i.play.block + 1 < n) := playOn_of_more hu.chan (i := playedBlock i) hstate hdir hmore
  refine ⟨fun hmore hbuf => ?_, fun hmore hbuf => ?_, fun hmore hbuf hgap => ?_, fun q hlast hstop hnext hbuf => ?_⟩
  · have hplayOn := (hmoreOn hmore).trans (nextBlock_of_buffered hu.chan hbuf false)
    rw [hnow, hself (by rw [hplayOn]; exact chan_setChan_self _ _ _)]
    simp only [ChanInst.startBlock, playedBlock, hplay]
  · refine ⟨?_, ?_⟩
    · rw [hcounters, hmoreOn hmore, ← hu.counters]
      exact underruns_nextBlock hu.chan hbuf false
    obtain hgap | hgap := Nat.lt_or_ge i.gapCount 2
    · have hplayOn := (hmoreOn hmore).trans (nextBlock_of_gap hu.chan hbuf false hgap)
      rw [hself (by rw [hplayOn]; exact chan_setChan_self _ _ _)]
      rfl
    · have hplayOn := (hmoreOn hmore).trans (nextBlock_of_third_gap hu.chan hbuf false hgap)
      obtain ⟨k, hk, hcount⟩ := gapCount_thirdGap (s := (u.count .underruns).setChan c (some { playedBlock i with gapCount := i.gapCount + 1 }))
        (chan_setChan_self _ _ _) hstate (((playedBlock i).code i.play.phrase).getD 0)
      rw [hself (by rw [hplayOn]; exact hk), hcount]
  · have hplayOn := (hmoreOn hmore).trans (nextBlock_of_gap hu.chan hbuf false hgap)
    rw [hnow, hself (by rw [hplayOn]; exact chan_setChan_self _ _ _)]
    rfl
  · have hplayOn := ((playOn_of_last hu.chan (i := playedBlock i) hstate hdir hlast).trans
      (boundary_of_next hu.chan hstop hnext)).trans (nextBlock_of_buffered hu.chan hbuf true)
    rw [hnow, hself (by rw [hplayOn]; exact chan_setChan_self _ _ _)]
    simp only [ChanInst.startBlock, playedBlock, hplay]

/-- After a gap the block is tried again (R135). -/
theorem gapEnd_of_buffered (hawake : s.Awake) (hchan : s.chan c = some i) (hstate : i.state = .speaking) (hend : i.blockEnd = some d)
    (hdir : (i.dir i.play.phrase).map DirRead.count = some n) (hplay : i.inPlay = .gap false) (hmore : i.play.block + 1 < n)
    (hbuf : i.buffered { i.play with block := i.play.block + 1 } = true) :
    ∃ t, exec (.gapEnd c) s = .next t
      ∧ t = { s with
          clock := { s.clock with now := max s.now d % 2 ^ 40 }, port := t.port,
          chans := s.chans.set c (some
            { i with play := { i.play with block := i.play.block + 1 }, inPlay := .block, blockEnd := some (t.now + 32) }) } := by
  have hexec : exec (.gapEnd c) s = .next (s.gapOver c) := exec_awake hawake rfl
  have hplayed : i.playedOut = { i with inPlay := .nothing, blockEnd := none } := by
    rw [ChanInst.playedOut, if_neg (by rw [hplay]; exact nofun)]
    rfl
  have hu : ((s.advanceTo d).setChan c (some i.playedOut)).chan c = some { i with inPlay := .nothing, blockEnd := none } := by
    rw [hplayed]
    exact chan_setChan_self _ _ _
  have hplayOn := (playOn_of_more hu hstate hdir hmore).trans (nextBlock_of_buffered hu hbuf false)
  rw [gapOver_of_gap hchan hplay hend, hplayOn] at hexec
  refine ⟨_, hexec, ?_⟩
  rw [arbitrate_eq]
  simp only [State.setChan, Vector.set_set]
  rfl

end

/-- Settles O46: the branches of `State.playOn` in SPEAKING, each with the state it leaves on the channel. -/
theorem playGoesOn : Obligations.PlayGoesOn := by
  intro s c i d hawake hchan hstate hevac hend n hdir
  refine ⟨fun hplay => ?_, fun hplay hmore hbuffered => gapEnd_of_buffered hawake hchan hstate hend hdir hplay hmore hbuffered⟩
  obtain ⟨u, hu, hexec⟩ := between_block hawake hchan hend hplay
  have hwithin := within_expired (hu.within.trans (within_playOn c u))
  obtain ⟨j, hj, -⟩ := hwithin.inst i hchan
  have hafter := afterBlock_playOn hu hstate hdir hplay hj
  obtain ⟨hnow, hothers, hzones, hcalls, hqueue, hrest⟩ := hwithin.expiry
  have hunow : (u.playOn c).arbitrate.now = u.now := hwithin.now.trans hu.within.now.symm
  have hself {k : ChanInst} (h : (u.playOn c).chan c = some k) : j = k := Option.some.inj (hj.symm.trans ((chan_arbitrate _ _).trans h))
  have htail : (playedBlock i).state ≠ .tail := by rw [show (playedBlock i).state = .speaking from hstate]; decide
  refine ⟨_, j, hexec, hj, hnow, hafter.next, fun hmore hbuf => ?_, fun hlast hover => ?_, hafter.phrase, hothers, hzones, hcalls, hqueue, hrest⟩
  · obtain ⟨hcount, hgapCount⟩ := hafter.underruns hmore hbuf
    refine ⟨hcount, hgapCount, hafter.gap hmore hbuf, fun hgap => ?_⟩
    have hplayOn := (playOn_of_more hu.chan (i := playedBlock i) hstate hdir hmore).trans (nextBlock_of_third_gap hu.chan hbuf false hgap)
    have hended := hplayOn.trans (thirdGap_of_phrase hevac _ c _)
    obtain ⟨v, hv⟩ : ∃ v, v = (u.count .underruns).setChan c (some { playedBlock i with gapCount := i.gapCount + 1 }) := ⟨_, rfl⟩
    have hvchan : v.chan c = some { playedBlock i with gapCount := i.gapCount + 1 } := by
      rw [hv]
      exact chan_setChan_self _ _ _
    have hunraised := unraised_enterTail hvchan htail .underrun
    change u.playOn c = State.raise (State.enterTail ((u.count .underruns).setChan c (some { playedBlock i with gapCount := i.gapCount + 1 })) c .underrun) _ _ at hended
    rw [← hv] at hended
    rw [claimOf_arbitrate, hself (by rw [hended]; exact (chan_raise _ _ _ c).trans (chan_enterTail_self _ hvchan htail)), hended]
    refine ⟨rfl, rfl, (claimOf_raise _ _ _ c).trans (claimOf_enterTail_self _ hvchan htail), fun k hk => ?_⟩
    have hcode : ((playedBlock i).code i.play.phrase).getD 0 = k := by
      rw [show (playedBlock i).code i.play.phrase = some k from hk]
      rfl
    rw [← hcode]
    refine raised_arbitrate (raised_from _ _ (fun f => ?_) ?_)
    · rw [hunraised.2, hv, ← hu.faults]
      rfl
    · rw [hunraised.1 15 (by decide), hv, ← hu.counters]
      exact (count_other u .underruns 15 (by decide)).symm
  · have hplayOn := (playOn_of_last hu.chan (i := playedBlock i) hstate hdir hlast).trans (boundary_of_over hu.chan hevac hover)
    rw [hunow, claimOf_arbitrate, hself (by rw [hplayOn]; exact chan_enterTail_self _ hu.chan htail), hplayOn]
    exact ⟨rfl, rfl, rfl, claimOf_enterTail_self _ hu.chan htail⟩

/-! ### The evacuation cycle (R156, R157) -/

theorem thirdGap_of_evac {i : ChanInst} {e : EvacCycle} (hevac : i.evac = some e) (hstate : i.state = .speaking) (s : State) (c : ChanId)
    (code : Nat) : s.thirdGap c i code = (s.startTone c).raise .phraseUnderrun (some code) := by
  have hlead : i.state ≠ .leadIn := by rw [hstate]; decide
  simp only [State.thirdGap, hevac, if_neg hlead]

/-- What the statements say of an instance in the pause of R156. -/
structure Pausing (s : State) (now : Nat) (j : ChanInst) : Prop where
  speaking : j.state = .speaking
  silent : j.inPlay = .nothing
  cycle : ∃ f, j.evac = some f ∧ f.toneEnd = none ∧ f.pauseEnd = some (now + 2000) ∧ (s.store.valid = false → f.chosen = .tone)

theorem chan_assemble {s t : State} {n : Nat} {x : Inputs} {l : Option (List Nat)} (h : s.assemble n x = (t, l)) (c : ChanId) :
    t.chan c = s.chan c := by
  unfold State.assemble at h
  split at h <;> cases h
  · rfl
  · exact chan_raise _ _ _ c

theorem pausing_startPause {s : State} {c : ChanId} {i : ChanInst} {e : EvacCycle} (hchan : s.chan c = some i) (hstate : i.state = .speaking)
    (hevac : i.evac = some e) : ∃ j, (s.startPause c).chan c = some j ∧ Pausing s s.now j := by
  obtain ⟨u, hu⟩ : ∃ u, u = s.updChan c fun i =>
      { i.stopPlay with evac := i.evac.map fun e => { e with toneEnd := none, pauseEnd := some (s.now + 2000) } } := ⟨_, rfl⟩
  have huchan : u.chan c = some { i.stopPlay with evac := i.evac.map fun e => { e with toneEnd := none, pauseEnd := some (s.now + 2000) } } := by
    rw [hu]
    exact chan_updChan_self _ hchan
  have hpause : s.startPause c = u.choosePlaying c := by rw [hu]; rfl
  have hvalid : u.store.valid = s.store.valid := by rw [hu]; rfl
  rw [hpause]
  unfold State.choosePlaying
  split
  next hon =>
    split
    next t l h =>
      refine ⟨_, chan_updChan_self _ ((chan_assemble h c).trans huchan), hstate, rfl, ?_⟩
      refine ⟨{ e with toneEnd := none, pauseEnd := some (s.now + 2000), chosen := .message }, ?_, rfl, rfl, fun hoff => ?_⟩
      · simp only [ChanInst.chooseMessage, ChanInst.stopPlay, hevac, Option.map_some]
      · rw [hvalid, hoff] at hon
        cases hon
    next t h =>
      refine ⟨_, chan_updChan_self _ ((chan_assemble h c).trans huchan), hstate, rfl, ?_⟩
      refine ⟨{ e with toneEnd := none, pauseEnd := some (s.now + 2000), chosen := .tone }, ?_, rfl, rfl, fun _ => rfl⟩
      simp only [ChanInst.chooseTone, ChanInst.stopPlay, hevac, Option.map_some]
  · refine ⟨_, chan_updChan_self _ huchan, hstate, rfl, ?_⟩
    refine ⟨{ e with toneEnd := none, pauseEnd := some (s.now + 2000), chosen := .tone }, ?_, rfl, rfl, fun _ => rfl⟩
    simp only [ChanInst.chooseTone, ChanInst.stopPlay, hevac, Option.map_some]

/-- An instance as a playing begins (R156). -/
def cycled (i : ChanInst) : ChanInst := { i with gapCount := 0, evac := i.evac.map fun e => { e with pauseEnd := none } }

theorem startPlaying_of_evac {s : State} {c : ChanId} {i : ChanInst} {e : EvacCycle} (hchan : s.chan c = some i) (hevac : i.evac = some e) :
    s.startPlaying c = match e.chosen with
      | .message => (s.updChan c cycled).boundary c
      | .tone => (s.updChan c cycled).startTone c := by
  simp only [State.startPlaying, hchan, Option.bind_some, hevac]
  rfl

/-- Settles O54: the ends of tone and pause, and the branches of `State.playOn` that the message shares with other instances. -/
theorem evacuationCycle : Obligations.EvacuationCycle := by
  intro s i e d hawake hchan hstate hevac
  have hspeaking : s.speakingEvac = some e := by
    simp only [State.speakingEvac, hchan, Option.bind_some, hstate, if_true, hevac]
  refine ⟨fun htone => ?_, fun hpause => ?_, fun n hend hdir => ⟨fun hplay after hafter => ?_,
    fun hplay hmore hbuf => gapEnd_of_buffered hawake hchan hstate hend hdir hplay hmore hbuf⟩⟩
  · have hexec : exec .tonePlayingEnd s = .next ((s.advanceTo d).startPause 0).arbitrate := by
      have hover : s.toneOver = ((s.advanceTo d).startPause 0).arbitrate := by
        simp only [State.toneOver, hspeaking, Option.bind_some, htone]
      rw [← hover]
      exact exec_awake hawake rfl
    have hwithin := within_expired (within_startPause 0 (s.advanceTo d))
    obtain ⟨hnow, hothers, hzones, hcalls, hqueue, hrest⟩ := hwithin.expiry
    obtain ⟨j, hj, hspeak, hsilent, f, hf, htoneEnd, hpauseEnd, hchosen⟩ := pausing_startPause (s := s.advanceTo d) hchan hstate hevac
    rw [← hwithin.now] at hpauseEnd
    exact ⟨_, j, f, hexec, hnow, (chan_arbitrate _ _).trans hj, hspeak, hsilent, hf, htoneEnd, hpauseEnd, hchosen, hothers, hzones, hcalls,
      hqueue, hrest⟩
  · have hexec : exec .evacPauseEnd s = .next ((s.advanceTo d).startPlaying 0).arbitrate := by
      have hover : s.pauseOver = ((s.advanceTo d).startPlaying 0).arbitrate := by
        simp only [State.pauseOver, hspeaking, Option.bind_some, hpause]
      rw [← hover]
      exact exec_awake hawake rfl
    have hwithin := within_expired (within_startPlaying 0 (s.advanceTo d))
    obtain ⟨j, hj, -⟩ := hwithin.inst i hchan
    obtain ⟨hnow, hothers, hzones, hcalls, hqueue, hrest⟩ := hwithin.expiry
    have hself {k : ChanInst} (h : ((s.advanceTo d).startPlaying 0).chan 0 = some k) : j = k :=
      Option.some.inj (hj.symm.trans ((chan_arbitrate _ _).trans h))
    have hcycled : ((s.advanceTo d).updChan 0 cycled).chan 0 = some (cycled i) := chan_updChan_self (s := s.advanceTo d) _ hchan
    have hplaying := startPlaying_of_evac (s := s.advanceTo d) hchan hevac
    refine ⟨_, j, hexec, hnow, hj, fun hchosen => ?_, fun p hchosen hstop hphrase hnext hbuf => ?_, hothers, hzones, hcalls, hqueue, hrest⟩
    · rw [hchosen] at hplaying
      rw [hwithin.now, hself (by rw [hplaying]; exact chan_startTone hcycled)]
      refine ⟨hstate, rfl, ?_⟩
      simp only [toned, cycled, hevac, Option.map_some]
      rfl
    · rw [hchosen] at hplaying
      have hstart := (boundary_of_next hcycled hstop (q := p) (by rw [show (cycled i).play.phrase = 0 from hphrase]; exact hnext)).trans
        (nextBlock_of_buffered hcycled hbuf true)
      rw [hwithin.now, hself (by rw [hplaying]; exact hstart ▸ chan_setChan_self _ _ _)]
      simp only [ChanInst.startBlock, cycled, hevac, Option.map_some]
      rfl
  · subst hafter
    obtain ⟨u, hu, hexec⟩ := between_block hawake hchan hend hplay
    have hwithin := within_expired (hu.within.trans (within_playOn 0 u))
    obtain ⟨j, hj, -⟩ := hwithin.inst i hchan
    have hafter := afterBlock_playOn hu hstate hdir hplay hj
    obtain ⟨hnow, hothers, hzones, hcalls, hqueue, hrest⟩ := hwithin.expiry
    have hunow : (u.playOn 0).arbitrate.now = u.now := hwithin.now.trans hu.within.now.symm
    have hself {k : ChanInst} (h : (u.playOn 0).chan 0 = some k) : j = k := Option.some.inj (hj.symm.trans ((chan_arbitrate _ _).trans h))
    refine ⟨_, j, hexec, hnow, hj, hafter.next, fun hmore hbuf => ?_, fun hlast hstop hover hphrase => ?_, hafter.phrase, hothers, hzones, hcalls,
      hqueue, hrest⟩
    · obtain ⟨hcount, hgapCount⟩ := hafter.underruns hmore hbuf
      refine ⟨hcount, hgapCount, hafter.gap hmore hbuf, fun hgap => ?_⟩
      have hplayOn := (playOn_of_more hu.chan (i := playedBlock i) hstate hdir hmore).trans (nextBlock_of_third_gap hu.chan hbuf false hgap)
      have htoned := hplayOn.trans (thirdGap_of_evac hevac hstate _ 0 _)
      obtain ⟨v, hv⟩ : ∃ v, v = (u.count .underruns).setChan 0 (some { playedBlock i with gapCount := i.gapCount + 1 }) := ⟨_, rfl⟩
      have hvchan : v.chan 0 = some { playedBlock i with gapCount := i.gapCount + 1 } := by
        rw [hv]
        exact chan_setChan_self _ _ _
      have hvnow : v.now = u.now := by rw [hv]; rfl
      change u.playOn 0 = State.raise (State.startTone ((u.count .underruns).setChan 0 (some { playedBlock i with gapCount := i.gapCount + 1 })) 0) _ _ at htoned
      rw [← hv] at htoned
      rw [hunow, hself (by rw [htoned]; exact (chan_raise _ _ _ 0).trans (chan_startTone hvchan)), htoned, hvnow]
      refine ⟨hstate, rfl, ?_, fun k hk => ?_⟩
      · simp only [toned, playedBlock, hevac, Option.map_some]
      · have hcode : ((playedBlock i).code i.play.phrase).getD 0 = k := by
          rw [show (playedBlock i).code i.play.phrase = some k from hk]
          rfl
        rw [← hcode]
        refine raised_arbitrate (raised_from _ _ (fun f => ?_) ?_)
        · rw [hv, ← hu.faults]
          rfl
        · rw [hv, ← hu.counters]
          exact (count_other u .underruns 15 (by decide)).symm
    · have hplayOn := ((playOn_of_last hu.chan (i := playedBlock i) hstate hdir hlast).trans
        (boundary_of_evac hu.chan hevac hstop hover)).trans (if_neg hphrase)
      obtain ⟨k, hk, hspeak, hsilent, f, hf, htoneEnd, hpauseEnd, hchosen⟩ := pausing_startPause (s := u) hu.chan hstate hevac
      rw [hunow, hself (by rw [hplayOn]; exact hk)]
      rw [hu.store] at hchosen
      exact ⟨hspeak, hsilent, f, hf, htoneEnd, hpauseEnd, hchosen⟩


end Sys2Proof.Proofs.ChannelRules
end

section
/-! Lead-in and its deadlines, of the evacuation instance too (R127, R128, R136, R156). -/

namespace Sys2Proof.Proofs.LeadRules

open Sys2Proof.Machine
open Sys2Proof.Proofs.LiveClose Sys2Proof.Proofs.Faults Sys2Proof.Proofs.Upkeep Sys2Proof.Proofs.Uphold Sys2Proof.Proofs.CallRules
open Sys2Proof.Proofs.Commands Sys2Proof.Proofs.Steps Sys2Proof.Proofs.Reports Sys2Proof.Proofs.Starting Sys2Proof.Proofs.Transmit
open Sys2Proof.Proofs.LineRules Sys2Proof.Proofs.FaultRules Sys2Proof.Proofs.QueueRules Sys2Proof.Proofs.ClaimRules
open Sys2Proof.Proofs.ChannelRules

/-! ### What raises no fault -/

/-- From `s` to `t` no fault was raised or cleared, and no counter moved but TX_DROPPED and UNDERRUNS. -/
structure Unraised (s t : State) : Prop where
  dropped : t.counters[(15 : Fin 16)] = s.counters[(15 : Fin 16)]
  record : ∀ i : Fin 16, (t.faults.slots[i]).record = (s.faults.slots[i]).record

namespace Unraised

theorem refl (s : State) : Unraised s s := ⟨rfl, fun _ => rfl⟩

theorem trans {s t u : State} (h : Unraised s t) (k : Unraised t u) : Unraised s u :=
  ⟨k.dropped.trans h.dropped, fun i => (k.record i).trans (h.record i)⟩

/-- A raise after work that raises nothing is a raise in the first state. -/
theorem raised {s t : State} (h : Unraised s t) (k : FaultKind) (subject : Option Nat) : s.Raised (t.raise k subject) k subject :=
  raised_from k subject (fun i => (h.record i).symm) h.dropped.symm

end Unraised

theorem unraised_of_tells {s t : State} (h : Tells s t) : Unraised s t := ⟨h.counter 15 (by decide), h.record⟩

theorem unraised_endTail (s : State) (c : ChanId) (o : Ending) : Unraised s (s.enterTail c o) := by
  obtain hnone | ⟨i, hi⟩ := Option.eq_none_or_eq_some (s.chan c)
  · rw [enterTail_of_free hnone]
    exact Unraised.refl s
  · by_cases htail : i.state = .tail
    · rw [enterTail_of_tail o hi htail]
      exact Unraised.refl s
    · obtain ⟨hcounter, hrecord⟩ := unraised_enterTail hi htail o
      exact ⟨hcounter 15 (by decide), hrecord⟩

theorem unraised_disownChime (s : State) (c : ChanId) : Unraised s (s.disownChime c) := by
  rw [disownChime_frame]
  exact ⟨rfl, fun _ => rfl⟩

theorem unraised_offerClaim (s : State) (c : ChanId) : Unraised s (s.offerClaim c) := by
  obtain hnone | ⟨r, hr⟩ := Option.eq_none_or_eq_some (s.claimOf c)
  · rw [offerClaim_of_unclaimed hnone]
    exact Unraised.refl s
  · rw [offerClaim_of_claim hr]
    exact Unraised.trans (t := s.setClaim c (some { r with refreshAt := s.now + 8000 })) ⟨rfl, fun _ => rfl⟩
      (unraised_of_tells (tells_offer _ _))

/-! ### The claim is established (R109) -/

section
variable {s : State} {c : ChanId}

theorem establish_of_unclaimed (h : s.claimOf c = none) : s.establish c = s := by simp only [State.establish, h]

theorem establish_of_claim {r : OwnClaim} (h : s.claimOf c = some r) :
    s.establish c = (s.setClaim c (some { r with established := true })).offerClaim c := by simp only [State.establish, h]

theorem claimOf_establish {r : OwnClaim} (h : s.claimOf c = some r) :
    (s.establish c).claimOf c = some { r with established := true, refreshAt := s.now + 8000 } := by
  rw [establish_of_claim h]
  exact claimOf_offerClaim (claimOf_setClaim_self _ _ _)

theorem chan_establish (d : ChanId) : (s.establish c).chan d = s.chan d := by
  obtain hnone | ⟨r, hr⟩ := Option.eq_none_or_eq_some (s.claimOf c)
  · rw [establish_of_unclaimed hnone]
  · rw [establish_of_claim hr]
    exact chan_offerClaim _ c d

theorem unraised_establish : Unraised s (s.establish c) := by
  obtain hnone | ⟨r, hr⟩ := Option.eq_none_or_eq_some (s.claimOf c)
  · rw [establish_of_unclaimed hnone]
    exact Unraised.refl s
  · rw [establish_of_claim hr]
    exact Unraised.trans (t := s.setClaim c (some { r with established := true })) ⟨rfl, fun _ => rfl⟩ (unraised_offerClaim _ c)

end

/-! ### Speech begins (R128, R129, R136, R156) -/

/-- An instance that is not LIVE, as it enters SPEAKING. -/
def spoken (i : ChanInst) : ChanInst := { i with priming := none, play := { phrase := 0, block := 0 }, state := .speaking }

/-- A phrase instance or the evacuation instance: one that is no LIVE instance. -/
def Spoken (i : ChanInst) : Prop := ∀ desk, i.key ≠ some (.live desk)

theorem spoken_of_key {i : ChanInst} {k : Key} (hkey : i.key = some k) (h : k.isLive = false) : Spoken i := by
  rintro desk hdesk
  rw [hkey] at hdesk
  cases hdesk
  cases h

theorem spoken_of_none {i : ChanInst} (hkey : i.key = none) : Spoken i := fun desk hdesk => by
  rw [hkey] at hdesk
  cases hdesk

section
variable {s : State} {c : ChanId} {i : ChanInst} (hchan : s.chan c = some i)
include hchan

theorem beginSpeech_of_live {desk : Nat} (hkey : i.key = some (.live desk)) :
    s.beginSpeech c = (s.setChan c (some
      { i with priming := none, play := { phrase := 0, block := 0 }, state := .live, keepAt := some (s.now + 5000) })).establish c := by
  simp only [State.beginSpeech, hchan, hkey]

theorem beginSpeech_of_phrase (hkey : Spoken i) (hevac : i.evac = none) :
    s.beginSpeech c = ((s.setChan c (some (spoken i))).establish c).boundary c := by
  simp only [State.beginSpeech, hchan]
  split
  next desk h => exact absurd h (hkey desk)
  next h _ => rw [hevac] at h; cases h
  next => rfl

theorem beginSpeech_of_evac (hkey : Spoken i) {e : EvacCycle} (hevac : i.evac = some e) :
    s.beginSpeech c = ((s.setChan c (some (spoken i))).establish c).startPlaying c := by
  simp only [State.beginSpeech, hchan]
  split
  next desk h => exact absurd h (hkey desk)
  next => rfl
  next h _ => rw [hevac] at h; cases h

omit hchan in
theorem chan_spoken : ((s.setChan c (some (spoken i))).establish c).chan c = some (spoken i) :=
  (chan_establish c).trans (chan_setChan_self _ _ _)

/-- A phrase instance begins with its first block, which is buffered (R128, R129). -/
theorem beginSpeech_first (hkey : Spoken i) (hevac : i.evac = none) (hstop : i.stopPending = false) {p : Nat}
    (hnext : i.playableFrom 1 = some p) (hbuf : i.buffered { phrase := p, block := 0 } = true) :
    s.beginSpeech c = ((s.setChan c (some (spoken i))).establish c).setChan c
      (some ((spoken i).startBlock { phrase := p, block := 0 } s.now)) := by
  have hspoken := chan_spoken (s := s) (c := c) (i := i)
  have hnow : ((s.setChan c (some (spoken i))).establish c).now = s.now :=
    now_of_clock ((keeps_setChan s c _).trans (keeps_establish _ c)).clock
  rw [beginSpeech_of_phrase hchan hkey hevac, boundary_of_next hspoken hstop hnext, nextBlock_of_buffered hspoken hbuf true, hnow]

/-- The evacuation instance begins a tone playing (R156, R157). -/
theorem beginSpeech_tone (hkey : Spoken i) {e : EvacCycle} (hevac : i.evac = some e) (hchosen : e.chosen = .tone) :
    s.beginSpeech c = (((s.setChan c (some (spoken i))).establish c).updChan c cycled).startTone c := by
  rw [beginSpeech_of_evac hchan hkey hevac, startPlaying_of_evac chan_spoken hevac, hchosen]

/-- The evacuation instance begins its message, whose first block is buffered (R156). -/
theorem beginSpeech_message (hkey : Spoken i) {e : EvacCycle} (hevac : i.evac = some e) (hchosen : e.chosen = .message)
    (hstop : i.stopPending = false) {p : Nat} (hnext : i.playableFrom 1 = some p) (hbuf : i.buffered { phrase := p, block := 0 } = true) :
    s.beginSpeech c = ((((s.setChan c (some (spoken i))).establish c).updChan c cycled).setChan c
      (some ((cycled (spoken i)).startBlock { phrase := p, block := 0 } s.now))) := by
  have hcycled := chan_updChan_self cycled (chan_spoken (s := s) (c := c) (i := i))
  have hnow : (((s.setChan c (some (spoken i))).establish c).updChan c cycled).now = s.now :=
    now_of_clock (((keeps_setChan s c _).trans (keeps_establish _ c)).trans (keeps_updChan _ c cycled)).clock
  rw [beginSpeech_of_evac hchan hkey hevac, startPlaying_of_evac chan_spoken hevac, hchosen]
  dsimp only
  rw [boundary_of_next hcycled hstop hnext, nextBlock_of_buffered hcycled hbuf true, hnow]

end

/-! ### HOLD (R128) -/

section
variable {i : ChanInst}

theorem speech_of_live {desk : Nat} (hkey : i.key = some (.live desk)) : i.speech = .ready := by simp only [ChanInst.speech, hkey]

theorem speech_of_tone {e : EvacCycle} (hevac : i.evac = some e) (hchosen : e.chosen = .tone) : i.speech = .ready := by
  obtain ⟨chosen, toneEnd, pauseEnd⟩ := e
  cases hchosen
  unfold ChanInst.speech
  rw [hevac]
  split
  · rfl
  · rfl
  next hnot => exact (hnot _ _ rfl).elim

theorem speech_of_phrases (hkey : Spoken i) (hevac : ∀ e, i.evac = some e → e.chosen = .message) :
    i.speech = match i.playableFrom 1 with
      | none => .exhausted
      | some p => if i.buffered { phrase := p, block := 0 } then .ready else .awaited p := by
  unfold ChanInst.speech
  split
  next desk h => exact absurd h (hkey desk)
  next h _ => exact nomatch hevac _ h
  next => rfl

end

section
variable {s : State} {c : ChanId} {i : ChanInst} (hchan : s.chan c = some i)
include hchan

theorem judgeHold_of_early (h : ¬(i.state = .leadIn ∧ i.stage = .hold ∧ i.listenEnd = none)) : s.judgeHold c = s := by
  simp only [State.judgeHold, hchan, if_neg h]

variable (hhold : i.state = .leadIn ∧ i.stage = .hold ∧ i.listenEnd = none)
include hhold

theorem judgeHold_of_ready (h : i.speech = .ready) : s.judgeHold c = s.beginSpeech c := by
  simp only [State.judgeHold, hchan, if_pos hhold, h]

theorem judgeHold_of_awaited {p : Nat} (h : i.speech = .awaited p) (hpriming : i.priming = none) :
    s.judgeHold c = s.setChan c (some { i with priming := some (i.holdFrom + 1000) }) := by
  simp only [State.judgeHold, hchan, if_pos hhold, h, hpriming]

theorem judgeHold_of_exhausted {e : EvacCycle} (h : i.speech = .exhausted) (hevac : i.evac = some e) :
    s.judgeHold c = (s.updChan c ChanInst.chooseTone).beginSpeech c := by
  simp only [State.judgeHold, hchan, if_pos hhold, h, hevac]

end

/-! ### The wake end (R127, R128) -/

theorem setChan_setChan (s : State) (c : ChanId) (i j : Option ChanInst) : (s.setChan c i).setChan c j = s.setChan c j := by
  simp only [State.setChan, Vector.set_set]

theorem updChan_of_chan {s : State} {c : ChanId} {i : ChanInst} (f : ChanInst → ChanInst) (h : s.chan c = some i) :
    s.updChan c f = s.setChan c (some (f i)) := by simp only [State.updChan, h, Option.map_some]

/-- LEAD_IN is judged (R127, R128) for an instance at its wake end. -/
theorem leadIn_of_wake {s : State} {c : ChanId} {i : ChanInst} (hchan : s.chan c = some i) (hstate : i.state = .leadIn)
    (hstage : i.stage = .wake) (hwake : i.wakeEnd = none) :
    s.leadIn c =
      if i.chime.isSome = true then
        if i.buffered { phrase := 0, block := 0 } = true then
          s.setChan c (some { i.startBlock { phrase := 0, block := 0 } s.now with stage := .chime, priming := none })
        else s
      else s.enterHold c := by
  simp only [State.leadIn, hchan, hstate, if_true, hstage, hwake]
  cases hchime : i.chime with
  | none => rfl
  | some code => rfl

theorem enterHold_of_early {s : State} {c : ChanId} {i : ChanInst} (hchan : s.chan c = some i) (hlisten : i.listenEnd.isSome = true) :
    s.enterHold c = s.setChan c (some { i.stopPlay with stage := .hold, priming := none, holdFrom := s.now }) := by
  rw [State.enterHold, updChan_of_chan _ hchan, judgeHold_of_early (chan_setChan_self _ _ _)]
  rintro ⟨-, -, hnone⟩
  rw [show i.listenEnd = none from hnone] at hlisten
  cases hlisten

/-- An instance whose wake end comes at `w` (R128). -/
def waking (i : ChanInst) (w : Nat) : ChanInst :=
  { i with wakeEnd := none, priming := if i.chime.isSome && !i.buffered { phrase := 0, block := 0 } then some (w + 1000) else none }

theorem passWake_eq {s : State} {c : ChanId} {i : ChanInst} (hchan : s.chan c = some i) (w : Nat) :
    s.passWake c w = (s.setChan c (some (waking i w))).leadIn c := by
  rw [State.passWake, updChan_of_chan _ hchan]
  rfl

section
variable {s : State} {c : ChanId} {i : ChanInst} (hchan : s.chan c = some i) (hstate : i.state = .leadIn)
include hchan hstate

theorem leadingIn_of_chan : s.leadingIn c = some i := by simp only [State.leadingIn, hchan, Option.bind_some, hstate, if_true]

theorem wakeOver_of_wake {d : Nat} (hwake : i.wakeEnd = some d) : s.wakeOver c = ((s.advanceTo d).passWake c d).arbitrate := by
  simp only [State.wakeOver, leadingIn_of_chan hchan hstate, Option.bind_some, hwake]

theorem listenOver_of_listen {d : Nat} (hlisten : i.listenEnd = some d) :
    s.listenOver c = (((s.advanceTo d).setChan c (some (i.listened (s.advanceTo d).now))).judgeHold c).arbitrate := by
  simp only [State.listenOver, leadingIn_of_chan hchan hstate, hlisten]

theorem primingOver_of_priming {d : Nat} (hpriming : i.priming = some d) :
    s.primingOver c = ((if i.evac.isSome then (s.advanceTo d).primeEvac c i else (s.advanceTo d).enterTail c .underrun).raise .phraseUnderrun
      (some ((i.code i.awaited).getD 0))).arbitrate := by
  simp only [State.primingOver, leadingIn_of_chan hchan hstate, hpriming]

variable (hstage : i.stage = .wake) (w : Nat)
include hstage

theorem passWake_of_ready (hchime : i.chime.isSome = true) (hbuf : i.buffered { phrase := 0, block := 0 } = true) :
    s.passWake c w = s.setChan c (some
      { i with
        wakeEnd := none, stage := .chime, priming := none, play := { phrase := 0, block := 0 }, inPlay := .block,
        blockEnd := some (s.now + 32) }) := by
  rw [passWake_eq hchan w, leadIn_of_wake (i := waking i w) (chan_setChan_self _ _ _) hstate hstage rfl, if_pos (show (waking i w).chime.isSome = true from hchime),
    if_pos (show (waking i w).buffered { phrase := 0, block := 0 } = true from hbuf), setChan_setChan]
  rfl

theorem passWake_of_awaited (hchime : i.chime.isSome = true) (hbuf : i.buffered { phrase := 0, block := 0 } = false) :
    s.passWake c w = s.setChan c (some { i with wakeEnd := none, priming := some (w + 1000) }) := by
  have hnot : ¬i.buffered { phrase := 0, block := 0 } = true := by rw [hbuf]; exact Bool.false_ne_true
  rw [passWake_eq hchan w, leadIn_of_wake (i := waking i w) (chan_setChan_self _ _ _) hstate hstage rfl, if_pos (show (waking i w).chime.isSome = true from hchime),
    if_neg (show ¬(waking i w).buffered { phrase := 0, block := 0 } = true from hnot), waking, hchime, hbuf]
  rfl

theorem passWake_of_no_chime (hchime : i.chime = none) (hlisten : i.listenEnd.isSome = true) :
    s.passWake c w = s.setChan c (some
      { i with wakeEnd := none, stage := .hold, priming := none, holdFrom := s.now, inPlay := .nothing, blockEnd := none }) := by
  have hnot : ¬i.chime.isSome = true := by rw [hchime]; exact Bool.false_ne_true
  rw [passWake_eq hchan w, leadIn_of_wake (i := waking i w) (chan_setChan_self _ _ _) hstate hstage rfl, if_neg (show ¬(waking i w).chime.isSome = true from hnot),
    enterHold_of_early (i := waking i w) (chan_setChan_self _ _ _) hlisten, setChan_setChan]
  rfl

end

/-! ### The first playing of the evacuation instance (R156) -/

/-- The evacuation instance has begun to speak, its claim established. -/
structure Begun (c : ChanId) (s t : State) (k : ChanInst) : Prop where
  chan : t.chan c = some k
  speaking : k.state = .speaking
  gapCount : k.gapCount = 0
  claim : ∀ r, s.claimOf c = some r → t.claimOf c = some { r with established := true, refreshAt := s.now + 8000 }
  unraised : Unraised s t

section
variable {s : State} {c : ChanId} {i : ChanInst} (hchan : s.chan c = some i) (hkey : Spoken i) {e : EvacCycle} (hevac : i.evac = some e)
include hchan hkey hevac

theorem begun_tone (hchosen : e.chosen = .tone) :
    ∃ k, Begun c s (s.beginSpeech c) k ∧ k.inPlay = .nothing
      ∧ k.evac = some { chosen := .tone, toneEnd := some (s.now + 10000), pauseEnd := none } := by
  obtain ⟨u, hu⟩ : ∃ u, u = (s.setChan c (some (spoken i))).establish c := ⟨_, rfl⟩
  have huchan : u.chan c = some (spoken i) := by rw [hu]; exact chan_spoken
  have hnow : (u.updChan c cycled).now = s.now := by
    rw [hu]
    exact now_of_clock (((keeps_setChan s c _).trans (keeps_establish _ c)).trans (keeps_updChan _ c cycled)).clock
  have hunraised : Unraised s u := by
    rw [hu]
    exact Unraised.trans (t := s.setChan c (some (spoken i))) ⟨rfl, fun _ => rfl⟩ unraised_establish
  rw [beginSpeech_tone hchan hkey hevac hchosen, ← hu]
  refine ⟨_, ⟨chan_startTone (chan_updChan_self cycled huchan), rfl, rfl, fun r hr => ?_, ⟨hunraised.dropped, hunraised.record⟩⟩, rfl, ?_⟩
  · have hclaim : u.claimOf c = some { r with established := true, refreshAt := s.now + 8000 } := by
      rw [hu]
      exact claimOf_establish (s := s.setChan c (some (spoken i))) hr
    exact hclaim
  · rw [hnow]
    simp only [toned, cycled, spoken, hevac, Option.map_some]

theorem begun_message (hchosen : e.chosen = .message) (hstop : i.stopPending = false) {p : Nat} (hnext : i.playableFrom 1 = some p)
    (hbuf : i.buffered { phrase := p, block := 0 } = true) :
    ∃ k, Begun c s (s.beginSpeech c) k ∧ k.inPlay = .block ∧ k.play = { phrase := p, block := 0 } ∧ k.blockEnd = some (s.now + 32) := by
  obtain ⟨u, hu⟩ : ∃ u, u = (s.setChan c (some (spoken i))).establish c := ⟨_, rfl⟩
  have hunraised : Unraised s u := by
    rw [hu]
    exact Unraised.trans (t := s.setChan c (some (spoken i))) ⟨rfl, fun _ => rfl⟩ unraised_establish
  rw [beginSpeech_message hchan hkey hevac hchosen hstop hnext hbuf, ← hu]
  refine ⟨_, ⟨chan_setChan_self _ _ _, rfl, rfl, fun r hr => ?_, ⟨hunraised.dropped, hunraised.record⟩⟩, rfl, rfl, rfl⟩
  have hclaim : u.claimOf c = some { r with established := true, refreshAt := s.now + 8000 } := by
    rw [hu]
    exact claimOf_establish (s := s.setChan c (some (spoken i))) hr
  exact hclaim

/-- With every phrase missing, the message becomes a tone (R156). -/
theorem begun_exhausted :
    ∃ k, Begun c s ((s.updChan c ChanInst.chooseTone).beginSpeech c) k ∧ k.inPlay = .nothing
      ∧ k.evac = some { chosen := .tone, toneEnd := some (s.now + 10000), pauseEnd := none } := by
  obtain ⟨k, hbegun, hplay, hcycle⟩ := begun_tone (s := s.updChan c ChanInst.chooseTone) (e := { e with chosen := .tone })
    (chan_updChan_self _ hchan) hkey (by simp only [ChanInst.chooseTone, hevac, Option.map_some]) rfl
  exact ⟨k, ⟨hbegun.chan, hbegun.speaking, hbegun.gapCount, hbegun.claim, ⟨hbegun.unraised.dropped, hbegun.unraised.record⟩⟩, hplay, hcycle⟩

omit hchan in
theorem speech_of_evac :
    i.speech = if e.chosen = .tone then .ready else match i.playableFrom 1 with
      | none => .exhausted
      | some p => if i.buffered { phrase := p, block := 0 } then .ready else .awaited p := by
  split
  next hchosen => exact speech_of_tone hevac hchosen
  next hchosen =>
    refine speech_of_phrases hkey fun f hf => ?_
    rw [hevac] at hf
    cases hf
    cases hmode : e.chosen with
    | message => rfl
    | tone => exact absurd hmode hchosen

theorem unraised_judgeHold (hstop : i.stopPending = false) : Unraised s (s.judgeHold c) := by
  by_cases hhold : i.state = .leadIn ∧ i.stage = .hold ∧ i.listenEnd = none
  · have hspeech := speech_of_evac hkey hevac
    by_cases hchosen : e.chosen = .tone
    · rw [if_pos hchosen] at hspeech
      rw [judgeHold_of_ready hchan hhold hspeech]
      obtain ⟨k, hbegun, -⟩ := begun_tone hchan hkey hevac hchosen
      exact hbegun.unraised
    · rw [if_neg hchosen] at hspeech
      have hmessage : e.chosen = .message := by
        cases hmode : e.chosen with
        | message => rfl
        | tone => exact absurd hmode hchosen
      obtain hnone | ⟨p, hp⟩ := Option.eq_none_or_eq_some (i.playableFrom 1)
      · rw [hnone] at hspeech
        rw [judgeHold_of_exhausted hchan hhold hspeech hevac]
        obtain ⟨k, hbegun, -⟩ := begun_exhausted hchan hkey hevac
        exact hbegun.unraised
      · rw [hp] at hspeech
        dsimp only at hspeech
        by_cases hbuf : i.buffered { phrase := p, block := 0 } = true
        · rw [if_pos hbuf] at hspeech
          rw [judgeHold_of_ready hchan hhold hspeech]
          obtain ⟨k, hbegun, -⟩ := begun_message hchan hkey hevac hmessage hstop hp hbuf
          exact hbegun.unraised
        · rw [if_neg hbuf] at hspeech
          obtain hpriming | ⟨w, hpriming⟩ := Option.eq_none_or_eq_some i.priming
          · rw [judgeHold_of_awaited hchan hhold hspeech hpriming]
            exact ⟨rfl, fun _ => rfl⟩
          · simp only [State.judgeHold, hchan, if_pos hhold, hspeech, hpriming]
            exact Unraised.refl s
  · rw [judgeHold_of_early hchan hhold]
    exact Unraised.refl s

end

/-- Settles O44: each deadline with the branch of lead-in that it reaches. -/
theorem leadInDeadlines : Obligations.LeadInDeadlines := by
  intro s c i hawake hchan hstate
  refine ⟨fun d hstage hwake => ?_, fun d hlisten => ?_, fun d hpriming hevac hout => ?_, fun e hevac hkey hstop => ⟨fun d hlisten hstage => ?_, fun d hpriming => ?_⟩⟩
  · have hexec : exec (.wakeEnd c) s = .next ((s.advanceTo d).passWake c d).arbitrate := by
      rw [← wakeOver_of_wake hchan hstate hwake]
      exact exec_awake hawake rfl
    have hwithin := within_expired (within_passWake c (s.advanceTo d) d)
    obtain ⟨hnow, -⟩ := hwithin.expiry
    have hwaking := passWake_eq (s := s.advanceTo d) hchan d
    obtain ⟨j, hj, hjwake, -⟩ := (within_leadIn c ((s.advanceTo d).setChan c (some (waking i d)))).inst (waking i d) (chan_setChan_self _ _ _)
    rw [← hwaking, ← chan_arbitrate] at hj
    have hset {k : ChanInst} (h : (s.advanceTo d).passWake c d = (s.advanceTo d).setChan c (some k)) :
        j = k ∧ ((s.advanceTo d).passWake c d).arbitrate =
          { s with
            clock := { s.clock with now := ((s.advanceTo d).passWake c d).arbitrate.now }, chans := s.chans.set c (some k),
            port := ((s.advanceTo d).passWake c d).arbitrate.port } := by
      refine ⟨Option.some.inj (hj.symm.trans ((chan_arbitrate _ _).trans (by rw [h]; exact chan_setChan_self _ _ _))), ?_⟩
      rw [h, arbitrate_eq]
      rfl
    have hready (hchime) (hbuf) := hset (passWake_of_ready (s := s.advanceTo d) hchan hstate hstage d hchime hbuf)
    have hawaited (hchime) (hbuf) := hset (passWake_of_awaited (s := s.advanceTo d) hchan hstate hstage d hchime hbuf)
    have hhold (hchime) (hlisten) := hset (passWake_of_no_chime (s := s.advanceTo d) hchan hstate hstage d hchime hlisten)
    rw [← hwithin.now] at hready hhold
    refine ⟨_, j, hexec, hj, hnow, hjwake rfl, fun hchime hbuf => (hready hchime hbuf).1, fun hchime hbuf => (hawaited hchime hbuf).1,
      fun hchime hlisten => (hhold hchime hlisten).1, fun h => ?_⟩
    by_cases hchime : i.chime.isSome = true
    · cases hbuf : i.buffered { phrase := 0, block := 0 } with
      | true => rw [(hready hchime hbuf).1]; exact (hready hchime hbuf).2
      | false => rw [(hawaited hchime hbuf).1]; exact (hawaited hchime hbuf).2
    · have hnone : i.chime = none := by simpa using hchime
      have hlisten := h.resolve_left hchime
      rw [(hhold hnone hlisten).1]
      exact (hhold hnone hlisten).2
  · have hexec : exec (.listenWindowEnd c) s = .next (s.listenOver c) := exec_awake hawake rfl
    rw [listenOver_of_listen hchan hstate hlisten] at hexec
    obtain ⟨u, hu⟩ : ∃ u, u = (s.advanceTo d).setChan c (some (i.listened (s.advanceTo d).now)) := ⟨_, rfl⟩
    have huchan : u.chan c = some (i.listened (s.advanceTo d).now) := by rw [hu]; exact chan_setChan_self _ _ _
    have huwithin : Within c (s.advanceTo d) u := by rw [hu]; exact within_setChan c (i := i) hchan id id
    have huclaim : u.claimOf c = s.claimOf c := by rw [hu]; rfl
    rw [← hu] at hexec
    have hwithin := within_expired (huwithin.trans (within_judgeHold c u))
    obtain ⟨hnow, hothers, hzones, hcalls, hqueue, hrest⟩ := hwithin.expiry
    obtain ⟨j, hj, -⟩ := hwithin.inst i hchan
    have hself {k : ChanInst} (h : (u.judgeHold c).chan c = some k) : j = k := Option.some.inj (hj.symm.trans ((chan_arbitrate _ _).trans h))
    have hunow : (u.judgeHold c).arbitrate.now = u.now := hwithin.now.trans huwithin.now.symm
    have hnowd : (s.advanceTo d).now = u.now := huwithin.now.symm
    refine ⟨_, j, hexec, hj, hnow, fun hstage => ?_, fun k p hstage hkey hlive hevac hstop hnext hbuf => ?_,
      fun k p hstage hkey hlive hevac hnext hbuf hpriming => ?_, fun desk hstage hkey => ?_, hothers, hzones, hcalls, hqueue, hrest⟩
    · have hsame := judgeHold_of_early huchan fun h => hstage h.2.1
      have hlistened : i.listened (s.advanceTo d).now = { i with listenEnd := none } := by rw [ChanInst.listened, if_neg hstage]
      rw [hself (by rw [hsame, huchan]), hsame, hu, hlistened]
      refine ⟨rfl, ?_⟩
      rw [arbitrate_eq]
      rfl
    · have hspeech := speech_of_phrases (i := i.listened (s.advanceTo d).now) (spoken_of_key hkey hlive) fun e he => by
        rw [show i.evac = some e from he] at hevac
        cases hevac
      rw [show (i.listened (s.advanceTo d).now).playableFrom 1 = some p from hnext] at hspeech
      have hbegin := (judgeHold_of_ready huchan ⟨hstate, hstage, rfl⟩ (hspeech.trans (if_pos hbuf))).trans
        (beginSpeech_first huchan (spoken_of_key hkey hlive) hevac hstop hnext hbuf)
      rw [hunow, claimOf_arbitrate, hself (by rw [hbegin]; exact chan_setChan_self _ _ _), hbegin]
      refine ⟨rfl, rfl, rfl, rfl, rfl, fun r hr => ?_⟩
      exact claimOf_establish (s := u.setChan c (some (spoken (i.listened (s.advanceTo d).now)))) (huclaim.trans hr)
    · have hspeech := speech_of_phrases (i := i.listened (s.advanceTo d).now) (spoken_of_key hkey hlive) fun e he => by
        rw [show i.evac = some e from he] at hevac
        cases hevac
      rw [show (i.listened (s.advanceTo d).now).playableFrom 1 = some p from hnext] at hspeech
      have hnot : ¬(i.listened (s.advanceTo d).now).buffered { phrase := p, block := 0 } = true := by
        rw [show (i.listened (s.advanceTo d).now).buffered { phrase := p, block := 0 } = false from hbuf]
        exact Bool.false_ne_true
      have hawaits := judgeHold_of_awaited huchan ⟨hstate, hstage, rfl⟩ (hspeech.trans (if_neg hnot)) hpriming
      have hholdFrom : (i.listened (s.advanceTo d).now).holdFrom = max i.holdFrom u.now := by
        rw [← hnowd]
        exact if_pos hstage
      rw [hunow, hself (by rw [hawaits]; exact chan_setChan_self _ _ _), hholdFrom]
      exact ⟨hstate, rfl⟩
    · have hbegin := (judgeHold_of_ready huchan ⟨hstate, hstage, rfl⟩ (speech_of_live hkey)).trans (beginSpeech_of_live huchan hkey)
      rw [hunow, claimOf_arbitrate, hself (by rw [hbegin, chan_establish]; exact chan_setChan_self _ _ _), hbegin]
      exact ⟨rfl, rfl, fun r hr => claimOf_establish (huclaim.trans hr)⟩
  · have hexec : exec (.primingDeadline c) s = .next (s.primingOver c) := exec_awake hawake rfl
    have hnoEvac : ¬i.evac.isSome = true := by rw [hevac]; exact Bool.false_ne_true
    rw [primingOver_of_priming hchan hstate hpriming, if_neg hnoEvac] at hexec
    obtain ⟨u, hu⟩ : ∃ u, u = (s.advanceTo d).enterTail c .underrun := ⟨_, rfl⟩
    have htail : i.state ≠ .tail := by rw [hstate]; decide
    have huchan : u.chan c = some (i.ended .underrun (s.advanceTo d).now) := by rw [hu]; exact chan_enterTail_self (s := s.advanceTo d) _ hchan htail
    have huclaim : u.claimOf c = none := by rw [hu]; exact claimOf_enterTail_self (s := s.advanceTo d) _ hchan htail
    have huwithin : Within c (s.advanceTo d) u := by rw [hu]; exact within_enterTail c _ _
    have hunraised : Unraised s u := by rw [hu]; exact Unraised.trans (t := s.advanceTo d) ⟨rfl, fun _ => rfl⟩ (unraised_endTail _ c _)
    rw [← hu] at hexec
    have hwithin := within_expired (huwithin.trans (within_raise c u .phraseUnderrun (some ((i.code i.awaited).getD 0))))
    obtain ⟨hnow, hothers, hzones, hcalls, hqueue, hrest⟩ := hwithin.expiry
    refine ⟨_, _, hexec, (chan_arbitrate _ _).trans ((chan_raise _ _ _ _).trans huchan), hnow, rfl, ?_, ?_,
      (claimOf_arbitrate _ _).trans ((claimOf_raise _ _ _ _).trans huclaim), ?_, raised_arbitrate (hunraised.raised _ _), hothers, hzones,
      hcalls, hqueue, hrest⟩
    · simp only [ChanInst.ended, hout, Option.getD_none]
    · rw [hwithin.now]
      rfl
    · obtain ⟨hcounters, hfaults⟩ := tells_arbitrated (u.raise .phraseUnderrun (some ((i.code i.awaited).getD 0)))
      rw [hcounters, hfaults, ← hunraised.dropped]
      obtain hfind | hdropped := find_raise u .phraseUnderrun (some ((i.code i.awaited).getD 0))
      · exact .inl hfind
      · rw [hdropped]
        exact .inr (count_counter u .faultsDropped)
  · have hexec : exec (.listenWindowEnd c) s = .next (s.listenOver c) := exec_awake hawake rfl
    rw [listenOver_of_listen hchan hstate hlisten] at hexec
    obtain ⟨x, hx⟩ : ∃ x, x = i.listened (s.advanceTo d).now := ⟨_, rfl⟩
    have hxkey : Spoken x := by rw [hx]; exact spoken_of_none hkey
    have hxevac : x.evac = some e := by rw [hx]; exact hevac
    have hxstop : x.stopPending = false := by rw [hx]; exact hstop
    have hhold : x.state = .leadIn ∧ x.stage = .hold ∧ x.listenEnd = none := by rw [hx]; exact ⟨hstate, hstage, rfl⟩
    have hnext : x.playableFrom 1 = i.playableFrom 1 := by rw [hx]; rfl
    have hbuffered (p : Place) : x.buffered p = i.buffered p := by rw [hx]; rfl
    obtain ⟨u, hu⟩ : ∃ u, u = (s.advanceTo d).setChan c (some x) := ⟨_, rfl⟩
    have huchan : u.chan c = some x := by rw [hu]; exact chan_setChan_self _ _ _
    have huwithin : Within c (s.advanceTo d) u := by
      rw [hu, hx]
      exact within_setChan c (i := i) hchan id id
    have huclaim : u.claimOf c = s.claimOf c := by rw [hu]; rfl
    rw [← hx, ← hu] at hexec
    have hwithin := within_expired (huwithin.trans (within_judgeHold c u))
    obtain ⟨hnow, hothers, hzones, hcalls, hqueue, hrest⟩ := hwithin.expiry
    obtain ⟨j, hj, -⟩ := hwithin.inst i hchan
    have hself {k : ChanInst} (h : (u.judgeHold c).chan c = some k) : j = k := Option.some.inj (hj.symm.trans ((chan_arbitrate _ _).trans h))
    have hunow : (u.judgeHold c).arbitrate.now = u.now := hwithin.now.trans huwithin.now.symm
    have hspeech := speech_of_evac hxkey hxevac
    have htone (h : e.chosen = .tone ∨ i.playableFrom 1 = none) :
        ∃ k, Begun c u (u.judgeHold c) k ∧ k.inPlay = .nothing
          ∧ k.evac = some { chosen := .tone, toneEnd := some (u.now + 10000), pauseEnd := none } := by
      by_cases hchosen : e.chosen = .tone
      · rw [if_pos hchosen] at hspeech
        rw [judgeHold_of_ready huchan hhold hspeech]
        exact begun_tone huchan hxkey hxevac hchosen
      · rw [if_neg hchosen, hnext, h.resolve_left hchosen] at hspeech
        rw [judgeHold_of_exhausted huchan hhold hspeech hxevac]
        exact begun_exhausted huchan hxkey hxevac
    have hmessage {p : Nat} (hchosen : e.chosen = .message) (hp : i.playableFrom 1 = some p) (hbuf : i.buffered { phrase := p, block := 0 } = true) :
        ∃ k, Begun c u (u.judgeHold c) k ∧ k.inPlay = .block ∧ k.play = { phrase := p, block := 0 } ∧ k.blockEnd = some (u.now + 32) := by
      rw [if_neg (by rw [hchosen]; decide), hnext, hp] at hspeech
      rw [judgeHold_of_ready huchan hhold (hspeech.trans (if_pos (by rw [hbuffered]; exact hbuf)))]
      exact begun_message huchan hxkey hxevac hchosen hxstop (hnext.trans hp) (by rw [hbuffered]; exact hbuf)
    have hbegun {k : ChanInst} (h : Begun c u (u.judgeHold c) k) :
        j = k ∧ j.gapCount = 0 ∧ ∀ r, s.claimOf c = some r →
          (u.judgeHold c).arbitrate.claimOf c = some { r with established := true, refreshAt := (u.judgeHold c).arbitrate.now + 8000 } := by
      have hjk := hself h.chan
      refine ⟨hjk, by rw [hjk]; exact h.gapCount, fun r hr => ?_⟩
      rw [hunow, claimOf_arbitrate]
      exact h.claim r (huclaim.trans hr)
    refine ⟨_, j, hexec, hj, hnow, fun h => ?_, fun p hchosen hp hbuf => ?_, fun h => ?_, fun p hchosen hp hbuf hpriming => ?_, hothers, hzones,
      hcalls, hqueue, hrest⟩
    · obtain ⟨k, hk, hplay, hcycle⟩ := htone h
      rw [hunow, (hbegun hk).1]
      exact ⟨hk.speaking, hplay, hcycle⟩
    · obtain ⟨k, hk, hplay, hplace, hblockEnd⟩ := hmessage hchosen hp hbuf
      rw [hunow, (hbegun hk).1]
      exact ⟨hk.speaking, hplay, hplace, hblockEnd⟩
    · by_cases hquiet : e.chosen = .tone ∨ i.playableFrom 1 = none
      · obtain ⟨k, hk, -⟩ := htone hquiet
        exact (hbegun hk).2
      · rw [not_or] at hquiet
        obtain ⟨p, hp, hbuf⟩ := (h.resolve_left hquiet.1).resolve_left hquiet.2
        have hchosen : e.chosen = .message := by
          cases hmode : e.chosen with
          | message => rfl
          | tone => exact absurd hmode hquiet.1
        obtain ⟨k, hk, -⟩ := hmessage hchosen hp hbuf
        exact (hbegun hk).2
    · rw [if_neg (by rw [hchosen]; decide), hnext, hp] at hspeech
      have hawaits := judgeHold_of_awaited huchan hhold (hspeech.trans (if_neg (by rw [hbuffered, hbuf]; exact Bool.false_ne_true)))
        (by rw [hx]; exact hpriming)
      have hholdFrom : x.holdFrom = max i.holdFrom u.now := by
        rw [hx, huwithin.now]
        exact if_pos hstage
      rw [hunow, hself (by rw [hawaits]; exact chan_setChan_self _ _ _), hholdFrom]
      exact ⟨hhold.1, hxevac, rfl⟩
  · have hexec : exec (.primingDeadline c) s = .next (s.primingOver c) := exec_awake hawake rfl
    have hisEvac : i.evac.isSome = true := by rw [hevac]; rfl
    rw [primingOver_of_priming hchan hstate hpriming, if_pos hisEvac] at hexec
    have hwithin := within_expired ((within_primeEvac c (s.advanceTo d) i).trans
      (within_raise c _ .phraseUnderrun (some ((i.code i.awaited).getD 0))))
    obtain ⟨hnow, hothers, hzones, hcalls, hqueue, hrest⟩ := hwithin.expiry
    obtain ⟨j, hj, -⟩ := hwithin.inst i hchan
    have hself {k : ChanInst} (h : ((s.advanceTo d).primeEvac c i).chan c = some k) : j = k :=
      Option.some.inj (hj.symm.trans ((chan_arbitrate _ _).trans ((chan_raise _ _ _ _).trans h)))
    by_cases hstage : i.stage = .wake
    · obtain ⟨x, hx⟩ : ∃ x, x = ({ i.passChime.stopPlay with stage := .hold, priming := none, holdFrom := (s.advanceTo d).now } : ChanInst) := ⟨_, rfl⟩
      obtain ⟨u, hu⟩ : ∃ u, u = ((s.advanceTo d).disownChime c).setChan c (some x) := ⟨_, rfl⟩
      have huchan : u.chan c = some x := by rw [hu]; exact chan_setChan_self _ _ _
      have hprime : (s.advanceTo d).primeEvac c i = u.judgeHold c := by
        have hdisowned : ((s.advanceTo d).disownChime c).chan c = some i := by rw [disownChime_frame]; exact hchan
        have hpassed : (((s.advanceTo d).disownChime c).updChan c ChanInst.passChime).now = (s.advanceTo d).now := by
          rw [disownChime_frame]
          rfl
        rw [State.primeEvac, if_pos hstage, State.enterHold, updChan_of_chan _ (chan_updChan_self _ hdisowned), hpassed, updChan_of_chan _ hdisowned,
          setChan_setChan, hu, hx]
      have hunraised : Unraised s u := by
        rw [hu, disownChime_frame]
        exact ⟨rfl, fun _ => rfl⟩
      obtain ⟨k, hk, -, hchime⟩ := (within_judgeHold c u).inst x huchan
      have hjk : j = k := hself (by rw [hprime]; exact hk)
      have hraised := raised_arbitrate ((hunraised.trans (unraised_judgeHold huchan (by rw [hx]; exact spoken_of_none hkey) (by rw [hx]; exact hevac)
        (by rw [hx]; exact hstop))).raised .phraseUnderrun (some ((i.code i.awaited).getD 0)))
      rw [← hprime] at hraised
      refine ⟨_, j, hexec, hj, hnow, hraised, fun _ => ⟨by rw [hjk]; exact hchime (by rw [hx]; rfl), fun hlisten => ?_⟩,
        fun h => absurd (hstage.symm.trans h) (by decide), hothers, hzones, hcalls, hqueue, hrest⟩
      have hearly := judgeHold_of_early huchan fun h => by
        rw [show i.listenEnd = none from (by rw [hx] at h; exact h.2.2)] at hlisten
        cases hlisten
      rw [hwithin.now, hself (by rw [hprime, hearly]; exact huchan), hx]
      exact ⟨hstate, rfl, rfl, rfl, hevac⟩
    · have hprime : (s.advanceTo d).primeEvac c i = (((s.advanceTo d).disown c).updChan c ChanInst.chooseTone).beginSpeech c := by
        rw [State.primeEvac, if_neg hstage]
      obtain ⟨k, hk, hplay, hcycle⟩ := begun_exhausted (s := (s.advanceTo d).disown c) hchan (spoken_of_none hkey) hevac
      have hraised := raised_arbitrate ((Unraised.trans (s := s) (t := (s.advanceTo d).disown c) ⟨rfl, fun _ => rfl⟩ hk.unraised).raised
        .phraseUnderrun (some ((i.code i.awaited).getD 0)))
      rw [← hprime] at hraised
      refine ⟨_, j, hexec, hj, hnow, hraised, fun h => absurd h hstage, fun _ => ?_, hothers, hzones, hcalls, hqueue, hrest⟩
      rw [hwithin.now, hself (by rw [hprime]; exact hk.chan)]
      exact ⟨hk.speaking, hplay, hk.gapCount, hcycle⟩

end Sys2Proof.Proofs.LeadRules
end

section
/-! The arbiter of the memory port and the reads it grants (R133, R134, R188). -/

namespace Sys2Proof.Proofs.PortRules

open Sys2Proof.Machine
open Sys2Proof.Proofs.LiveClose Sys2Proof.Proofs.Faults Sys2Proof.Proofs.Upkeep Sys2Proof.Proofs.Uphold Sys2Proof.Proofs.CallRules
open Sys2Proof.Proofs.Commands Sys2Proof.Proofs.Steps Sys2Proof.Proofs.Reports Sys2Proof.Proofs.Starting Sys2Proof.Proofs.Transmit
open Sys2Proof.Proofs.LineRules Sys2Proof.Proofs.FaultRules Sys2Proof.Proofs.QueueRules Sys2Proof.Proofs.ClaimRules
open Sys2Proof.Proofs.ChannelRules Sys2Proof.Proofs.LeadRules

/-! ### The arbiter (R134) -/

/-- The order of R134 with the channel number: the request `w` stands no later than `v`. -/
def NoLater (w v : Waiting) : Prop := w.cls < v.cls ∨ (w.cls = v.cls ∧ (w.filled < v.filled ∨ (w.filled = v.filled ∧ w.ch ≤ v.ch)))

theorem before_iff {a b : Waiting} : a.before b = true ↔ a.cls < b.cls ∨ (a.cls = b.cls ∧ a.filled < b.filled) := by simp [Waiting.before]

theorem NoLater.refl (w : Waiting) : NoLater w w := .inr ⟨rfl, .inr ⟨rfl, le_refl _⟩⟩

theorem NoLater.trans {a b c : Waiting} (h : NoLater a b) (k : NoLater b c) : NoLater a c := by
  simp only [NoLater, Fin.le_def] at h k ⊢
  omega

theorem firstWaiting_eq_none {l : List Waiting} : firstWaiting l = none ↔ l = [] := by
  cases l with
  | nil => simp [firstWaiting]
  | cons w rest =>
    simp only [firstWaiting]
    split
    · simp
    · split <;> simp

/-- In a list in channel order the request granted is one of the list, and no other stands before it (R134). -/
theorem firstWaiting_eq_some {l : List Waiting} {w : Waiting} (hsorted : l.Pairwise fun a b => a.ch < b.ch) (h : firstWaiting l = some w) :
    w ∈ l ∧ ∀ v ∈ l, NoLater w v := by
  induction l generalizing w with
  | nil => cases h
  | cons a rest ih =>
    obtain ⟨ha, hrest⟩ := List.pairwise_cons.mp hsorted
    simp only [firstWaiting] at h
    split at h
    next hnone =>
      cases h
      rw [firstWaiting_eq_none.mp hnone]
      exact ⟨List.mem_singleton.mpr rfl, fun v hv => by rw [List.mem_singleton.mp hv]; exact NoLater.refl a⟩
    next b hb =>
      obtain ⟨hmem, hfirst⟩ := ih hrest hb
      split at h
      next hbefore =>
        cases h
        refine ⟨List.mem_cons_of_mem _ hmem, List.forall_mem_cons.mpr ⟨?_, hfirst⟩⟩
        obtain hcls | ⟨hcls, hfilled⟩ := before_iff.mp hbefore
        · exact .inl hcls
        · exact .inr ⟨hcls, .inl hfilled⟩
      next hbefore =>
        cases h
        rw [before_iff] at hbefore
        have hab : NoLater a b := by
          have hch := le_of_lt (ha b hmem)
          simp only [NoLater, Fin.le_def] at hch ⊢
          omega
        exact ⟨List.mem_cons_self .., List.forall_mem_cons.mpr ⟨NoLater.refl a, fun v hv => hab.trans (hfirst v hv)⟩⟩

/-- The request of a channel before the arbiter. -/
def requestOf (c : ChanId) (i : ChanInst) (r : Request) : Waiting :=
  { ch := c, request := r, address := i.address r, cls := i.cls, filled := i.buffer.length }

theorem mem_waiting {s : State} {w : Waiting} : w ∈ s.waiting ↔ ∃ c i r, s.chan c = some i ∧ s.wants i = some r ∧ w = requestOf c i r := by
  simp only [State.waiting, List.mem_filterMap, Option.bind_eq_some_iff, Option.map_eq_some_iff]
  constructor
  · rintro ⟨c, -, i, hi, r, hr, rfl⟩
    exact ⟨c, i, r, hi, hr, rfl⟩
  · rintro ⟨c, i, r, hi, hr, rfl⟩
    exact ⟨c, mem_allChans c, i, hi, r, hr, rfl⟩

theorem waiting_sorted (s : State) : s.waiting.Pairwise fun a b => a.ch < b.ch := by
  refine List.Pairwise.filterMap (R := fun a b : ChanId => a < b) _ (fun a b hab v hv w hw => ?_) (by decide)
  simp only [Option.bind_eq_some_iff, Option.map_eq_some_iff] at hv hw
  obtain ⟨i, -, r, -, rfl⟩ := hv
  obtain ⟨j, -, q, -, rfl⟩ := hw
  exact hab

/-- What a grant of the port is, in the words of the statement on the memory reads (R134, R188). -/
structure Granted (t : State) : Prop where
  idle : t.port.transaction = none → ∀ d j, t.chan d = some j → t.wants j = none
  grant : ∀ h, t.port.transaction = some h → h.wanted = true ∧ ∃ j, t.chan h.ch = some j ∧ t.wants j = some h.request
    ∧ (∀ d v, t.chan d = some v → (t.wants v).isSome = true →
      j.cls < v.cls ∨ (j.cls = v.cls ∧ (j.buffer.length < v.buffer.length ∨ (j.buffer.length = v.buffer.length ∧ h.ch ≤ d))))
    ∧ (∀ q, h.request = .directory q → h.address = 16 + 4 * (j.code q).getD 0)
    ∧ ∀ q, h.request = .block q → h.address = (((j.dir q.phrase).map DirRead.firstBlock).getD 0 + q.block) * 1024

theorem granted_arbitrate {s : State} (hover : s.port.handedOver = true) (hidle : s.port.transaction = none) : Granted s.arbitrate := by
  cases hfirst : firstWaiting s.waiting with
  | none =>
    have hsame : s.arbitrate = s := by
      unfold State.arbitrate
      rw [if_pos ⟨hover, hidle⟩, hfirst]
    rw [hsame]
    refine ⟨fun _ d j hj => ?_, fun h hh => ?_⟩
    · obtain hnone | ⟨r, hr⟩ := Option.eq_none_or_eq_some (s.wants j)
      · exact hnone
      · have hmem : requestOf d j r ∈ s.waiting := mem_waiting.mpr ⟨d, j, r, hj, hr, rfl⟩
        rw [firstWaiting_eq_none.mp hfirst] at hmem
        cases hmem
    · rw [hidle] at hh
      cases hh
  | some w =>
    have hgrant : s.arbitrate = { s with port := { s.port with
        transaction := some { ch := w.ch, request := w.request, address := w.address, wanted := true } } } := by
      unfold State.arbitrate
      rw [if_pos ⟨hover, hidle⟩, hfirst]
    obtain ⟨hmem, hleast⟩ := firstWaiting_eq_some (waiting_sorted s) hfirst
    obtain ⟨c, i, r, hi, hr, rfl⟩ := mem_waiting.mp hmem
    rw [hgrant]
    refine ⟨(nomatch ·), fun h hh => ?_⟩
    cases hh
    refine ⟨rfl, i, hi, hr, fun d v hv hwants => ?_, fun q hq => ?_, fun q hq => ?_⟩
    · obtain ⟨q, hq⟩ := Option.isSome_iff_exists.mp hwants
      exact hleast (requestOf d v q) (mem_waiting.mpr ⟨d, v, q, hv, hq, rfl⟩)
    · cases (show r = .directory q from hq)
      rfl
    · cases (show r = .block q from hq)
      rfl

/-- A grant writes the port's transaction alone. -/
theorem arbitrate_frame (s : State) : s.arbitrate = { s with port := { s.port with transaction := s.arbitrate.port.transaction } } := by
  unfold State.arbitrate
  split
  · split <;> rfl
  · rfl

/-! ### Reads (R133) -/

theorem leadIn_of_other {s : State} {c : ChanId} {i : ChanInst} (hchan : s.chan c = some i) (hstate : i.state ≠ .leadIn) : s.leadIn c = s := by
  simp only [State.leadIn, hchan, if_neg hstate]

theorem gotDirectory_eq (i : ChanInst) (p : Nat) (entry : BitVec 32) :
    i.gotDirectory (dirRead p entry) =
      { i with
        dirs := i.dirs ++ [{ phrase := p, firstBlock := entry.toNat / 4096, count := entry.toNat % 4096 }],
        fetch := if entry.toNat % 4096 = 0 then { phrase := p + 1, block := 0 } else i.fetch,
        chime := if entry.toNat % 4096 = 0 ∧ p = 0 then none else i.chime } := by
  unfold ChanInst.gotDirectory dirRead
  dsimp only
  by_cases hcount : entry.toNat % 4096 = 0
  · simp only [hcount, if_true, true_and]
  · simp only [hcount, if_false, false_and]

theorem takeDirectory_of_chan {s : State} {c : ChanId} {i : ChanInst} (hchan : s.chan c = some i) (hstate : i.state ≠ .leadIn) (p : Nat)
    (entry : BitVec 32) :
    s.takeDirectory c p entry = if entry.toNat % 4096 = 0
      then (s.setChan c (some (i.gotDirectory (dirRead p entry)))).raise .phraseMissing (some ((i.code p).getD 0))
      else s.setChan c (some (i.gotDirectory (dirRead p entry))) := by
  have hgot : (i.gotDirectory (dirRead p entry)).state ≠ .leadIn := by rw [gotDirectory_state]; exact hstate
  simp only [State.takeDirectory, hchan]
  rw [show (dirRead p entry).count = entry.toNat % 4096 from rfl]
  split
  · exact leadIn_of_other ((chan_raise _ _ _ c).trans (chan_setChan_self _ _ _)) hgot
  · exact leadIn_of_other (chan_setChan_self _ _ _) hgot

/-- Settles O45: what the channel takes from a result, then the grant of the arbiter. -/
theorem memoryReads : Obligations.MemoryReads := by
  intro s c i hawake hover hchan hstate g hg hch
  obtain ⟨ch, request, address, wanted⟩ := g
  cases hch
  refine ⟨fun p hrequest entry => ?_, fun p hrequest samples => ?_⟩
  · cases hrequest
    have hexec : exec (.directoryReadComplete entry) s = .next (s.directoryDone entry) := exec_awake hawake rfl
    have hdone : s.directoryDone entry = (if wanted then s.endTransaction.takeDirectory ch p entry else s.endTransaction).arbitrate := by
      simp only [State.directoryDone, hg]
    rw [hdone] at hexec
    cases wanted with
    | false =>
      rw [if_neg Bool.false_ne_true] at hexec
      have hgranted := granted_arbitrate (s := s.endTransaction) hover rfl
      have hframe := arbitrate_frame s.endTransaction
      generalize s.endTransaction.arbitrate = t at hexec hgranted hframe
      refine ⟨t, hexec, fun _ => ?_, (nomatch ·), fun _ => ?_, (nomatch ·), hgranted.idle, hgranted.grant, ?_⟩
      · rw [hframe]
        exact ⟨rfl, rfl⟩
      · rw [hframe]
        exact ⟨rfl, rfl, rfl⟩
      · rw [hframe]
        rfl
    | true =>
      rw [if_pos rfl, takeDirectory_of_chan (s := s.endTransaction) hchan hstate p entry] at hexec
      obtain ⟨u, hu⟩ : ∃ u, u = s.endTransaction.setChan ch (some (i.gotDirectory (dirRead p entry))) := ⟨_, rfl⟩
      have huchans : u.chans = s.chans.set ch (some (i.gotDirectory (dirRead p entry))) := by rw [hu]; rfl
      rw [← hu] at hexec
      by_cases hcount : entry.toNat % 4096 = 0
      · rw [if_pos hcount] at hexec
        have hsends := sends_raise u .phraseMissing (some ((i.code p).getD 0))
        have hraised := raised_arbitrate (raised_raise u .phraseMissing (some ((i.code p).getD 0)))
        generalize u.raise .phraseMissing (some ((i.code p).getD 0)) = v at hexec hsends hraised
        have hgranted := granted_arbitrate (s := v) (by rw [hsends.port, hu]; exact hover) (by rw [hsends.port, hu]; rfl)
        have hframe := arbitrate_frame v
        generalize v.arbitrate = t at hexec hgranted hframe hraised
        refine ⟨t, hexec, (nomatch ·), fun _ => ?_, fun h => absurd hcount h, fun _ _ k hk => ?_, hgranted.idle, hgranted.grant, ?_⟩
        · rw [hframe]
          exact (hsends.chans.trans huchans).trans (by rw [gotDirectory_eq])
        · rw [hk, hu] at hraised
          exact raised_congr hraised (fun _ => rfl) (fun _ => rfl) rfl rfl rfl rfl
        · rw [hframe, hsends, hu]
          rfl
      · rw [if_neg hcount] at hexec
        have hgranted := granted_arbitrate (s := u) (by rw [hu]; exact hover) (by rw [hu]; rfl)
        have hframe := arbitrate_frame u
        generalize u.arbitrate = t at hexec hgranted hframe
        refine ⟨t, hexec, (nomatch ·), fun _ => ?_, fun _ => ?_, fun _ h => absurd h hcount, hgranted.idle, hgranted.grant, ?_⟩
        · rw [hframe]
          exact huchans.trans (by rw [gotDirectory_eq])
        · rw [hframe, hu]
          exact ⟨rfl, rfl, rfl⟩
        · rw [hframe, hu]
          rfl
  · cases hrequest
    have hexec : exec (.blockReadComplete samples) s = .next (s.blockDone samples) := exec_awake hawake rfl
    have hdone : s.blockDone samples
        = (if wanted then (s.endTransaction.updChan ch fun i => i.gotBlock p samples).leadIn ch else s.endTransaction).arbitrate := by
      simp only [State.blockDone, hg]
    rw [hdone] at hexec
    obtain ⟨u, hu⟩ : ∃ u, u = if wanted then (s.endTransaction.updChan ch fun i => i.gotBlock p samples).leadIn ch else s.endTransaction := ⟨_, rfl⟩
    have htaken : u = if wanted then s.endTransaction.setChan ch (some (i.gotBlock p samples)) else s.endTransaction := by
      rw [hu, updChan_of_chan (s := s.endTransaction) _ hchan]
      split
      · exact leadIn_of_other (chan_setChan_self _ _ _) hstate
      · rfl
    rw [← hu] at hexec
    have huport : u.port = { s.port with transaction := none } := by
      rw [htaken]
      split <;> rfl
    have hgranted := granted_arbitrate (s := u) (by rw [huport]; exact hover) (by rw [huport])
    have hframe := arbitrate_frame u
    generalize u.arbitrate = t at hexec hgranted hframe
    refine ⟨t, hexec, fun hw => ?_, fun hw => ?_, hgranted.idle, hgranted.grant, ?_⟩
    · cases (show wanted = false from hw)
      rw [hframe, htaken]
      rfl
    · cases (show wanted = true from hw)
      rw [hframe, htaken]
      rfl
    · rw [hframe, htaken]
      split <;> rfl

end Sys2Proof.Proofs.PortRules
end

section
/-! The end of an instance: the keep deadline, the tail's end, and what the Dispatcher makes of the outcome (R103 to R105, R132, R136). -/

namespace Sys2Proof.Proofs.EndRules

open Sys2Proof.Machine
open Sys2Proof.Proofs.LiveClose Sys2Proof.Proofs.Faults Sys2Proof.Proofs.Upkeep Sys2Proof.Proofs.Uphold Sys2Proof.Proofs.CallRules
open Sys2Proof.Proofs.Commands Sys2Proof.Proofs.Steps Sys2Proof.Proofs.Reports Sys2Proof.Proofs.Starting Sys2Proof.Proofs.Transmit
open Sys2Proof.Proofs.LineRules Sys2Proof.Proofs.FaultRules Sys2Proof.Proofs.QueueRules Sys2Proof.Proofs.ClaimRules
open Sys2Proof.Proofs.ChannelRules Sys2Proof.Proofs.LeadRules Sys2Proof.Proofs.PortRules

/-! ### The zones that a tail end frees (R132, R139) -/

theorem leaveHeld_eq (s : State) (z : ZoneId) :
    s.leaveHeld z = { s with zones := (s.leaveHeld z).zones, levels := (s.leaveHeld z).levels } := rfl

theorem foldl_leaveHeld_eq (l : List ZoneId) (s : State) :
    l.foldl State.leaveHeld s = { s with zones := (l.foldl State.leaveHeld s).zones, levels := (l.foldl State.leaveHeld s).levels } :=
  List.foldlRecOn (motive := fun t : State => t = { s with zones := t.zones, levels := t.levels }) l _ rfl fun t ht z _ =>
    (leaveHeld_eq t z).trans
      (congrArg (fun v : State => { v with zones := (t.leaveHeld z).zones, levels := (t.leaveHeld z).levels }) ht)

/-- A zone as its holder leaves it. -/
def leftZone (x : Zone) (now : Nat) : Zone := { x with state := if x.lineStatus = .short then .off else .idle, lastAudible := some now }

theorem zone_leaveHeld (s : State) (z y : ZoneId) : (s.leaveHeld z).zone y = if y = z then leftZone (s.zone y) s.now else s.zone y := by
  have hzone : (s.leaveHeld z).zone y
      = ((s.setZone z fun x => { x with state := if x.lineStatus = .short then .off else .idle }).setZone z
          fun x => { x with lastAudible := some s.now }).zone y := rfl
  rw [hzone]
  by_cases hy : y = z
  · subst hy
    rw [if_pos rfl, zone_setZone_self, zone_setZone_self]
    rfl
  · rw [if_neg hy, zone_setZone_of_ne _ _ _ _ (Ne.symm hy), zone_setZone_of_ne _ _ _ _ (Ne.symm hy)]

theorem quietAt_leaveHeld (s : State) (z y : ZoneId) :
    ((s.leaveHeld z).level y).quietAt = if y = z then some (s.now + 500) else (s.level y).quietAt := by
  by_cases hy : y = z
  · subst hy
    rw [if_pos rfl]
    exact congrArg Level.quietAt (level_setLevel_self _ y _)
  · rw [if_neg hy]
    exact congrArg Level.quietAt (level_setLevel_of_ne _ _ _ _ (Ne.symm hy))

/-- Every zone of a list leaves its holder, each once. -/
theorem foldl_leaveHeld {l : List ZoneId} (hnodup : l.Nodup) (s : State) (y : ZoneId) :
    (l.foldl State.leaveHeld s).zone y = (if y ∈ l then leftZone (s.zone y) s.now else s.zone y)
      ∧ ((l.foldl State.leaveHeld s).level y).quietAt = if y ∈ l then some (s.now + 500) else (s.level y).quietAt := by
  induction l generalizing s with
  | nil => exact ⟨rfl, rfl⟩
  | cons z rest ih =>
    obtain ⟨hz, hrest⟩ := List.nodup_cons.mp hnodup
    obtain ⟨hzone, hquiet⟩ := ih hrest (s.leaveHeld z)
    rw [List.foldl_cons, hzone, hquiet, zone_leaveHeld, quietAt_leaveHeld, show (s.leaveHeld z).now = s.now from rfl]
    by_cases hy : y = z
    · subst hy
      simp only [hz, List.mem_cons, true_or, if_true, if_false, and_self]
    · simp only [hy, List.mem_cons, false_or, if_false, and_self]

theorem heldBy_nodup (s : State) (c : ChanId) : (s.heldBy c).Nodup := List.Nodup.filter _ (by decide)

/-! ### The tail's end (R132) -/

/-- The state in which a freed channel's instance is reported (R132): its zones and the channel are free. -/
def freed (s : State) (c : ChanId) (d : Nat) : State := (((s.advanceTo d).heldBy c).foldl State.leaveHeld (s.advanceTo d)).setChan c none

theorem freed_eq (s : State) (c : ChanId) (d : Nat) :
    freed s c d = { s with
      clock := { s.clock with now := max s.clock.now d % 2 ^ 40 }, zones := (freed s c d).zones, levels := (freed s c d).levels,
      chans := s.chans.set c none } := by
  unfold freed
  rw [foldl_leaveHeld_eq]
  rfl

theorem zone_freed (s : State) (c : ChanId) (d : Nat) (z : ZoneId) :
    (freed s c d).zone z = if z ∈ s.heldBy c then leftZone (s.zone z) (s.advanceTo d).now else s.zone z :=
  (foldl_leaveHeld (heldBy_nodup (s.advanceTo d) c) (s.advanceTo d) z).1

theorem quietAt_freed (s : State) (c : ChanId) (d : Nat) {z : ZoneId} (hz : z ∈ s.heldBy c) :
    ((freed s c d).level z).quietAt = some ((s.advanceTo d).now + 500) :=
  ((foldl_leaveHeld (heldBy_nodup (s.advanceTo d) c) (s.advanceTo d) z).2).trans (if_pos hz)

theorem keeps_freed (s : State) (c : ChanId) (d : Nat) : Keeps (s.advanceTo d) (freed s c d) := by
  rw [freed_eq]
  exact ⟨rfl, rfl, rfl, rfl, rfl, rfl, rfl, rfl, rfl, rfl, rfl, rfl, rfl, rfl, rfl, rfl, fun h => ⟨h.1, h.2, h.3⟩, id⟩

theorem exec_tailEnd {s : State} {c : ChanId} {i : ChanInst} {d : Nat} {k : Continuation} {x : Key} {o : Ending} (hawake : s.Awake)
    (hchan : s.chan c = some i) (hstate : i.state = .tail) (hend : i.tailEnd = some d) (hkey : i.key = some x) (hcont : s.cont c = some k)
    (hout : i.outcome = some o) : exec (.tailEnd c) s = .next (((freed s c d).setCont c none).settleEnd k o).walk := by
  have hexec : exec (.tailEnd c) s = .next (s.tailOver c) := exec_awake hawake rfl
  have hfreed : (freed s c d).cont c = some k := by rw [freed_eq]; exact hcont
  rw [hexec]
  simp only [State.tailOver, hchan, hstate, hend]
  rw [show (((s.advanceTo d).heldBy c).foldl State.leaveHeld (s.advanceTo d)).setChan c none = freed s c d from rfl]
  simp only [State.reportEnd, hkey, hfreed, hout, Option.getD_some]

theorem quietAt_settleGates (s : State) (z : ZoneId) : (s.settleGates.level z).quietAt = (s.level z).quietAt := by
  refine level_settleGates (P := fun l => l.quietAt = (s.level z).quietAt) fun t _ hlevel => ?_
  obtain ⟨-, hsame | hstart⟩ | ⟨-, hdiscard⟩ := settleGate_cases t z
  · rw [hsame, hlevel]
  · rw [hstart, level_setLevel_self, ← hlevel]
  · rw [hdiscard]
    split
    · rw [level_setLevel_self, ← hlevel]
      rfl
    · rw [hlevel]

theorem quietAt_walk_of_empty {s : State} (h : s.queue.entries = []) (z : ZoneId) : (s.walk.level z).quietAt = (s.level z).quietAt := by
  rw [walk_of_empty h, quietAt_settleGates, level_arbitrate]
  rfl

/-- Settles O47: the keep deadline enters TAIL; the tail's end frees the zones and gives the result DONE. -/
theorem instanceEnds : Obligations.InstanceEnds := by
  intro s c i d hawake hchan
  refine ⟨fun hstate hkeep hout => ?_, fun k x hstate hend hkey hout hcont hrep hren hmark hempty => ?_⟩
  · have hexec : exec (.keepTimerExpiry c) s = .next (s.keepOver c) := exec_awake hawake rfl
    have hover : s.keepOver c = (s.advanceTo d).enterTail c .aborted := by simp only [State.keepOver, hchan, hstate, hkeep]
    have htail : i.state ≠ .tail := by rw [hstate]; decide
    rw [hover] at hexec
    have hwithin := within_enterTail c (s.advanceTo d) .aborted
    obtain ⟨hnow, hothers, hzones, hcalls, hqueue, hrest⟩ := hwithin.expiry
    refine ⟨_, _, hexec, chan_enterTail_self (s := s.advanceTo d) _ hchan htail, hnow, rfl, ?_, ?_,
      claimOf_enterTail_self (s := s.advanceTo d) _ hchan htail, hzones, hothers, hcalls, hqueue, hrest⟩
    · simp only [ChanInst.ended, hout, Option.getD_none]
    · rw [hwithin.now]
      rfl
  · have hexec := exec_tailEnd hawake hchan hstate hend hkey hcont hout
    obtain ⟨u, hu⟩ : ∃ u, u = (freed s c d).setCont c none := ⟨_, rfl⟩
    have hsettle : u.settleEnd k .done = u.give k.entry.key .done := by
      simp only [State.settleEnd, hmark, State.offerNext, hren, nextRepeat, hrep]
    rw [← hu, hsettle] at hexec
    have hgive := tells_give u k.entry.key .done
    have huqueue : u.queue = { s.queue with continuations := s.queue.continuations.set c none } := by rw [hu, State.setCont, freed_eq]
    have huchans : u.chans = s.chans.set c none := by rw [hu, State.setCont, freed_eq]
    have hucounters : u.counters = s.counters := by rw [hu, State.setCont, freed_eq]
    have hvqueue : (u.give k.entry.key .done).queue = u.queue := hgive.sends.queue
    have hentries : (u.give k.entry.key .done).queue.entries = [] := by rw [hvqueue, huqueue]; exact hempty
    have hkeeps : Keeps (s.advanceTo d) (u.give k.entry.key .done).walk := by
      rw [hu]
      exact (((keeps_freed s c d).trans (keeps_setCont _ c none)).trans (keeps_give _ _ _)).trans (keeps_walk _)
    have hnow : (u.give k.entry.key .done).walk.now = (s.advanceTo d).now := now_of_clock hkeeps.clock
    have hchans : (u.give k.entry.key .done).walk.chans = s.chans.set c none := by
      rw [walk_of_empty_eq hentries]
      exact hgive.sends.chans.trans huchans
    have hqueue : (u.give k.entry.key .done).walk.queue
        = { s.queue with continuations := s.queue.continuations.set c none, walkedAt := (u.give k.entry.key .done).now } := by
      rw [walk_of_empty_eq hentries]
      dsimp only
      rw [hvqueue, huqueue]
    have hcount : (u.give k.entry.key .done).walk.counters[(8 : Fin 16)] = min (s.counters[(8 : Fin 16)] + 1) 65535 := by
      rw [walk_of_empty_eq hentries, ← hucounters]
      exact (hgive.counter 8 (by decide)).trans (count_counter u .annDone)
    have hzones : (u.give k.entry.key .done).walk.zones = (freed s c d).zones := by
      rw [walk_of_empty_eq hentries]
      exact hgive.sends.zones.trans (by rw [hu]; rfl)
    have hlevels : (u.give k.entry.key .done).levels = (freed s c d).levels := hgive.sends.levels.trans (by rw [hu]; rfl)
    have hquiet (z : ZoneId) : ((u.give k.entry.key .done).walk.level z).quietAt = ((freed s c d).level z).quietAt :=
      (quietAt_walk_of_empty hentries z).trans (congrArg (fun l => Level.quietAt l[z]) hlevels)
    generalize (u.give k.entry.key .done).walk = t at hexec hkeeps hnow hchans hqueue hcount hzones hquiet
    refine ⟨t, hexec, hnow, (congrArg (·[c]) hchans).trans (chan_setChan_self s c none),
      (congrArg (·.continuations[c]) hqueue).trans (cont_setCont_self s c none), (congrArg (·.entries) hqueue).trans hempty, hcount,
      fun z => ?_, fun z hz => ?_, fun b hb => (congrArg (·[b]) hchans).trans (chan_setChan_of_ne s c b none hb.symm), hkeeps.calls,
      undisturbed_of_expiry hkeeps⟩
    · rw [hnow]
      exact (congrArg (·[z]) hzones).trans (zone_freed s c d z)
    · rw [hnow]
      exact (hquiet z).trans (quietAt_freed s c d hz)

/-! ### What follows the outcome (R103 to R105) -/

/-- The state in which the Dispatcher acts on an outcome: the channel is free and its continuation record taken (R103). -/
def reporting (s : State) (c : ChanId) (d : Nat) : State := (freed s c d).setCont c none

section
variable (s : State) (c : ChanId) (d : Nat)

theorem reporting_eq : reporting s c d = { s with
    clock := { s.clock with now := max s.clock.now d % 2 ^ 40 }, zones := (reporting s c d).zones, levels := (reporting s c d).levels,
    chans := s.chans.set c none, queue := { s.queue with continuations := s.queue.continuations.set c none } } := by
  unfold reporting
  rw [State.setCont, freed_eq]

theorem entries_reporting : (reporting s c d).queue.entries = s.queue.entries := by rw [reporting_eq]

theorem chans_reporting : (reporting s c d).chans = s.chans.set c none := by rw [reporting_eq]

theorem counters_reporting : (reporting s c d).counters = s.counters := by rw [reporting_eq]

theorem link_reporting : (reporting s c d).link = s.link := by rw [reporting_eq]

theorem faults_reporting : (reporting s c d).faults = s.faults := by rw [reporting_eq]

theorem onLink_reporting : (reporting s c d).onLink = s.onLink := by
  rw [reporting_eq]
  rfl

theorem now_reporting : (reporting s c d).now = max s.now d % 2 ^ 40 := by
  rw [reporting_eq]
  rfl

theorem cfg_reporting : (reporting s c d).cfg = s.cfg := by
  rw [reporting_eq]
  rfl

theorem call_reporting : (reporting s c d).call = s.call := by
  rw [reporting_eq]
  rfl

theorem keeps_reporting : Keeps (s.advanceTo d) (reporting s c d) := (keeps_freed s c d).trans (keeps_setCont _ c none)

end

/-- The key of an instance that has left its channel is neither waiting nor on another (R91). -/
theorem key_free {s v : State} {c : ChanId} {i : ChanInst} {x : Key} (hapart : s.KeysApart) (hchan : s.chan c = some i) (hkey : i.key = some x)
    (hentries : v.queue.entries = s.queue.entries) (hchans : v.chans = s.chans.set c none) :
    v.entryOf x = none ∧ v.chanOfKey x = none := by
  rw [entryOf_eq_none_iff, chanOfKey_eq_none_iff]
  refine ⟨fun e he hex => ?_, fun b hb => ?_⟩
  · rw [hentries] at he
    exact hapart.both e he c i hchan (hkey.trans (congrArg some hex.symm))
  · have hvchan : v.chan b = (s.setChan c none).chan b := congrArg (·[b]) hchans
    obtain rfl | hne := eq_or_ne c b
    · rw [keyOn, hvchan, chan_setChan_self] at hb
      cases hb
    · rw [keyOn, hvchan, chan_setChan_of_ne s c b none hne] at hb
      obtain ⟨j, hj, hjkey⟩ := Option.map_eq_some_iff.mp hb
      exact hne (hapart.playing c b i j hchan hj (by rw [hkey]; rfl) (hkey.trans hjkey.symm))

/-- An announcement that comes back joins the queue (R104, R105): the walks at the insertion and at the tail's end follow. -/
theorem offerEntry_of_free {v : State} {e : Entry} (hfree : v.entryOf e.key = none ∧ v.chanOfKey e.key = none)
    (hroom : v.queue.entries.length < 24) : v.offerEntry e = (v.insertNew e).walk :=
  (offerEntry_of_new hfree.1 hfree.2).trans (offerNew_of_room e hroom)

/-- Whether R104 ends an announcement that was withdrawn or preempted. -/
def Barred (s : State) (k : Continuation) (o : Ending) : Prop :=
  (o = .preempted ∧ ∃ desk, k.entry.key = .live desk) ∨ (∃ x, k.entry.expiry = some x ∧ x ≤ s.now)
    ∨ (∃ id n, k.entry.key = .cue id n ∧ (k.entry.boundCall = none ∨ ∃ b, k.entry.boundCall = some b ∧ s.call b = none))
    ∨ (3 ≤ k.entry.cls ∧ 7 ≤ k.entry.attempts)

theorem isCue_iff {k : Key} : k.isCue = true ↔ ∃ id n, k = .cue id n := by cases k <;> simp [Key.isCue]

theorem bound_iff {s : State} {b : Option Nat} : (b.bind s.call).isNone = true ↔ b = none ∨ ∃ x, b = some x ∧ s.call x = none := by
  cases b <;> simp

theorem requeueBar_cases (s : State) (k : Continuation) (o : Ending) :
    (Barred s k o ∧ ∃ r, s.requeueBar k o = some r ∧ r.counter = .annAborted) ∨ (¬Barred s k o ∧ s.requeueBar k o = none) := by
  have hlive : (k.entry.key.isLive && decide (o = .preempted)) = true ↔ o = .preempted ∧ ∃ desk, k.entry.key = .live desk := by
    rw [Bool.and_eq_true, isLive_iff, decide_eq_true_iff, and_comm]
  have hexpired : (k.entry.expiry.any fun x => decide (x ≤ s.now)) = true ↔ ∃ x, k.entry.expiry = some x ∧ x ≤ s.now := by
    simp [Option.any_eq_true]
  have hgone : (k.entry.key.isCue && (k.entry.boundCall.bind s.call).isNone) = true
      ↔ ∃ id n, k.entry.key = .cue id n ∧ (k.entry.boundCall = none ∨ ∃ b, k.entry.boundCall = some b ∧ s.call b = none) := by
    rw [Bool.and_eq_true, isCue_iff, bound_iff]
    simp only [exists_and_right]
  have hcontended : (decide (3 ≤ k.entry.cls) && decide (8 ≤ k.entry.attempts + 1)) = true ↔ 3 ≤ k.entry.cls ∧ 7 ≤ k.entry.attempts := by
    rw [Bool.and_eq_true, decide_eq_true_iff, decide_eq_true_iff]
    omega
  unfold State.requeueBar Barred
  split
  next h => exact .inl ⟨.inl (hlive.mp h), _, rfl, rfl⟩
  next hl =>
    split
    next h => exact .inl ⟨.inr (.inl (hexpired.mp h)), _, rfl, rfl⟩
    next he =>
      split
      next h => exact .inl ⟨.inr (.inr (.inl (hgone.mp h))), _, rfl, rfl⟩
      next hg =>
        split
        next h => exact .inl ⟨.inr (.inr (.inr (hcontended.mp h))), _, rfl, rfl⟩
        next hc =>
          refine .inr ⟨?_, rfl⟩
          rintro (h | h | h | h)
          · exact hl (hlive.mpr h)
          · exact he (hexpired.mpr h)
          · exact hg (hgone.mpr h)
          · exact hc (hcontended.mpr h)

/-- With nothing waiting, a result given is all that the tail's end leaves (R106). -/
theorem walk_give_of_empty {v : State} (k : Key) (r : Result) (h : v.queue.entries = []) :
    (v.give k r).walk.queue.entries = [] ∧ (v.give k r).walk.link = (v.give k r).link
      ∧ ∀ n : Fin 16, n ≠ 6 → (v.give k r).walk.counters[n] = (v.count r.counter).counters[n] := by
  have hgive := tells_give v k r
  have hentries : (v.give k r).queue.entries = [] := by rw [hgive.sends.queue]; exact h
  rw [walk_of_empty_eq hentries]
  exact ⟨hentries, rfl, fun n hn => hgive.counter n hn⟩


/-- What the statement on a returned announcement asks of the entry that `State.offerEntry` is given. -/
theorem returned {s v : State} {c : ChanId} {i : ChanInst} {x : Key} (hapart : s.KeysApart) (hchan : s.chan c = some i) (hkey : i.key = some x)
    (hroom : s.queue.entries.length < 24) (hentries : v.queue.entries = s.queue.entries) (hchans : v.chans = s.chans.set c none) {e : Entry}
    (he : e.key = x) :
    ∃ (w : State) (f : Entry), (v.offerEntry e).walk = w.walk.walk ∧ f ∈ w.queue.entries ∧ f = { e with tag := f.tag, seq := f.seq } := by
  have hfree := key_free hapart hchan hkey hentries hchans
  rw [← he] at hfree
  rw [offerEntry_of_free hfree (by rw [hentries]; exact hroom)]
  exact ⟨_, _, rfl, mem_insertNew_self v e, rfl⟩

theorem renewalStart_eq (r : Repeat) (now : Nat) : renewalStart r now = match r with | .continuous g => now + 1000 * g | _ => now := by
  cases r with
  | once => rfl
  | every p m => rfl
  | continuous g => exact congrArg (now + ·) (Nat.mul_comm g 1000)

theorem offerRenewal_of_none {s : State} {k : Continuation} (h : k.renewal = none) : s.offerRenewal k = s := by
  simp only [State.offerRenewal, h]

theorem offerRenewal_of_some {s : State} {k : Continuation} {w : Entry} (h : k.renewal = some w) :
    s.offerRenewal k = s.offerEntry { w with attempts := 0, notBefore := renewalStart w.repetition s.now } := by
  simp only [State.offerRenewal, h]

theorem offerNext_of_renewal {s : State} {k : Continuation} {w : Entry} (h : k.renewal = some w) : s.offerNext k = s.offerRenewal k := by
  simp only [State.offerNext, h]

theorem offerNext_of_next {s : State} {k : Continuation} {e : Entry} (h : k.renewal = none) (hnext : nextRepeat k s.now = some e)
    (hbefore : ∀ x, e.expiry = some x → e.notBefore < x) : s.offerNext k = s.offerEntry e := by
  have hall : (e.expiry.all fun x => decide (e.notBefore < x)) = true := by
    cases hexp : e.expiry with
    | none => rfl
    | some x => exact decide_eq_true (hbefore x hexp)
  simp only [State.offerNext, h, hnext, hall, if_true]

theorem offerNext_of_over {s : State} {k : Continuation} (h : k.renewal = none) (hnext : nextRepeat k s.now = none) : s.offerNext k = s := by
  simp only [State.offerNext, h, hnext]

theorem nextRepeat_of_every {k : Continuation} {p : Nat} {m : Option Nat} (now : Nat) (h : k.entry.repetition = .every p m) (hm : m ≠ some 1) :
    nextRepeat k now = some
      { k.entry with
        repetition := .every p (m.map (· - 1)), notBefore := max (k.dispatchedAt + p * 60000) now, attempts := 0 } := by
  unfold nextRepeat
  rw [h]
  split
  next h' => cases h'
  next h' => cases h'; exact absurd rfl hm
  next h' => cases h'; rfl
  next h' => cases h'

/-- The result of an instance with a stop mark (R103): the mark's where the announcement would return. -/
def markedResult (o : Ending) (m : StopMark) : Result :=
  match o with
  | .withdrawn | .preempted => m.result
  | .done => .done
  | .stopped => .stopped
  | .underrun => .underrun
  | .obsolete => .obsolete
  | .aborted => .aborted

theorem counter_markedResult {o : Ending} {m : StopMark} (h : o ≠ .done) : (markedResult o m).counter = .annAborted := by
  cases o with
  | done => exact absurd rfl h
  | withdrawn | preempted => cases m <;> rfl
  | stopped | underrun | obsolete | aborted => rfl

/-- Settles O48: the table of R103 to R105, with and without a stop mark. -/
theorem announcementReturns : Obligations.AnnouncementReturns := by
  refine ⟨fun s c i d k o hawake hchan hstate hend hcont hkey hmark hout hapart hroom hrenewal now hnow => ?_,
    fun s c i d k o m hawake hchan hstate hend hcont hkey hmark hout hapart hroom hrenewal now hnow => ?_⟩
  · have hexec := exec_tailEnd hawake hchan hstate hend hkey hcont hout
    obtain ⟨u, hu⟩ : ∃ u, u = reporting s c d := ⟨_, rfl⟩
    rw [show (freed s c d).setCont c none = u from hu.symm] at hexec
    have hunow : u.now = now := by rw [hu, now_reporting, hnow]
    have hkeeps : Keeps (s.advanceTo d) (u.settleEnd k o).walk := by
      rw [hu]
      exact ((keeps_reporting s c d).trans (keeps_settleEnd _ k o)).trans (keeps_walk _)
    have huentries : u.queue.entries = s.queue.entries := by rw [hu, entries_reporting]
    have huchans : u.chans = s.chans.set c none := by rw [hu, chans_reporting]
    have hucounters : u.counters = s.counters := by rw [hu, counters_reporting]
    have hback {v : State} (hentries : v.queue.entries = u.queue.entries) (hchans : v.chans = u.chans) {e : Entry} (he : e.key = k.entry.key) :=
      returned hapart hchan hkey hroom (hentries.trans huentries) (hchans.trans huchans) he
    refine ⟨_, hexec, (now_of_clock hkeeps.clock).trans hnow.symm, hkeeps.calls, fun ho => ⟨fun hbar hempty => ?_, fun h1 h2 h3 h4 => ?_⟩, fun w ho hren => ?_,
      fun p m ho hren hrep hm hexp => ?_, fun g ho hren hrep hexp => ?_, fun hren hempty ho => ?_⟩
    · have hsettle : u.settleEnd k o = u.requeue k o := by
        obtain h | h := ho <;> simp only [h, State.settleEnd, hmark]
      have hbarred : Barred u k o := by
        unfold Barred
        rw [hunow, hu, call_reporting]
        exact hbar
      obtain ⟨-, r, hr, hcounter⟩ | ⟨hnot, -⟩ := requeueBar_cases u k o
      · have hgive : u.requeue k o = u.give k.entry.key r := by simp only [State.requeue, hr]
        obtain ⟨hentries, -, hcounters⟩ := walk_give_of_empty (v := u) k.entry.key r (huentries.trans hempty)
        rw [hsettle, hgive, ← hucounters]
        refine ⟨hentries, (hcounters 9 (by decide)).trans ?_⟩
        rw [hcounter]
        exact count_counter u .annAborted
      · exact absurd hbarred hnot
    · have hsettle : u.settleEnd k o = u.requeue k o := by
        obtain h | h := ho <;> simp only [h, State.settleEnd, hmark]
      obtain ⟨hbarred, -⟩ | ⟨-, hnone⟩ := requeueBar_cases u k o
      · unfold Barred at hbarred
        rw [hunow, hu, call_reporting] at hbarred
        obtain h | ⟨x, hx, hle⟩ | ⟨id, n, hcue, hgone⟩ | ⟨hcls, hatt⟩ := hbarred
        · exact absurd h h1
        · exact absurd (h2 x hx) (by omega)
        · obtain ⟨b, r, hb, hr⟩ := h3 id n hcue
          obtain h | ⟨y, hy, hnone⟩ := hgone
          · rw [h] at hb
            cases hb
          · rw [hy] at hb
            cases hb
            rw [hnone] at hr
            cases hr
        · omega
      · have hrequeue : u.requeue k o = u.offerEntry
            { k.renewal.getD k.entry with
              attempts := min (k.entry.attempts + 1) 15,
              notBefore := if o = .withdrawn then now + 1000 + 250 * (s.cfg.nodeId % 4) else now, expiry := k.entry.expiry } := by
          simp only [State.requeue, hnone, hunow]
          rw [hu, cfg_reporting, NodeConfig.backoff, ← Nat.add_assoc]
        rw [hsettle, hrequeue]
        refine hback rfl rfl ?_
        change (k.renewal.getD k.entry).key = k.entry.key
        cases hren : k.renewal with
        | none => rfl
        | some w => exact hrenewal w hren
    · obtain ⟨r, hsettle⟩ : ∃ r, u.settleEnd k o = (u.give k.entry.key r).offerRenewal k := by
        obtain h | h | h := ho
        · exact ⟨.done, by simp only [h, State.settleEnd, hmark, offerNext_of_renewal hren]⟩
        · exact ⟨.stopped, by simp only [h, State.settleEnd, hmark]⟩
        · exact ⟨.underrun, by simp only [h, State.settleEnd, hmark]⟩
      have hgive := (tells_give u k.entry.key r).sends
      rw [hsettle, offerRenewal_of_some hren, hgive.now, show (u.count r.counter).now = now from hunow, renewalStart_eq]
      exact hback (congrArg (·.entries) hgive.queue) hgive.chans (hrenewal w hren)
    · have hgive := (tells_give u k.entry.key .done).sends
      have hnext := nextRepeat_of_every (k := k) (u.give k.entry.key .done).now hrep hm
      rw [show (u.give k.entry.key .done).now = now from hgive.now.trans hunow] at hnext
      have hsettle : u.settleEnd k o = (u.give k.entry.key .done).offerNext k := by simp only [ho, State.settleEnd, hmark]
      rw [hsettle, offerNext_of_next hren (by rw [show (u.give k.entry.key .done).now = now from hgive.now.trans hunow]; exact hnext) hexp]
      exact hback (congrArg (·.entries) hgive.queue) hgive.chans rfl
    · have hgive := (tells_give u k.entry.key .done).sends
      have hsettle : u.settleEnd k o = (u.give k.entry.key .done).offerNext k := by simp only [ho, State.settleEnd, hmark]
      have hnext : nextRepeat k (u.give k.entry.key .done).now = some { k.entry with notBefore := now + 1000 * g, attempts := 0 } := by
        simp only [nextRepeat, hrep]
        rw [show (u.give k.entry.key .done).now = now from hgive.now.trans hunow, Nat.mul_comm]
      rw [hsettle, offerNext_of_next hren hnext hexp]
      exact hback (congrArg (·.entries) hgive.queue) hgive.chans rfl
    · obtain ⟨r, hsettle⟩ : ∃ r, u.settleEnd k o = u.give k.entry.key r := by
        obtain h | h | h | h | ⟨h, p, hrep⟩ := ho
        · exact ⟨.stopped, by simp only [h, State.settleEnd, hmark, offerRenewal_of_none hren]⟩
        · exact ⟨.underrun, by simp only [h, State.settleEnd, hmark, offerRenewal_of_none hren]⟩
        · exact ⟨.obsolete, by simp only [h, State.settleEnd, hmark]⟩
        · exact ⟨.aborted, by simp only [h, State.settleEnd, hmark]⟩
        · have hnext (n : Nat) : nextRepeat k n = none := by simp only [nextRepeat, hrep]
          exact ⟨.done, by simp only [h, State.settleEnd, hmark, offerNext_of_over hren (hnext _)]⟩
      rw [hsettle]
      exact (walk_give_of_empty (v := u) k.entry.key r (huentries.trans hempty)).1
  · have hexec := exec_tailEnd hawake hchan hstate hend hkey hcont hout
    obtain ⟨u, hu⟩ : ∃ u, u = reporting s c d := ⟨_, rfl⟩
    rw [show (freed s c d).setCont c none = u from hu.symm] at hexec
    have hunow : u.now = now := by rw [hu, now_reporting, hnow]
    have hkeeps : Keeps (s.advanceTo d) (u.settleEnd k o).walk := by
      rw [hu]
      exact ((keeps_reporting s c d).trans (keeps_settleEnd _ k o)).trans (keeps_walk _)
    have huentries : u.queue.entries = s.queue.entries := by rw [hu, entries_reporting]
    have huchans : u.chans = s.chans.set c none := by rw [hu, chans_reporting]
    have hucounters : u.counters = s.counters := by rw [hu, counters_reporting]
    have hsettle : u.settleEnd k o = (u.give k.entry.key (markedResult o m)).offerRenewal k := by
      cases o <;> simp only [State.settleEnd, hmark, markedResult]
    refine ⟨_, hexec, (now_of_clock hkeeps.clock).trans hnow.symm, hkeeps.calls, fun hren hempty => ?_, fun w hren => ?_⟩
    · obtain ⟨hentries, hlink, hcounters⟩ := walk_give_of_empty (v := u) k.entry.key (markedResult o m) (huentries.trans hempty)
      rw [hsettle, offerRenewal_of_none hren, hlink, ← hucounters]
      refine ⟨hentries, fun ho => ?_, fun ho => ?_, fun desk tag hdesk hon hfree hmarked => ?_⟩
      · refine (hcounters 8 (by decide)).trans ?_
        rw [ho]
        exact count_counter u .annDone
      · refine (hcounters 9 (by decide)).trans ?_
        rw [counter_markedResult ho]
        exact count_counter u .annAborted
      · have hframe : resultFrame k.entry.key (markedResult o m)
            = some (plainFrame desk .announceResult (resultPayload (some tag) (markedResult o m)) 3) := by simp only [resultFrame, hdesk]
        refine ⟨_, mem_give hframe (by rw [hu, onLink_reporting]; exact hon) (by rw [hu, link_reporting]; exact hfree)
          (by rw [hu, faults_reporting]; exact hmarked), rfl, rfl, fun ho => ?_, fun ho => ?_, fun ho => ?_, fun ho => ?_, fun ho => ?_⟩
        · obtain rfl | rfl := ho <;> cases m <;> rfl
        · rw [ho]
          rfl
        · rw [ho]
          rfl
        · rw [ho]
          rfl
        · rw [ho]
          rfl
    · have hgive := (tells_give u k.entry.key (markedResult o m)).sends
      rw [hsettle, offerRenewal_of_some hren, hgive.now, show (u.count (markedResult o m).counter).now = now from hunow, renewalStart_eq]
      exact returned hapart hchan hkey hroom ((congrArg (·.entries) hgive.queue).trans huentries) (hgive.chans.trans huchans) (hrenewal w hren)


end Sys2Proof.Proofs.EndRules
end

section
/-! The fault records key by key (R173), noise gates and their sensor faults (R142 to R146). -/

namespace Sys2Proof.Proofs.GateRules

open Sys2Proof.Machine
open Sys2Proof.Proofs.LiveClose Sys2Proof.Proofs.Faults Sys2Proof.Proofs.Upkeep Sys2Proof.Proofs.Uphold Sys2Proof.Proofs.CallRules
open Sys2Proof.Proofs.Commands Sys2Proof.Proofs.Steps Sys2Proof.Proofs.Reports Sys2Proof.Proofs.Starting Sys2Proof.Proofs.Transmit
open Sys2Proof.Proofs.LineRules Sys2Proof.Proofs.FaultRules Sys2Proof.Proofs.QueueRules Sys2Proof.Proofs.ClaimRules
open Sys2Proof.Proofs.ChannelRules Sys2Proof.Proofs.LeadRules

/-! ### The record of one key (R173) -/

/-- From `s` to `t` the record of a key is as it was, in its slot, or there is none before and after. -/
def KeepsKey (k : FaultKind) (subject : Option Nat) (s t : State) : Prop :=
  ∀ (i : Fin 16) (r : FaultRecord), r.hasKey k subject false = true →
    ((t.faults.slots[i]).record = some r ↔ (s.faults.slots[i]).record = some r)

section
variable {k k' : FaultKind} {subject subject' : Option Nat} {s t u : State}

theorem KeepsKey.trans (h : KeepsKey k subject s t) (g : KeepsKey k subject t u) : KeepsKey k subject s u :=
  fun i r hr => (g i r hr).trans (h i r hr)

theorem keepsKey_of_record (h : ∀ i : Fin 16, (t.faults.slots[i]).record = (s.faults.slots[i]).record) : KeepsKey k subject s t :=
  fun i r _ => by rw [h i]

theorem KeepsKey.find (h : KeepsKey k subject s t) : t.faults.find k subject false = s.faults.find k subject false := by
  refine find_congr fun i => ?_
  rw [Bool.eq_iff_iff, Option.any_eq_true, Option.any_eq_true]
  exact ⟨fun ⟨r, hr, hkey⟩ => ⟨r, (h i r hkey).mp hr, hkey⟩, fun ⟨r, hr, hkey⟩ => ⟨r, (h i r hkey).mpr hr, hkey⟩⟩

/-- A write of a record of another key over none, or over one of that key, keeps the record of a key. -/
theorem keepsKey_write {x : FaultTable} {i : Fin 16} {w : FaultRecord} (hother : ¬(k' = k ∧ subject' = subject))
    (hkey : w.hasKey k' subject' false = true) (hold : ∀ r, (x.slots[i]).record = some r → r.hasKey k' subject' false = true)
    (hs : s.faults = x) (ht : ∀ j : Fin 16, (t.faults.slots[j]).record = ((x.write i (some w)).slots[j]).record) : KeepsKey k subject s t := by
  have hnot {r : FaultRecord} (hr : r.hasKey k subject false = true) : r.hasKey k' subject' false = true → False := by
    intro hr'
    obtain ⟨hk, hsub, -⟩ := (hasKey_iff _ _ _ _).mp hr
    obtain ⟨hk', hsub', -⟩ := (hasKey_iff _ _ _ _).mp hr'
    exact hother ⟨hk'.symm.trans hk, hsub'.symm.trans hsub⟩
  intro j r hr
  rw [ht, hs, record_write]
  split
  next hj =>
    subst hj
    refine ⟨fun h => ?_, fun h => (hnot hr (hold r h)).elim⟩
    cases h
    exact (hnot hr hkey).elim
  · rfl

theorem record_of_place {x : FaultTable} {major : Bool} {i : Fin 16} (hroom : x.HasRoom) (h : x.place major = some i) :
    (x.slots[i]).record = none := by
  unfold FaultTable.place at h
  split at h
  next hfind =>
    cases h
    simpa using List.find?_some hfind
  next hnone =>
    obtain ⟨j, hj⟩ := hroom
    have hfull := List.find?_eq_none.mp hnone j (mem_allSlots j)
    rw [hj] at hfull
    exact absurd rfl hfull

/-- With an empty slot, a raise keeps the record of every other key. -/
theorem keepsKey_raise (hother : ¬(k' = k ∧ subject' = subject)) (hroom : s.faults.HasRoom) : KeepsKey k subject s (s.raise k' subject') := by
  obtain ⟨i, r, hfind, hr, hraise⟩ | ⟨hfind, i, hplace, hraise⟩ | ⟨-, -, hraise⟩ := raiseAs_cases s k' subject' false
  · have hkey := hasKey_of_find hfind hr
    refine keepsKey_write (i := i) (w := r.raised s.stampNow s.now) hother hkey (fun q hq => ?_) rfl fun j => ?_
    · rw [hr] at hq
      cases hq
      exact hkey
    · rw [State.raise, hraise, pump_record]
  · refine keepsKey_write (i := i) (w := firstRecord k' subject' false s.stampNow s.now) hother ((hasKey_iff _ _ _ _).mpr ⟨rfl, rfl, rfl⟩)
      (fun q hq => ?_) rfl fun j => ?_
    · rw [record_of_place hroom hplace] at hq
      cases hq
    · rw [State.raise, hraise, pump_record]
  · refine keepsKey_of_record fun j => ?_
    rw [State.raise, hraise]
    rfl

/-- A clear keeps the record of every other key. -/
theorem keepsKey_clear (hother : ¬(k' = k ∧ subject' = subject)) : KeepsKey k subject s (s.clear k' subject') := by
  intro i r hr
  rw [record_clear]
  split
  next hfind =>
    obtain ⟨q, hq, hkind, hsubject, -⟩ := record_of_find hfind
    obtain ⟨hk, hsub, -⟩ := (hasKey_iff _ _ _ _).mp hr
    rw [hq, Option.map_some]
    refine ⟨fun h => ?_, fun h => ?_⟩
    · have hrq : r.kind = q.kind ∧ r.subject = q.subject := by
        rw [← Option.some.inj h]
        split <;> exact ⟨rfl, rfl⟩
      exact absurd ⟨hkind.symm.trans (hrq.1.symm.trans hk), hsubject.symm.trans (hrq.2.symm.trans hsub)⟩ hother
    · cases h
      exact absurd ⟨hkind.symm.trans hk, hsubject.symm.trans hsub⟩ hother
  · rfl

/-- A raise between work that keeps the record of its key, where the table has room. -/
theorem raised_between (h : KeepsKey k subject s u) (hroom : u.faults.HasRoom) (g : KeepsKey k subject (u.raise k subject) t)
    (hstamp : t.stampNow = u.stampNow) (hnow : t.now = u.now) : s.Raised t k subject := by
  obtain ⟨hheld, hnew⟩ := raised_raise u k subject
  have hsends := sends_raise u k subject
  rw [hsends.stampNow, hsends.now] at hheld hnew
  rw [State.Raised, hstamp, hnow]
  refine ⟨fun i r hfind hr => ?_, fun hnone => ?_⟩
  · have hkey := hasKey_of_find hfind hr
    refine (g i _ ?_).mpr (hheld i r (h.find.trans hfind) ((h i r hkey).mpr hr))
    exact hkey
  · obtain ⟨i, hi⟩ | ⟨hfull, -⟩ := hnew (h.find.trans hnone)
    · exact .inl ⟨i, (g i _ ((hasKey_iff _ _ _ _).mpr ⟨rfl, rfl, rfl⟩)).mpr hi⟩
    · obtain ⟨j, hj⟩ := hroom
      have hsome := (hfull j).1
      rw [hj] at hsome
      cases hsome

/-- A clear between work that keeps the record of its key. -/
theorem cleared_between (h : KeepsKey k subject s u) (g : KeepsKey k subject (u.clear k subject) t) (hstamp : t.stampNow = u.stampNow)
    (hnow : t.now = u.now) : s.Cleared t k subject := by
  intro i r hfind hr
  have hkey := hasKey_of_find hfind hr
  have hclear := cleared_clear u k subject i r (h.find.trans hfind) ((h i r hkey).mpr hr)
  rw [(sends_clear u k subject).stampNow, (sends_clear u k subject).now] at hclear
  rw [hstamp, hnow]
  by_cases hstate : r.state = .clearedUnack
  · rw [if_pos hstate] at hclear ⊢
    exact (g i r hkey).mpr hclear
  · rw [if_neg hstate] at hclear ⊢
    refine (g i _ ?_).mpr hclear
    exact hkey

end

/-! ### A complete gate (R145, R146) -/

/-- What settling the gates keeps of a zone's items: its runs, its sensor fault and its average. -/
structure SameSensor (l m : Level) : Prop where
  highRun : m.highRun = l.highRun
  silentRun : m.silentRun = l.silentRun
  goodRun : m.goodRun = l.goodRun
  ambient : m.ambient = l.ambient
  sensorFault : m.sensorFault = l.sensorFault
  quietAt : m.quietAt = l.quietAt

theorem SameSensor.refl (l : Level) : SameSensor l l := ⟨rfl, rfl, rfl, rfl, rfl, rfl⟩

theorem sameSensor_settleGates (s : State) (z : ZoneId) : SameSensor (s.level z) (s.settleGates.level z) := by
  refine level_settleGates (P := SameSensor (s.level z)) fun t _ hlevel => ?_
  rw [← hlevel]
  obtain ⟨-, hsame | hstart⟩ | ⟨-, hdiscard⟩ := settleGate_cases t z
  · rw [hsame]
    exact SameSensor.refl _
  · rw [hstart, level_setLevel_self]
    exact ⟨rfl, rfl, rfl, rfl, rfl, rfl⟩
  · rw [hdiscard]
    split
    · rw [level_setLevel_self]
      exact ⟨rfl, rfl, rfl, rfl, rfl, rfl⟩
    · exact SameSensor.refl _

/-- The items of a zone whose gate was judged, with the class of the gate (R145 to R147). -/
def judgedLevel (l : Level) (c : GateClass) (ambient lastUpdate : Nat) : Level :=
  { if c = .good then { l.moveRuns c with ambient := ambient, lastUpdate := lastUpdate } else l.moveRuns c with
    gate := none, user := .free, sensorFault := (l.moveRuns c).nextFault }

theorem judgeGate_eq (s : State) (z : ZoneId) (g : Gate) :
    s.judgeGate z g = (s.setLevel z fun _ => judgedLevel (s.level z) (gateClass (s.level z).overflow (s.level z).count s.cfg.gateLength)
      (newAmbient (s.level z).ambient (measured (s.level z).count s.cfg.gateLength)) g.endAt).sensorCondition z (s.level z).sensorFault
      ((s.level z).moveRuns (gateClass (s.level z).overflow (s.level z).count s.cfg.gateLength)).nextFault := rfl

section
variable (l : Level) (ambient lastUpdate : Nat)

theorem judgedLevel_high : (judgedLevel l .high ambient lastUpdate).highRun = min (l.highRun + 1) 3
    ∧ (judgedLevel l .high ambient lastUpdate).silentRun = 0 ∧ (judgedLevel l .high ambient lastUpdate).goodRun = 0
    ∧ (judgedLevel l .high ambient lastUpdate).ambient = l.ambient
    ∧ (2 ≤ l.highRun → (judgedLevel l .high ambient lastUpdate).sensorFault = .high) := by
  refine ⟨rfl, rfl, rfl, rfl, fun h => ?_⟩
  exact if_pos (show min (l.highRun + 1) 3 = 3 by omega)

theorem judgedLevel_silent : (judgedLevel l .silent ambient lastUpdate).silentRun = min (l.silentRun + 1) 3
    ∧ (judgedLevel l .silent ambient lastUpdate).highRun = 0 ∧ (judgedLevel l .silent ambient lastUpdate).goodRun = 0
    ∧ (judgedLevel l .silent ambient lastUpdate).ambient = l.ambient
    ∧ (2 ≤ l.silentRun → (judgedLevel l .silent ambient lastUpdate).sensorFault = .silent) := by
  refine ⟨rfl, rfl, rfl, rfl, fun h => ?_⟩
  have hrun : min (l.silentRun + 1) 3 = 3 := by omega
  simp [judgedLevel, Level.nextFault, Level.moveRuns, hrun]

theorem judgedLevel_good : (judgedLevel l .good ambient lastUpdate).goodRun = min (l.goodRun + 1) 3
    ∧ (judgedLevel l .good ambient lastUpdate).highRun = 0 ∧ (judgedLevel l .good ambient lastUpdate).silentRun = 0
    ∧ (2 ≤ l.goodRun → (judgedLevel l .good ambient lastUpdate).sensorFault = .none) := by
  refine ⟨rfl, rfl, rfl, fun h => ?_⟩
  have hrun : min (l.goodRun + 1) 3 = 3 := by omega
  simp [judgedLevel, Level.nextFault, Level.moveRuns, hrun]

end

section
variable {n w : Nat} {overflow : Bool}

theorem gateClass_high (h : overflow = true ∨ 520 < 120 + 80 * n / w) : gateClass overflow n w = .high := by
  unfold gateClass measured
  by_cases hover : overflow = true
  · rw [if_pos hover]
  · have hlevel := h.resolve_left hover
    rw [if_neg hover, if_neg (fun hn => by rw [hn] at hlevel; simp at hlevel), if_pos hlevel]

theorem gateClass_silent (hover : overflow = false) (hn : n = 0) : gateClass overflow n w = .silent := by
  rw [gateClass, hover, if_neg Bool.false_ne_true, if_pos hn]

theorem gateClass_good (hover : overflow = false) (hn : n ≠ 0) (hlevel : 120 + 80 * n / w ≤ 520) : gateClass overflow n w = .good := by
  rw [gateClass, hover, if_neg Bool.false_ne_true, if_neg hn, measured, if_neg (Nat.not_lt.mpr hlevel)]

end

/-! ### Conditions that follow a state (R146, R166) -/

/-- The condition of a state entered, if it has one, is raised for a zone. -/
def raiseOf (s : State) (k : Option FaultKind) (z : Nat) : State := match k with | some k => s.raise k (some z) | none => s

/-- The condition of a state left, if it has one, is cleared for a zone. -/
def clearOf (s : State) (k : Option FaultKind) (z : Nat) : State := match k with | some k => s.clear k (some z) | none => s

section
variable (s : State) (k : Option FaultKind) (z : Nat)

theorem sends_raiseOf : Sends s (raiseOf s k z) := by
  cases k with
  | none => exact Sends.refl s
  | some k => exact sends_raise s k _

theorem sends_clearOf : Sends s (clearOf s k z) := by
  cases k with
  | none => exact Sends.refl s
  | some k => exact sends_clear s k _

end

/-- From `s` to `t` a state with the condition `old` was left for one with the condition `new`, and no other condition moved. -/
structure Turned (s t : State) (old new : Option FaultKind) (z : Nat) : Prop where
  raised : ∀ k, new = some k → (old = none ∨ s.faults.HasRoom ∧ old ≠ some k) → s.Raised t k (some z)
  cleared : ∀ k, old = some k → (new = none ∨ s.faults.HasRoom ∧ new ≠ some k) → s.Cleared t k (some z)
  record : old = none → new = none → ∀ i : Fin 16, (t.faults.slots[i]).record = (s.faults.slots[i]).record

theorem turned_clearOf_raiseOf (s : State) (old new : Option FaultKind) (z : Nat) : Turned s (clearOf (raiseOf s new z) old z) old new z where
  raised k hnew hold := by
    subst hnew
    obtain rfl | ⟨hroom, hne⟩ := hold
    · exact raised_raise s k (some z)
    · have hkept : KeepsKey k (some z) (s.raise k (some z)) (clearOf (s.raise k (some z)) old z) := by
        cases old with
        | none => exact keepsKey_of_record fun _ => rfl
        | some j => exact keepsKey_clear fun h => hne (congrArg some h.1)
      have hsends := (sends_raise s k (some z)).trans (sends_clearOf (s.raise k (some z)) old z)
      exact raised_between (keepsKey_of_record fun _ => rfl) hroom hkept hsends.stampNow hsends.now
  cleared k hold hnew := by
    subst hold
    have hsends := (sends_raiseOf s new z)
    have hkept : KeepsKey k (some z) s (raiseOf s new z) := by
      obtain rfl | ⟨hroom, hne⟩ := hnew
      · exact keepsKey_of_record fun _ => rfl
      · cases new with
        | none => exact keepsKey_of_record fun _ => rfl
        | some j => exact keepsKey_raise (fun h => hne (congrArg some h.1)) hroom
    exact cleared_between hkept (keepsKey_of_record fun _ => rfl) (sends_clear _ k (some z)).stampNow (sends_clear _ k (some z)).now
  record hold hnew := by
    subst hold
    subst hnew
    exact fun _ => rfl

/-- The fault kind of a sensor fault (R146). -/
def sensorKind : SensorFault → Option FaultKind
  | .none => none
  | .high => some .sensorHigh
  | .silent => some .sensorSilent

theorem sensorCondition_eq (s : State) (z : ZoneId) {old new : SensorFault} (h : old ≠ new) :
    s.sensorCondition z old new = clearOf (raiseOf s (sensorKind new) z.val) (sensorKind old) z.val := by
  unfold State.sensorCondition
  rw [if_neg h]
  cases old <;> cases new <;> rfl

theorem sensorCondition_same (s : State) (z : ZoneId) (f : SensorFault) : s.sensorCondition z f f = s := if_pos rfl

theorem sends_sensorCondition (s : State) (z : ZoneId) (old new : SensorFault) : Sends s (s.sensorCondition z old new) := by
  by_cases h : old = new
  · rw [h, sensorCondition_same]
    exact Sends.refl s
  · rw [sensorCondition_eq s z h]
    exact (sends_raiseOf s _ _).trans (sends_clearOf _ _ _)

theorem turned_sensorCondition (s : State) (z : ZoneId) {old new : SensorFault} (h : old ≠ new) :
    Turned s (s.sensorCondition z old new) (sensorKind old) (sensorKind new) z.val := by
  rw [sensorCondition_eq s z h]
  exact turned_clearOf_raiseOf s _ _ _

/-- The statement on a change of conditions sees the records, the time and FAULTS_DROPPED alone. -/
theorem Turned.congr {s t s' t' : State} {old new : Option FaultKind} {z : Nat} (h : Turned s t old new z) (hs : s'.faults = s.faults)
    (hsc : s'.counters = s.counters) (ht : t'.faults = t.faults) (htc : t'.counters = t.counters) (hstamp : t'.stampNow = t.stampNow)
    (hnow : t'.now = t.now) : Turned s' t' old new z where
  raised k hnew hold :=
    raised_congr (h.raised k hnew (by rwa [hs] at hold)) (fun _ => by rw [hs]) (fun _ => by rw [ht]) (by rw [hsc]) (by rw [htc]) hstamp hnow
  cleared k hold hnew := cleared_congr (h.cleared k hold (by rwa [hs] at hnew)) (fun _ => by rw [hs]) (fun _ => by rw [ht]) hstamp hnow
  record hold hnew i := by rw [ht, hs, h.record hold hnew i]

/-! ### The commands of gates and edges -/

/-- What R143 asks beside a free counter without a quiet deadline. -/
def gateReady (s : State) (z : ZoneId) : Bool := s.onLink && (s.cfg.zones[z]).present && (s.cfg.zones[z]).sensor && s.silentAround z

theorem gateMayStart_iff (s : State) (z : ZoneId) :
    s.gateMayStart z = true ↔ gateReady s z = true ∧ (s.level z).user = .free ∧ (s.level z).quietAt.isNone = true := by
  simp only [State.gateMayStart, gateReady, Bool.and_eq_true, decide_eq_true_eq]
  tauto

theorem gateReady_of_levels {s t : State} (h : t = { s with levels := t.levels }) (z : ZoneId) : gateReady t z = gateReady s z := by
  have hlevels (l : Vector Level 8) : gateReady { s with levels := l } z = gateReady s z := rfl
  rw [h, hlevels]

theorem gateMayStart_settleGate (s : State) (z : ZoneId) : ¬(s.settleGate z).gateMayStart z = true := by
  unfold State.settleGate
  extract_lets v
  generalize v = u
  split
  · rw [gateMayStart_iff, level_setLevel_self]
    rintro ⟨-, huser, -⟩
    cases huser
  next hnot => exact hnot

/-- Once the gates are settled none may start: one that might has (R143). -/
theorem gateMayStart_settleGates (s : State) (z : ZoneId) : s.settleGates.gateMayStart z = false := by
  rw [Bool.eq_false_iff, Ne, gateMayStart_iff, gateReady_of_levels (settleGates_eq s) z]
  refine level_settleGates (P := fun l => ¬(gateReady s z = true ∧ l.user = .free ∧ l.quietAt.isNone = true)) fun t ht _ => ?_
  have hstep : t.settleGate z = { s with levels := (t.settleGate z).levels } :=
    (settleGate_eq t z).trans (congrArg (fun v : State => { v with levels := (t.settleGate z).levels }) ht)
  have hnot := gateMayStart_settleGate t z
  rw [gateMayStart_iff, gateReady_of_levels hstep z] at hnot
  exact hnot

theorem exec_gateEnd {s : State} {z : ZoneId} {g : Gate} (hawake : s.Awake) (hgate : (s.level z).gate = some g) :
    exec (.gateEnd z) s = .next ((s.advanceTo g.endAt).judgeGate z g).settleGates := by
  have hover : s.gateOver z = ((s.advanceTo g.endAt).judgeGate z g).settleGates := by simp only [State.gateOver, hgate]
  rw [← hover]
  exact exec_awake hawake rfl

theorem counts_iff {u : CounterUser} {i : PulseInput} :
    u.counts i = true ↔ u = .noise ∧ i = .noiseSensor ∨ u = .line ∧ i = .lineSense := by
  cases u <;> cases i <;> simp [CounterUser.counts]

/-- Settles O51: the table of R145 by its three classes, the conditions of the fault left and entered, the quiet deadline and the edges. -/
theorem gatesAndEdges : Obligations.GatesAndEdges := by
  refine ⟨fun s z g hawake hgate => ?_, fun s z d hawake hquiet => ?_, fun s z i hawake => ⟨fun h => ?_, fun h => ?_⟩⟩
  · have hexec := exec_gateEnd hawake hgate
    obtain ⟨c, hc⟩ : ∃ c, c = gateClass (s.level z).overflow (s.level z).count s.cfg.gateLength := ⟨_, rfl⟩
    obtain ⟨l, hl⟩ : ∃ l, l = judgedLevel (s.level z) c (newAmbient (s.level z).ambient (measured (s.level z).count s.cfg.gateLength)) g.endAt := ⟨_, rfl⟩
    obtain ⟨v, hv⟩ : ∃ v, v = (s.advanceTo g.endAt).setLevel z fun _ => l := ⟨_, rfl⟩
    have hjudge : (s.advanceTo g.endAt).judgeGate z g = v.sensorCondition z (s.level z).sensorFault l.sensorFault := by
      rw [hv, hl, hc]
      exact judgeGate_eq (s.advanceTo g.endAt) z g
    rw [hjudge] at hexec
    have hsends := sends_sensorCondition v z (s.level z).sensorFault l.sensorFault
    have hlevel : (v.sensorCondition z (s.level z).sensorFault l.sensorFault).level z = l :=
      (congrArg (·[z]) hsends.levels).trans (by rw [hv]; exact level_setLevel_self _ z _)
    obtain ⟨w, hw⟩ : ∃ w, w = v.sensorCondition z (s.level z).sensorFault l.sensorFault := ⟨_, rfl⟩
    rw [← hw] at hexec hsends hlevel
    have hsame := sameSensor_settleGates w z
    rw [hlevel] at hsame
    have hframe := settleGates_eq w
    generalize w.settleGates = t at hexec hsame hframe
    have hturned (hne : (s.level z).sensorFault ≠ l.sensorFault) : Turned s t (sensorKind (s.level z).sensorFault) (sensorKind l.sensorFault) z.val := by
      have h := turned_sensorCondition v z hne
      rw [← hw] at h
      refine h.congr ?_ ?_ ?_ ?_ ?_ ?_
      · rw [hv]; rfl
      · rw [hv]; rfl
      · rw [hframe]
      · rw [hframe]
      · rw [hframe]; rfl
      · rw [hframe]; rfl
    have hkind {k : SensorFault} (h : (t.level z).sensorFault = k) : l.sensorFault = k := hsame.sensorFault.symm.trans h
    have hcase {old new : SensorFault} (hold : (s.level z).sensorFault = old) (hnew : (t.level z).sensorFault = new) (hne : old ≠ new) :
        Turned s t (sensorKind old) (sensorKind new) z.val := by
      rw [← hold, ← hkind hnew]
      exact hturned (by rwa [hold, hkind hnew])
    refine ⟨t, hexec, ?_, fun h => ?_, fun hover hcount => ?_, fun hover hcount hmeasured => ?_, fun h => ?_, fun hold hnew => ?_, fun hold hnew => ?_,
      fun hold hnew => ?_, fun hold hnew => ?_, fun hroom hold hnew => ?_, fun hroom hold hnew => ?_, ?_⟩
    · rw [hframe, hsends, hv]
      rfl
    · rw [gateClass_high h] at hc
      rw [hc] at hl
      rw [hsame.highRun, hsame.silentRun, hsame.goodRun, hsame.ambient, hsame.sensorFault, hl]
      exact judgedLevel_high _ _ _
    · rw [gateClass_silent hover hcount] at hc
      rw [hc] at hl
      rw [hsame.highRun, hsame.silentRun, hsame.goodRun, hsame.ambient, hsame.sensorFault, hl]
      exact judgedLevel_silent _ _ _
    · rw [gateClass_good hover hcount hmeasured] at hc
      rw [hc] at hl
      rw [hsame.highRun, hsame.silentRun, hsame.goodRun, hsame.sensorFault, hl]
      exact judgedLevel_good _ _ _
    · rw [hkind h, sensorCondition_same] at hw
      rw [hframe, hw, hv]
      exact fun _ => rfl
    · exact (hcase hold hnew (by decide)).raised _ rfl (.inl rfl)
    · exact (hcase hold hnew (by decide)).raised _ rfl (.inl rfl)
    · exact (hcase hold hnew (by decide)).cleared _ rfl (.inl rfl)
    · exact (hcase hold hnew (by decide)).cleared _ rfl (.inl rfl)
    · have h := hcase hold hnew (by decide)
      exact ⟨h.raised _ rfl (.inr ⟨hroom, by decide⟩), h.cleared _ rfl (.inr ⟨hroom, by decide⟩)⟩
    · have h := hcase hold hnew (by decide)
      exact ⟨h.raised _ rfl (.inr ⟨hroom, by decide⟩), h.cleared _ rfl (.inr ⟨hroom, by decide⟩)⟩
    · rw [hframe, hsends, hv]
      rfl
  · have hexec : exec (.quietDeadlineExpiry z) s = .next ((s.advanceTo d).setLevel z fun l => { l with quietAt := none }).settleGates := by
      have hover : s.quietOver z = ((s.advanceTo d).setLevel z fun l => { l with quietAt := none }).settleGates := by
        simp only [State.quietOver, hquiet]
      rw [← hover]
      exact exec_awake hawake rfl
    obtain ⟨v, hv⟩ : ∃ v, v = (s.advanceTo d).setLevel z fun l => { l with quietAt := none } := ⟨_, rfl⟩
    rw [← hv] at hexec
    have hsame (y : ZoneId) := sameSensor_settleGates v y
    have hmay := gateMayStart_settleGates v z
    have hframe := settleGates_eq v
    generalize v.settleGates = t at hexec hsame hmay hframe
    refine ⟨t, hexec, ?_, hmay, fun y => (hsame y).ambient.trans ?_, ?_⟩
    · rw [(hsame z).quietAt, hv, level_setLevel_self]
    · rw [hv]
      obtain rfl | hne := eq_or_ne z y
      · rw [level_setLevel_self]
        rfl
      · rw [level_setLevel_of_ne _ _ _ _ hne]
        rfl
    · rw [hframe, hv]
      rfl
  · have hexec : exec (.risingPulseEdge z i) s = .next (s.edge z i) := exec_awake hawake rfl
    rw [hexec, State.edge, if_pos (counts_iff.mpr h)]
    rfl
  · have hexec : exec (.risingPulseEdge z i) s = .next (s.edge z i) := exec_awake hawake rfl
    rw [hexec, State.edge, if_neg (counts_iff.not.mpr h)]

end Sys2Proof.Proofs.GateRules
end

section
/-! Line-test rounds: skips, groups and results (R164 to R169). -/

namespace Sys2Proof.Proofs.TestRules

open Sys2Proof.Machine
open Sys2Proof.Proofs.LiveClose Sys2Proof.Proofs.Faults Sys2Proof.Proofs.Upkeep Sys2Proof.Proofs.Uphold Sys2Proof.Proofs.CallRules
open Sys2Proof.Proofs.Commands Sys2Proof.Proofs.Steps Sys2Proof.Proofs.Reports Sys2Proof.Proofs.Starting Sys2Proof.Proofs.Transmit
open Sys2Proof.Proofs.LineRules Sys2Proof.Proofs.FaultRules Sys2Proof.Proofs.QueueRules Sys2Proof.Proofs.ClaimRules
open Sys2Proof.Proofs.ChannelRules Sys2Proof.Proofs.LeadRules Sys2Proof.Proofs.GateRules

/-! ### What a line test may change -/

/-- From `s` to `t` only zones, levels, lines, the scan but for its round deadline, the transmit queue, the faults and the counters differ. -/
def Testing (s t : State) : Prop :=
  t = { s with
    zones := t.zones, levels := t.levels,
    sup := { s.sup with lines := t.sup.lines, scan := { t.sup.scan with roundAt := s.sup.scan.roundAt } },
    link := { s.link with queue := t.link.queue, seqCounter := t.link.seqCounter }, faults := t.faults, counters := t.counters }

namespace Testing

theorem refl (s : State) : Testing s s := rfl

theorem trans {s t u : State} (h : Testing s t) (k : Testing t u) : Testing s u := by
  unfold Testing at h k ⊢
  rw [h] at k
  exact k

theorem after {s t u : State} (k : Testing t u) (h : Testing s t) : Testing s u := h.trans k

theorem ite {s t u : State} {p : Prop} [Decidable p] (h : Testing s t) (k : Testing s u) : Testing s (if p then t else u) := by
  split
  · exact h
  · exact k

theorem foldl {α : Type} {f : State → α → State} (hf : ∀ s a, Testing s (f s a)) (l : List α) (s : State) : Testing s (l.foldl f s) :=
  List.foldlRecOn l f (refl s) fun t h a _ => h.trans (hf t a)

section
variable {s t : State} (h : Testing s t)
include h

theorem now : t.now = s.now := by
  rw [h]
  rfl

theorem stampNow : t.stampNow = s.stampNow := by
  rw [h]
  rfl

theorem cfg : t.cfg = s.cfg := by
  rw [h]
  rfl

theorem clock : t.clock = s.clock := by rw [h]
theorem calls : t.calls = s.calls := by rw [h]
theorem queue : t.queue = s.queue := by rw [h]
theorem chans : t.chans = s.chans := by rw [h]
theorem claims : t.claims = s.claims := by rw [h]
theorem evac : t.evac = s.evac := by rw [h]
theorem roundAt : t.sup.scan.roundAt = s.sup.scan.roundAt := by rw [h]

end

end Testing

theorem testing_of_sends {s t : State} (h : Sends s t) : Testing s t := by
  unfold Testing
  rw [h]

theorem testing_raise (s : State) (k : FaultKind) (subject : Option Nat) : Testing s (s.raise k subject) := testing_of_sends (sends_raise s k subject)

theorem testing_clear (s : State) (k : FaultKind) (subject : Option Nat) : Testing s (s.clear k subject) := testing_of_sends (sends_clear s k subject)

theorem testing_settleGates (s : State) : Testing s s.settleGates := by
  have h := settleGates_eq s
  generalize s.settleGates = t at h
  unfold Testing
  rw [h]

theorem testing_skipZone (s : State) (z : ZoneId) : Testing s (s.skipZone z) := by
  unfold State.skipZone
  extract_lets k u
  have hset : Testing s u := rfl
  exact .ite (hset.trans (testing_raise u _ _)) hset

theorem testing_startTest (s : State) (z : ZoneId) : Testing s (s.startTest z) := by
  unfold State.startTest
  exact .ite rfl (.ite (testing_skipZone s z) (.refl s))

theorem testing_endRound (s : State) : Testing s s.endRound := rfl

theorem testing_beginGroups (l : List Nat) (s : State) : Testing s (beginGroups l s) := by
  induction l generalizing s with
  | nil => exact testing_endRound s
  | cons g rest ih =>
    have hfold := Testing.foldl testing_startTest (s.cfg.groupZones g) s
    unfold beginGroups
    exact .ite (hfold.trans rfl) (hfold.trans (ih _))

/-! ### The lines -/

/-- A zone's line (R166). -/
def lineOf (s : State) (z : ZoneId) : Line := s.sup.lines[z]

theorem lineOf_setLine_self (s : State) (z : ZoneId) (f : Line → Line) : lineOf (s.setLine z f) z = f (lineOf s z) :=
  Vector.getElem_set_self z.isLt

theorem lineOf_setLine_of_ne (s : State) {z y : ZoneId} (f : Line → Line) (h : y ≠ z) : lineOf (s.setLine z f) y = lineOf s y :=
  Vector.getElem_set_ne z.isLt y.isLt fun e => h (Fin.ext e.symm)

theorem lineOf_of_sup {s t : State} (h : t.sup = s.sup) (z : ZoneId) : lineOf t z = lineOf s z := by rw [lineOf, h]; rfl

/-! ### One zone after the other -/

/-- Each zone of a list is worked on by itself: what the work on one zone gives its view, working on them all gives it, and the views of the
others stay. -/
theorem foldl_view {α : Type} {f : State → ZoneId → State} {V : State → ZoneId → α} {s : State} {y : ZoneId} {P : α → Prop}
    (hframe : ∀ t z, Testing t (f t z)) (hother : ∀ t z, y ≠ z → V (f t z) y = V t y)
    (hself : ∀ t, Testing s t → V t y = V s y → P (V (f t y) y)) {l : List ZoneId} (hnodup : l.Nodup) :
    (y ∉ l → V (l.foldl f s) y = V s y) ∧ (y ∈ l → P (V (l.foldl f s) y)) := by
  have hall (l : List ZoneId) (t : State) (ht : Testing s t) (hnodup : l.Nodup) :
      (y ∉ l → V (l.foldl f t) y = V t y) ∧ (y ∈ l → V t y = V s y → P (V (l.foldl f t) y)) := by
    induction l generalizing t with
    | nil => exact ⟨fun _ => rfl, fun hy => nomatch hy⟩
    | cons z rest ih =>
      obtain ⟨hz, hrest⟩ := List.nodup_cons.mp hnodup
      obtain ⟨hout, hin⟩ := ih (f t z) (ht.trans (hframe t z)) hrest
      refine ⟨fun hy => ?_, fun hy hV => ?_⟩
      · rw [List.mem_cons, not_or] at hy
        exact (hout hy.2).trans (hother t z hy.1)
      · obtain rfl | hy := List.mem_cons.mp hy
        · rw [List.foldl_cons, hout hz]
          exact hself t ht hV
        · exact hin hy ((hother t z fun e => hz (e ▸ hy)).trans hV)
  exact ⟨(hall l s (.refl s) hnodup).1, fun hy => (hall l s (.refl s) hnodup).2 hy rfl⟩

/-- The fault table and the counters are as they were. -/
structure Quiet (s t : State) : Prop where
  faults : t.faults = s.faults
  counters : t.counters = s.counters

theorem Quiet.trans {s t u : State} (h : Quiet s t) (k : Quiet t u) : Quiet s u := ⟨k.faults.trans h.faults, k.counters.trans h.counters⟩

theorem raised_of_quiet {s t u v : State} {k : FaultKind} {subject : Option Nat} (h : Quiet s t) (hraised : t.Raised u k subject) (g : Quiet u v)
    (hstamp : v.stampNow = u.stampNow) (hnow : v.now = u.now) : s.Raised v k subject :=
  raised_congr hraised (fun _ => by rw [h.faults]) (fun _ => by rw [g.faults]) (by rw [h.counters]) (by rw [g.counters]) hstamp hnow

/-- Where the work raises a fault for the zones of a sort and for no other, a list with none of them raises nothing, and a list with one
raises it once. -/
theorem foldl_raised {f : State → ZoneId → State} {R : State → ZoneId → Prop} {k : FaultKind} (hframe : ∀ t z, Testing t (f t z))
    (hquiet : ∀ t z, ¬R t z → Quiet t (f t z)) (hraise : ∀ t z, R t z → t.Raised (f t z) k (some z.val))
    (hkeep : ∀ t z y, y ≠ z → (R (f t z) y ↔ R t y)) {l : List ZoneId} (s : State) (hnodup : l.Nodup) :
    ((∀ z ∈ l, ¬R s z) → Quiet s (l.foldl f s))
      ∧ ∀ z ∈ l, R s z → (∀ y ∈ l, y ≠ z → ¬R s y) → s.Raised (l.foldl f s) k (some z.val) := by
  induction l generalizing s with
  | nil => exact ⟨fun _ => ⟨rfl, rfl⟩, fun _ h => nomatch h⟩
  | cons a rest ih =>
    obtain ⟨ha, hrest⟩ := List.nodup_cons.mp hnodup
    obtain ⟨hnone, hone⟩ := ih (f s a) hrest
    have hsame {y : ZoneId} (hy : y ∈ rest) : R (f s a) y ↔ R s y := hkeep s a y fun e => ha (e ▸ hy)
    refine ⟨fun h => ?_, fun z hz hR hothers => ?_⟩
    · obtain ⟨hhead, htail⟩ := List.forall_mem_cons.mp h
      exact (hquiet s a hhead).trans (hnone fun z hz => (hsame hz).not.mpr (htail z hz))
    · have htesting := Testing.foldl hframe rest (f s a)
      obtain rfl | hz := List.mem_cons.mp hz
      · have hquietRest := hnone fun y hy => (hsame hy).not.mpr (hothers y (List.mem_cons_of_mem _ hy) fun e => ha (e ▸ hy))
        exact raised_of_quiet ⟨rfl, rfl⟩ (hraise s z hR) hquietRest htesting.stampNow htesting.now
      · have hne : a ≠ z := fun e => ha (e ▸ hz)
        have hfirst := hquiet s a (hothers a (List.mem_cons_self ..) hne)
        refine raised_of_quiet hfirst (hone z hz ((hsame hz).mpr hR) fun y hy hyz => ?_) ⟨rfl, rfl⟩ rfl rfl
        exact (hsame hy).not.mpr (hothers y (List.mem_cons_of_mem _ hy) hyz)

/-! ### Skips (R169) -/

/-- A line after one more skip. -/
def skippedLine (l : Line) : Line := { l with skips := min (l.skips + 1) 255 }

theorem skipZone_eq (s : State) (z : ZoneId) :
    s.skipZone z = if (lineOf s z).skips = 9 then (s.setLine z skippedLine).raise .lineUntested (some z.val) else s.setLine z skippedLine := by
  have hten : min ((lineOf s z).skips + 1) 255 = 10 ↔ (lineOf s z).skips = 9 := by omega
  unfold State.skipZone
  dsimp only
  by_cases h : (lineOf s z).skips = 9
  · rw [if_pos h]
    exact if_pos (hten.mpr h)
  · rw [if_neg h]
    exact if_neg (hten.not.mpr h)

theorem sends_skipZone (s : State) (z : ZoneId) : Sends (s.setLine z skippedLine) (s.skipZone z) := by
  rw [skipZone_eq]
  split
  · exact sends_raise _ _ _
  · exact Sends.refl _

theorem zones_skipZone (s : State) (z : ZoneId) : (s.skipZone z).zones = s.zones := (sends_skipZone s z).zones

theorem scan_skipZone (s : State) (z : ZoneId) : (s.skipZone z).sup.scan = s.sup.scan := congrArg (·.scan) (sends_skipZone s z).sup

theorem lineOf_skipZone_self (s : State) (z : ZoneId) : lineOf (s.skipZone z) z = skippedLine (lineOf s z) :=
  (lineOf_of_sup (sends_skipZone s z).sup z).trans (lineOf_setLine_self s z _)

theorem lineOf_skipZone_of_ne (s : State) {z y : ZoneId} (h : y ≠ z) : lineOf (s.skipZone z) y = lineOf s y :=
  (lineOf_of_sup (sends_skipZone s z).sup y).trans (lineOf_setLine_of_ne s _ h)

theorem quiet_skipZone {s : State} {z : ZoneId} (h : (lineOf s z).skips ≠ 9) : Quiet s (s.skipZone z) := by
  rw [skipZone_eq, if_neg h]
  exact ⟨rfl, rfl⟩

theorem raised_skipZone {s : State} {z : ZoneId} (h : (lineOf s z).skips = 9) : s.Raised (s.skipZone z) .lineUntested (some z.val) := by
  rw [skipZone_eq, if_pos h]
  exact raised_of_quiet (t := s.setLine z skippedLine) ⟨rfl, rfl⟩ (raised_raise _ _ _) ⟨rfl, rfl⟩ rfl rfl

/-! ### A group begins (R165) -/

theorem startTest_of_testable {s : State} {z : ZoneId} (h : s.testable z = true) :
    s.startTest z = s.setZone z fun x => { x with state := .test } := by rw [State.startTest, if_pos h]

theorem startTest_of_skipped {s : State} {z : ZoneId} (h : s.testable z = false) (hpresent : (s.zone z).present = true) :
    s.startTest z = s.skipZone z := by rw [State.startTest, if_neg (by rw [h]; exact Bool.false_ne_true), if_pos hpresent]

theorem startTest_of_absent {s : State} {z : ZoneId} (h : s.testable z = false) (hpresent : (s.zone z).present = false) :
    s.startTest z = s := by
  rw [State.startTest, if_neg (by rw [h]; exact Bool.false_ne_true), if_neg (by rw [hpresent]; exact Bool.false_ne_true)]

theorem startTest_cases (s : State) (z : ZoneId) :
    (s.testable z = true ∧ s.startTest z = s.setZone z fun x => { x with state := .test })
    ∨ (s.testable z = false ∧ (s.zone z).present = true ∧ s.startTest z = s.skipZone z)
    ∨ (s.testable z = false ∧ (s.zone z).present = false ∧ s.startTest z = s) := by
  cases htest : s.testable z with
  | true => exact .inl ⟨rfl, startTest_of_testable htest⟩
  | false =>
    cases hpresent : (s.zone z).present with
    | true => exact .inr (.inl ⟨rfl, rfl, startTest_of_skipped htest hpresent⟩)
    | false => exact .inr (.inr ⟨rfl, rfl, startTest_of_absent htest hpresent⟩)

/-- What a test sees of a zone: its items and its line. -/
def zoneLine (s : State) (z : ZoneId) : Zone × Line := (s.zone z, lineOf s z)

theorem zone_of_zones {s t : State} (h : t.zones = s.zones) (z : ZoneId) : t.zone z = s.zone z := by
  rw [State.zone, h]
  rfl

theorem zoneLine_startTest_of_ne (s : State) {z y : ZoneId} (h : y ≠ z) : zoneLine (s.startTest z) y = zoneLine s y := by
  unfold zoneLine
  obtain ⟨-, hstart⟩ | ⟨-, -, hstart⟩ | ⟨-, -, hstart⟩ := startTest_cases s z
  · rw [hstart, zone_setZone_of_ne _ _ _ _ h.symm]
    rfl
  · rw [hstart, zone_of_zones (zones_skipZone s z) y, lineOf_skipZone_of_ne s h]
  · rw [hstart]

theorem testable_iff_of_zone {s t : State} {z : ZoneId} (h : t.zone z = s.zone z) : t.testable z = s.testable z := by
  unfold State.testable
  rw [h]

/-- A zone and its line as its group begins. -/
def startedView (s : State) (z : ZoneId) : Zone × Line :=
  (if s.testable z then { s.zone z with state := .test } else s.zone z,
    if s.testable z then lineOf s z else if (s.zone z).present then skippedLine (lineOf s z) else lineOf s z)

theorem zoneLine_startTest_self (s : State) (z : ZoneId) : zoneLine (s.startTest z) z = startedView s z := by
  unfold zoneLine startedView
  obtain ⟨htest, hstart⟩ | ⟨htest, hpresent, hstart⟩ | ⟨htest, hpresent, hstart⟩ := startTest_cases s z
  · rw [hstart, htest, zone_setZone_self]
    rfl
  · rw [hstart, htest, hpresent, zone_of_zones (zones_skipZone s z) z, lineOf_skipZone_self]
    rfl
  · rw [hstart, htest, hpresent]
    rfl

theorem startedView_congr {s t : State} {z : ZoneId} (h : zoneLine t z = zoneLine s z) : startedView t z = startedView s z := by
  have hzone : t.zone z = s.zone z := congrArg Prod.fst h
  have hline : lineOf t z = lineOf s z := congrArg Prod.snd h
  unfold startedView
  rw [testable_iff_of_zone hzone, hzone, hline]

theorem groupZones_nodup (c : NodeConfig) (g : Nat) : (c.groupZones g).Nodup := List.Nodup.filter _ (by decide)

theorem zoneLine_startGroup {s : State} {l : List ZoneId} (hnodup : l.Nodup) (y : ZoneId) :
    (y ∉ l → zoneLine (l.foldl State.startTest s) y = zoneLine s y)
      ∧ (y ∈ l → zoneLine (l.foldl State.startTest s) y = startedView s y) :=
  foldl_view (P := fun v => v = startedView s y) testing_startTest (fun t _ hy => zoneLine_startTest_of_ne t hy)
    (fun t _ hview => (zoneLine_startTest_self t y).trans (startedView_congr hview)) hnodup

theorem scan_startGroup (l : List ZoneId) (s : State) : (l.foldl State.startTest s).sup.scan = s.sup.scan :=
  List.foldlRecOn (motive := fun t : State => t.sup.scan = s.sup.scan) l _ rfl fun t ht z _ => by
    obtain ⟨-, hstart⟩ | ⟨-, -, hstart⟩ | ⟨-, -, hstart⟩ := startTest_cases t z
    · rw [hstart]
      exact ht
    · rw [hstart]
      exact (scan_skipZone t z).trans ht
    · rw [hstart]
      exact ht

/-- A zone that its group's begin skips for the tenth time. -/
def SkippedOut (s : State) (z : ZoneId) : Prop := s.testable z = false ∧ (s.zone z).present = true ∧ (lineOf s z).skips = 9

theorem skippedOut_congr {s t : State} {z : ZoneId} (h : zoneLine t z = zoneLine s z) : SkippedOut t z ↔ SkippedOut s z := by
  have hzone : t.zone z = s.zone z := congrArg Prod.fst h
  have hline : lineOf t z = lineOf s z := congrArg Prod.snd h
  unfold SkippedOut
  rw [testable_iff_of_zone hzone, hzone, hline]

theorem raised_startGroup {s : State} {l : List ZoneId} (hnodup : l.Nodup) {z : ZoneId} (hz : z ∈ l) (hout : SkippedOut s z)
    (hothers : ∀ y ∈ l, y ≠ z → ¬SkippedOut s y) : s.Raised (l.foldl State.startTest s) .lineUntested (some z.val) := by
  refine (foldl_raised testing_startTest (R := SkippedOut) (fun t z hnot => ?_) (fun t z hR => ?_) (fun t z y hy => ?_) s hnodup).2 z hz hout hothers
  · obtain ⟨-, hstart⟩ | ⟨htest, hpresent, hstart⟩ | ⟨-, -, hstart⟩ := startTest_cases t z
    · rw [hstart]
      exact ⟨rfl, rfl⟩
    · rw [hstart]
      exact quiet_skipZone fun h => hnot ⟨htest, hpresent, h⟩
    · rw [hstart]
      exact ⟨rfl, rfl⟩
  · rw [startTest_of_skipped hR.1 hR.2.1]
    exact raised_skipZone hR.2.2
  · exact skippedOut_congr (zoneLine_startTest_of_ne t hy)

/-- The first group of a list that has a zone to test begins (R164). -/
theorem beginGroups_of_testable {s : State} {g : Nat} {rest : List Nat} (h : ∃ z ∈ s.cfg.groupZones g, s.testable z = true) :
    beginGroups (g :: rest) s = ((s.cfg.groupZones g).foldl State.startTest s).setScan fun x =>
      { x with group := some g, stage := some .settle, stageAt := some (s.now + 50) } := by
  have hany : (s.cfg.groupZones g).any s.testable = true := List.any_eq_true.mpr h
  unfold beginGroups
  dsimp only
  rw [if_pos hany, (Testing.foldl testing_startTest (s.cfg.groupZones g) s).now]

theorem settleGates_quiet (s : State) : Quiet s s.settleGates ∧ s.settleGates.zones = s.zones ∧ s.settleGates.sup = s.sup := by
  have h := settleGates_eq s
  generalize s.settleGates = t at h
  rw [h]
  exact ⟨⟨rfl, rfl⟩, rfl, rfl⟩

theorem range_groups {c : NodeConfig} (h : c.groupSize ∈ [1, 2, 4, 8]) : ∃ rest, List.range c.groupCount = 0 :: rest := by
  have hpos : 0 < c.groupCount := by
    unfold NodeConfig.groupCount
    simp only [List.mem_cons, List.not_mem_nil, or_false] at h
    obtain h | h | h | h := h <;> rw [h] <;> decide
  exact ⟨(List.range (c.groupCount - 1)).map Nat.succ, by
    rw [← List.range_succ_eq_map]
    exact congrArg List.range (by omega)⟩

/-- The state at the round deadline: the next is due a round period on (R164). -/
def roundDue (s : State) (d : Nat) : State :=
  (s.advanceTo d).setScan fun x => { x with roundAt := some ((s.advanceTo d).now + s.cfg.roundPeriod * 60000) }

theorem exec_roundDeadline {s : State} {d : Nat} (hawake : s.Awake) (hround : s.sup.scan.roundAt = some d) :
    exec .roundDeadlineExpiry s = .next (if s.evac.active then (roundDue s d).skipZones allZones
      else (beginGroups (List.range s.cfg.groupCount) ((roundDue s d).setScan fun x => { x with inRound := true })).settleGates) := by
  have hover : s.roundOver = if s.evac.active then (roundDue s d).skipZones allZones
      else (beginGroups (List.range s.cfg.groupCount) ((roundDue s d).setScan fun x => { x with inRound := true })).settleGates := by
    simp only [State.roundOver, hround]
    rfl
  rw [← hover]
  exact exec_awake hawake rfl

/-- Settles O56: in evacuation a fold of skips over the present zones, else the begin of the first group with a zone to test. -/
theorem roundBegins : Obligations.RoundBegins := by
  intro s d hawake hround hsize
  have hexec := exec_roundDeadline hawake hround
  cases hactive : s.evac.active with
  | true =>
    rw [hactive, if_pos rfl] at hexec
    have hskips : (roundDue s d).skipZones allZones = (allZones.filter fun z => (s.zone z).present).foldl State.skipZone (roundDue s d) := rfl
    have hnodup : (allZones.filter fun z => (s.zone z).present).Nodup := List.Nodup.filter _ (by decide)
    have hmem (z : ZoneId) : z ∈ (allZones.filter fun z => (s.zone z).present) ↔ (s.zone z).present = true := by
      rw [List.mem_filter]
      exact and_iff_right (mem_allZones z)
    have htesting : Testing (roundDue s d) ((roundDue s d).skipZones allZones) := Testing.foldl testing_skipZone _ _
    have hview (z : ZoneId) := foldl_view (V := lineOf) (P := fun l => l = skippedLine (lineOf (roundDue s d) z)) testing_skipZone
      (fun t y hy => lineOf_skipZone_of_ne t hy) (fun t _ h => (lineOf_skipZone_self t z).trans (congrArg skippedLine h)) hnodup (s := roundDue s d)
    have hraised := foldl_raised testing_skipZone (R := fun t z => (lineOf t z).skips = 9) (fun t z h => quiet_skipZone h)
      (fun t z h => raised_skipZone h) (fun t z y hy => by rw [lineOf_skipZone_of_ne t hy]) (roundDue s d) hnodup
    have hzones : ((roundDue s d).skipZones allZones).zones = s.zones :=
      List.foldlRecOn (motive := fun t : State => t.zones = s.zones) _ _ rfl fun t ht z _ => (zones_skipZone t z).trans ht
    have hscan : ((roundDue s d).skipZones allZones).sup.scan = (roundDue s d).sup.scan :=
      List.foldlRecOn (motive := fun t : State => t.sup.scan = (roundDue s d).sup.scan) _ _ rfl fun t ht z _ => (scan_skipZone t z).trans ht
    rw [← hskips] at hview hraised
    generalize (roundDue s d).skipZones allZones = t at hexec htesting hview hraised hzones hscan
    refine ⟨t, hexec, htesting.now, ?_, fun _ => ⟨hzones, ?_, fun z => ?_⟩, fun _ => ⟨fun hnone => ?_, fun z hpresent hten hothers => ?_⟩,
      (nomatch ·), (nomatch ·), htesting.calls, htesting.queue, htesting.chans, htesting.claims, htesting.evac⟩
    · rw [htesting.now]
      exact htesting.roundAt
    · rw [hscan]
      rfl
    · split
      next hpresent => exact congrArg Line.skips ((hview z).2 ((hmem z).mpr hpresent))
      next hpresent => exact congrArg Line.skips ((hview z).1 ((hmem z).not.mpr hpresent))
    · have hquiet := hraised.1 fun z hz => hnone z ((hmem z).mp hz)
      exact ⟨hquiet.counters, fun i => by rw [hquiet.faults]; rfl⟩
    · exact raised_of_quiet (t := roundDue s d) ⟨rfl, rfl⟩ (hraised.2 z ((hmem z).mpr hpresent) hten fun y hy hyz => hothers y hyz ((hmem y).mp hy))
        ⟨rfl, rfl⟩ rfl rfl
  | false =>
    rw [hactive, if_neg Bool.false_ne_true] at hexec
    obtain ⟨u, hu⟩ : ∃ u, u = (roundDue s d).setScan fun x => { x with inRound := true } := ⟨_, rfl⟩
    obtain ⟨rest, hrest⟩ := range_groups hsize
    rw [hrest, ← hu] at hexec
    have htesting : Testing u (beginGroups (0 :: rest) u).settleGates := (testing_beginGroups _ u).trans (testing_settleGates _)
    have hnow : (beginGroups (0 :: rest) u).settleGates.now = u.now := htesting.now
    obtain ⟨hquiet, hzones, hsup⟩ := settleGates_quiet (beginGroups (0 :: rest) u)
    have htestable (z : ZoneId) : u.testable z = s.testable z := testable_iff_of_zone (by rw [hu]; rfl)
    have hview (z : ZoneId) : zoneLine u z = zoneLine s z := by rw [hu]; rfl
    have hcfg : u.cfg = s.cfg := by rw [hu]; rfl
    have hbegin (h : ∃ z ∈ s.cfg.groupZones 0, s.testable z = true) := beginGroups_of_testable (s := u) (g := 0) (rest := rest)
      (by rw [hcfg]; simpa only [htestable] using h)
    have hgroup : (u.cfg.groupZones 0).Nodup := groupZones_nodup _ _
    have hzone (z : ZoneId) (h : ∃ z ∈ s.cfg.groupZones 0, s.testable z = true) (hz : z ∈ s.cfg.groupZones 0) :
        zoneLine (beginGroups (0 :: rest) u).settleGates z = startedView s z := by
      have hstarted := (zoneLine_startGroup (s := u) hgroup z).2 (by rw [hcfg]; exact hz)
      rw [startedView_congr (hview z)] at hstarted
      refine Eq.trans ?_ hstarted
      rw [zoneLine, zone_of_zones hzones, lineOf_of_sup hsup, hbegin h]
      rfl
    have hscan (h : ∃ z ∈ s.cfg.groupZones 0, s.testable z = true) :
        (beginGroups (0 :: rest) u).settleGates.sup.scan
          = { u.sup.scan with group := some 0, stage := some .settle, stageAt := some (u.now + 50) } := by
      rw [hsup, hbegin h]
      exact congrArg (fun x : Scan => { x with group := some 0, stage := some .settle, stageAt := some (u.now + 50) }) (scan_startGroup _ u)
    have hraised (z : ZoneId) (h : ∃ z ∈ s.cfg.groupZones 0, s.testable z = true) (hz : z ∈ s.cfg.groupZones 0) (hout : SkippedOut s z)
        (hothers : ∀ y ∈ s.cfg.groupZones 0, y ≠ z → ¬SkippedOut s y) :
        s.Raised (beginGroups (0 :: rest) u).settleGates .lineUntested (some z.val) := by
      have hstarted := raised_startGroup (s := u) hgroup (by rw [hcfg]; exact hz) ((skippedOut_congr (hview z)).mpr hout) fun y hy hyz =>
        (skippedOut_congr (hview y)).not.mpr (hothers y (by rw [hcfg] at hy; exact hy) hyz)
      refine raised_of_quiet ⟨by rw [hu]; rfl, by rw [hu]; rfl⟩ hstarted (.trans ?_ hquiet) ?_ ?_
      · rw [hbegin h]
        exact ⟨rfl, rfl⟩
      · rw [(testing_settleGates _).stampNow, hbegin h]
        rfl
      · rw [(testing_settleGates _).now, hbegin h]
        rfl
    generalize (beginGroups (0 :: rest) u).settleGates = t at hexec htesting hnow hzone hscan hraised
    refine ⟨t, hexec, ?_, ?_, (nomatch ·), (nomatch ·), fun _ hsome z hz hpresent htest hten hothers => ?_, fun _ hsome => ⟨?_, fun z hz => ?_⟩,
      ?_, ?_, ?_, ?_, ?_⟩
    · rw [hnow, hu]
      rfl
    · rw [hnow, htesting.roundAt, hu]
      rfl
    · exact hraised z hsome hz ⟨htest, hpresent, hten⟩ fun y hy hyz h => hothers y hy hyz h.2.2
    · rw [hscan hsome, hnow, hu]
      rfl
    · have hz' := hzone z hsome hz
      refine ⟨congrArg Prod.fst hz', (congrArg (fun v : Zone × Line => v.2.skips) hz').trans ?_⟩
      rw [startedView]
      dsimp only
      split
      · rfl
      · split <;> rfl
    · rw [htesting.calls, hu]; rfl
    · rw [htesting.queue, hu]; rfl
    · rw [htesting.chans, hu]; rfl
    · rw [htesting.claims, hu]; rfl
    · rw [htesting.evac, hu]; rfl


end Sys2Proof.Proofs.TestRules
end

section
/-! The stages of a group under test: settle, gate and spacing, the line status and its faults (R164 to R166, R169). -/

namespace Sys2Proof.Proofs.GroupRules

open Sys2Proof.Machine
open Sys2Proof.Proofs.LiveClose Sys2Proof.Proofs.Faults Sys2Proof.Proofs.Upkeep Sys2Proof.Proofs.Uphold Sys2Proof.Proofs.CallRules
open Sys2Proof.Proofs.Commands Sys2Proof.Proofs.Steps Sys2Proof.Proofs.Reports Sys2Proof.Proofs.Starting Sys2Proof.Proofs.Transmit
open Sys2Proof.Proofs.LineRules Sys2Proof.Proofs.FaultRules Sys2Proof.Proofs.QueueRules Sys2Proof.Proofs.ClaimRules
open Sys2Proof.Proofs.ChannelRules Sys2Proof.Proofs.LeadRules Sys2Proof.Proofs.GateRules Sys2Proof.Proofs.TestRules

/-! ### What a walk does (R96, R100) -/

/-- A relation that every step of a walk keeps: a removal, the assembly of an entry's words, its launch on a FREE channel, and the walk's end. -/
structure WalkStep (R : State → State → Prop) : Prop where
  refl : ∀ s, R s s
  trans : ∀ {s t u}, R s t → R t u → R s u
  removes : ∀ s k r, R s (s.removeEntry k r)
  words : ∀ {s t : State} {e : Entry} {l : Option (List Nat)}, s.words e = (t, l) → R s t
  launches : ∀ (s : State) (e : Entry) (c : ChanId) (zs : ZoneSet) (words : List Nat), s.chan c = none → R s (s.launch e c zs words)
  ends : ∀ s : State, R s ({ s with queue := { s.queue with walkedAt := s.now } } : State).arbitrate.settleGates

namespace WalkStep

variable {R : State → State → Prop} (h : WalkStep R)
include h

theorem dispatches {s : State} {e : Entry} {c : ChanId} {zs : ZoneSet} (hgo : s.verdict e = .go c zs) : R s (s.dispatch e c zs) := by
  obtain ⟨hfree, -, -⟩ := of_verdict_go hgo
  unfold State.dispatch
  split
  next hw => exact h.trans (h.words hw) (h.removes _ _ _)
  next hw =>
    have hkey := (calm_words hw).key c
    rw [hfree, Option.map_none, Option.map_eq_none_iff] at hkey
    exact h.trans (h.words hw) (h.launches _ e c zs _ hkey)

theorem passes (l : List Entry) (s : State) : R s (State.pass l s).1 := by
  induction l generalizing s with
  | nil => exact h.refl s
  | cons e rest ih =>
    unfold State.pass
    split
    · exact ih s
    · exact h.trans (h.removes s _ _) (ih _)
    next hgo => exact h.dispatches hgo

theorem walksN (n : Nat) (s : State) : R s (State.walkN n s) := by
  induction n generalizing s with
  | zero => exact h.refl s
  | succ n ih =>
    have hpass := h.passes s.queue.entries s
    unfold State.walkN
    split
    next heq =>
      rw [heq] at hpass
      exact h.trans hpass (ih _)
    next heq =>
      rw [heq] at hpass
      exact hpass

theorem walk (s : State) : R s s.walk := h.trans (h.walksN _ s) (h.ends _)

end WalkStep

/-- Every zone that is OFF in `t` is OFF in `s`. -/
def OffBefore (s t : State) : Prop := ∀ z : ZoneId, (t.zone z).state = .off → (s.zone z).state = .off

theorem OffBefore.trans {s t u : State} (h : OffBefore s t) (k : OffBefore t u) : OffBefore s u := fun z hz => h z (k z hz)

theorem offBefore_of_calm {s t : State} (h : Calm s t) : OffBefore s t := fun z hz => by rwa [(h.zone z).2] at hz

theorem offBefore_hold (s : State) (c : ChanId) (zs : ZoneSet) : OffBefore s (s.hold c zs) :=
  List.foldlRecOn (motive := fun t => OffBefore s t) zs _ (fun _ => id) fun t ht y _ => ht.trans fun z hz => by
    obtain rfl | hne := eq_or_ne y z
    · rw [zone_setZone_self] at hz
      cases hz
    · rwa [zone_setZone_of_ne _ _ _ _ hne] at hz

theorem offBefore_seated (s : State) (e : Entry) (c : ChanId) (zs : ZoneSet) (words : List Nat) : OffBefore s (seated s e c zs words) :=
  ((offBefore_of_calm (calm_cleared s e.cls zs)).trans (offBefore_hold _ c zs)).trans
    (OffBefore.trans (offBefore_of_calm (calm_groupEnded _)) fun _ => id)

/-- A walk switches no zone OFF. -/
theorem walkStep_offBefore : WalkStep OffBefore where
  refl _ _ := id
  trans := OffBefore.trans
  removes s k r := offBefore_of_calm (calm_removeEntry s k r)
  words hw := offBefore_of_calm (calm_words hw)
  launches s e c zs words _ := (offBefore_seated s e c zs words).trans (offBefore_of_calm (calm_after_seated s e c zs words))
  ends s := offBefore_of_calm (((calm_walkedAt s _).trans (calm_arbitrate _)).trans (calm_settleGates _))

/-! ### The settle (R165) -/

/-- A counter as it is lent to the line test (R142). -/
def lentLevel (l : Level) : Level := { l with count := 0, overflow := false, user := .line, gate := none }

theorem level_lendCounter_self (s : State) (z : ZoneId) : (s.lendCounter z).level z = lentLevel (s.level z) := Vector.getElem_set_self z.isLt

theorem level_lendCounter_of_ne (s : State) {z y : ZoneId} (h : y ≠ z) : (s.lendCounter z).level y = s.level y :=
  Vector.getElem_set_ne z.isLt y.isLt fun e => h (Fin.ext e.symm)

theorem lend_eq (l : List ZoneId) (s : State) : l.foldl State.lendCounter s = { s with levels := (l.foldl State.lendCounter s).levels } :=
  List.foldlRecOn (motive := fun t : State => t = { s with levels := t.levels }) l _ rfl fun t ht z _ =>
    congrArg (fun v : State => { v with levels := (t.lendCounter z).levels }) ht

/-- The zones of a group that are in TEST. -/
def tested (s : State) (g : Nat) : List ZoneId := (s.cfg.groupZones g).filter s.inTest

theorem mem_tested {s : State} {g : Nat} {z : ZoneId} : z ∈ tested s g ↔ z ∈ s.cfg.groupZones g ∧ s.inTest z = true := List.mem_filter

theorem tested_nodup (s : State) (g : Nat) : (tested s g).Nodup := List.Nodup.filter _ (groupZones_nodup _ _)

theorem exec_settleEnd {s : State} {g d : Nat} (hawake : s.Awake) (hstage : s.sup.scan.stage = some .settle) (hgroup : s.sup.scan.group = some g)
    (hat : s.sup.scan.stageAt = some d) :
    exec .settleEnd s = .next (((tested (s.advanceTo d) g).foldl State.lendCounter (s.advanceTo d)).setScan fun x =>
      { x with stage := some .gate, stageAt := some ((s.advanceTo d).now + 100) }) := by
  refine (exec_awake hawake rfl).trans ?_
  simp only [State.settleOver, hstage, hgroup, hat]
  rfl

theorem settle_of_group {s : State} {g d : Nat} (hawake : s.Awake) (hgroup : s.sup.scan.group = some g) (hat : s.sup.scan.stageAt = some d)
    (hstage : s.sup.scan.stage = some .settle) :
    ∃ t, exec .settleEnd s = .next t ∧ t.now = max s.now d % 2 ^ 40
      ∧ t.sup.scan = { s.sup.scan with stage := some .gate, stageAt := some (t.now + 100) }
      ∧ (∀ z : ZoneId, t.level z = if z ∈ s.cfg.groupZones g ∧ s.inTest z = true then lentLevel (s.level z) else s.level z)
      ∧ t = { s with clock := { s.clock with now := t.now }, sup := { s.sup with scan := t.sup.scan }, levels := t.levels } := by
  have hexec := exec_settleEnd hawake hstage hgroup hat
  have hview (z : ZoneId) := foldl_view (f := State.lendCounter) (V := State.level) (s := s.advanceTo d)
    (P := fun l => l = lentLevel (s.level z)) (y := z) (fun t y => rfl) (fun t y h => level_lendCounter_of_ne t h)
    (fun t _ h => (level_lendCounter_self t z).trans (congrArg lentLevel h)) (tested_nodup (s.advanceTo d) g)
  have heq := lend_eq (tested (s.advanceTo d) g) (s.advanceTo d)
  generalize (tested (s.advanceTo d) g).foldl State.lendCounter (s.advanceTo d) = u at hexec hview heq
  refine ⟨_, hexec, ?_, ?_, fun z => ?_, ?_⟩
  · rw [heq]
    rfl
  · rw [heq]
    rfl
  · split
    next h => exact (hview z).2 (mem_tested.mpr h)
    next h => exact (hview z).1 (mem_tested.not.mpr h)
  · rw [heq]
    rfl

/-! ### One zone's test completes (R165, R166, R169) -/

/-- The runs of a zone after its test (R166). -/
def testRuns (s : State) (z : ZoneId) : Line :=
  (lineOf s z).moveRuns (lineResult (s.cfg.zones[z]).lo (s.cfg.zones[z]).hi (s.level z).count (s.level z).overflow)

/-- A zone's line as its test completes. -/
def completedLine (s : State) (z : ZoneId) : Line := { testRuns s z with skips := 0 }

/-- A zone's items as its test completes. -/
def completedZone (s : State) (z : ZoneId) : Zone :=
  { s.zone z with lineStatus := testStatus s z, lastAudible := some s.now, state := if testStatus s z = .short then .off else .idle }

/-- A completed test but for its fault conditions and the zone's leaving TEST. -/
def judgedTest (s : State) (z : ZoneId) : State :=
  ((s.returnCounter z).setLine z fun _ => completedLine s z).setZone z fun x => { x with lineStatus := testStatus s z }

theorem testJudged_eq (s : State) (z : ZoneId) :
    testJudged s z = ((judgedTest s z).lineCondition z (s.zone z).lineStatus (testStatus s z)).clear .lineUntested (some z.val) := rfl

theorem lineCondition_eq (s : State) (z : ZoneId) {old new : LineStatus} (h : old ≠ new) :
    s.lineCondition z old new = clearOf (raiseOf s new.condition z.val) old.condition z.val := by
  unfold State.lineCondition
  rw [if_neg h]
  rfl

theorem lineCondition_same (s : State) (z : ZoneId) (st : LineStatus) : s.lineCondition z st st = s := if_pos rfl

theorem sends_lineCondition (s : State) (z : ZoneId) (old new : LineStatus) : Sends s (s.lineCondition z old new) := by
  by_cases h : old = new
  · rw [h, lineCondition_same]
    exact Sends.refl s
  · rw [lineCondition_eq s z h]
    exact (sends_raiseOf s _ _).trans (sends_clearOf _ _ _)

theorem sends_testJudged (s : State) (z : ZoneId) : Sends (judgedTest s z) (testJudged s z) :=
  (sends_lineCondition _ z _ _).trans (sends_clear _ _ _)

theorem testing_setZone (s : State) (z : ZoneId) (f : Zone → Zone) : Testing s (s.setZone z f) := rfl

theorem testing_setLevel (s : State) (z : ZoneId) (f : Level → Level) : Testing s (s.setLevel z f) := rfl

theorem testing_setLine (s : State) (z : ZoneId) (f : Line → Line) : Testing s (s.setLine z f) := rfl

theorem testing_fallSilent (s : State) (z : ZoneId) : Testing s (s.fallSilent z) :=
  (testing_setZone s z fun x => { x with lastAudible := some s.now }).trans (testing_setLevel _ z _)

theorem testing_judgedTest (s : State) (z : ZoneId) : Testing s (judgedTest s z) :=
  ((testing_setLevel s z _).trans (testing_setLine _ z _)).trans (testing_setZone _ z _)

/-- A zone leaves TEST for a state and falls silent. -/
def leaveTest (s : State) (z : ZoneId) (st : ZoneState) : State := (s.setZone z fun x => { x with state := st }).fallSilent z

theorem completeTest_leaves (s : State) (z : ZoneId) :
    s.completeTest z = leaveTest (testJudged s z) z (if testStatus s z = .short then .off else .idle) := completeTest_eq s z

theorem testing_leaveTest (s : State) (z : ZoneId) (st : ZoneState) : Testing s (leaveTest s z st) :=
  (testing_setZone s z _).trans (testing_fallSilent _ z)

theorem testing_completeTest (s : State) (z : ZoneId) : Testing s (s.completeTest z) := by
  rw [completeTest_leaves]
  exact ((testing_judgedTest s z).trans (testing_of_sends (sends_testJudged s z))).trans (testing_leaveTest _ z _)

theorem keeps_completeTest (s : State) (z : ZoneId) : Keeps s (s.completeTest z) := by
  rw [completeTest_eq]
  exact ((calm_testJudged s z).keeps.trans (keeps_setZone _ _ _)).trans (keeps_fallSilent _ _)

theorem sup_leaveTest (s : State) (z : ZoneId) (st : ZoneState) : (leaveTest s z st).sup = s.sup := rfl

theorem sup_completeTest (s : State) (z : ZoneId) : (s.completeTest z).sup = (judgedTest s z).sup := by
  rw [completeTest_leaves, sup_leaveTest, (sends_testJudged s z).sup]

theorem scan_judgedTest (s : State) (z : ZoneId) : (judgedTest s z).sup.scan = s.sup.scan := rfl

theorem scan_completeTest (s : State) (z : ZoneId) : (s.completeTest z).sup.scan = s.sup.scan := by
  rw [sup_completeTest, scan_judgedTest]

theorem zone_leaveTest_self (s : State) (z : ZoneId) (st : ZoneState) :
    (leaveTest s z st).zone z = { s.zone z with state := st, lastAudible := some s.now } :=
  (zone_setZone_self (s.setZone z fun x => { x with state := st }) z fun x => { x with lastAudible := some s.now }).trans
    (congrArg (fun x : Zone => { x with lastAudible := some s.now }) (zone_setZone_self s z fun x => { x with state := st }))

theorem zone_leaveTest_of_ne (s : State) {z y : ZoneId} (st : ZoneState) (h : z ≠ y) : (leaveTest s z st).zone y = s.zone y :=
  (zone_setZone_of_ne (s.setZone z fun x => { x with state := st }) z y (fun x => { x with lastAudible := some s.now }) h).trans
    (zone_setZone_of_ne s z y _ h)

theorem level_leaveTest_of_ne (s : State) {z y : ZoneId} (st : ZoneState) (h : z ≠ y) : (leaveTest s z st).level y = s.level y :=
  level_setLevel_of_ne _ z y _ h

theorem zone_judgedTest_self (s : State) (z : ZoneId) : (judgedTest s z).zone z = { s.zone z with lineStatus := testStatus s z } :=
  zone_setZone_self _ z _

theorem level_judgedTest_of_ne (s : State) {z y : ZoneId} (h : z ≠ y) : (judgedTest s z).level y = s.level y :=
  level_setLevel_of_ne s z y (fun l => { l with user := if l.user = .line then .free else l.user }) h

theorem lineOf_judgedTest_self (s : State) (z : ZoneId) : lineOf (judgedTest s z) z = completedLine s z :=
  lineOf_setLine_self (s.returnCounter z) z fun _ => completedLine s z

theorem lineOf_judgedTest_of_ne (s : State) {z y : ZoneId} (h : y ≠ z) : lineOf (judgedTest s z) y = lineOf s y :=
  lineOf_setLine_of_ne (s.returnCounter z) (fun _ => completedLine s z) h

theorem zone_completeTest_self (s : State) (z : ZoneId) : (s.completeTest z).zone z = completedZone s z := by
  have hsends := sends_testJudged s z
  rw [completeTest_leaves, zone_leaveTest_self, zone_of_zones hsends.zones z, zone_judgedTest_self, hsends.now]
  rfl

theorem lineOf_completeTest_self (s : State) (z : ZoneId) : lineOf (s.completeTest z) z = completedLine s z :=
  (lineOf_of_sup (sup_completeTest s z) z).trans (lineOf_judgedTest_self s z)

/-- What a test looks at and moves: a zone's items, its line, and its count. -/
def testView (s : State) (z : ZoneId) : (Zone × Line) × Level := (zoneLine s z, s.level z)

theorem testView_completeTest_of_ne (s : State) {z y : ZoneId} (h : y ≠ z) : testView (s.completeTest z) y = testView s y := by
  have hsends := sends_testJudged s z
  have hzone : (s.completeTest z).zone y = s.zone y := by
    rw [completeTest_leaves, zone_leaveTest_of_ne _ _ h.symm, zone_of_zones hsends.zones y]
    exact zone_setZone_of_ne _ z y _ h.symm
  have hline : lineOf (s.completeTest z) y = lineOf s y :=
    (lineOf_of_sup (sup_completeTest s z) y).trans (lineOf_judgedTest_of_ne s h)
  have hlevel : (s.completeTest z).level y = s.level y := by
    rw [completeTest_leaves, level_leaveTest_of_ne _ _ h.symm, State.level, hsends.levels]
    exact level_judgedTest_of_ne s h.symm
  rw [testView, zoneLine, hzone, hline, hlevel]
  rfl

theorem completed_congr {s t : State} {z : ZoneId} (htest : Testing s t) (h : testView t z = testView s z) :
    completedZone t z = completedZone s z ∧ completedLine t z = completedLine s z ∧ testStatus t z = testStatus s z := by
  have hzone : t.zone z = s.zone z := congrArg (fun v => v.1.1) h
  have hline : lineOf t z = lineOf s z := congrArg (fun v => v.1.2) h
  have hlevel : t.level z = s.level z := congrArg Prod.snd h
  have hruns : testRuns t z = testRuns s z := by rw [testRuns, hline, hlevel, htest.cfg]; rfl
  have hstatus : testStatus t z = testStatus s z := by
    change nextStatus (t.zone z).lineStatus (testRuns t z) = nextStatus (s.zone z).lineStatus (testRuns s z)
    rw [hzone, hruns]
  refine ⟨?_, ?_, hstatus⟩
  · rw [completedZone, hstatus, hzone, htest.now]
    rfl
  · rw [completedLine, hruns]
    rfl

/-- The tests of distinct zones completed: each zone and its line as its own test leaves them, the others untouched. -/
theorem complete_tests (s : State) {l : List ZoneId} (hnodup : l.Nodup) (y : ZoneId) :
    (y ∉ l → testView (l.foldl State.completeTest s) y = testView s y)
      ∧ (y ∈ l → zoneLine (l.foldl State.completeTest s) y = (completedZone s y, completedLine s y)) :=
  foldl_view (P := fun v => v.1 = (completedZone s y, completedLine s y)) testing_completeTest (fun t _ hy => testView_completeTest_of_ne t hy)
    (fun t htest hview => by
      obtain ⟨hzone, hline, -⟩ := completed_congr htest hview
      rw [← hzone, ← hline, ← zone_completeTest_self, ← lineOf_completeTest_self]
      rfl) hnodup

theorem scan_complete_tests (s : State) (l : List ZoneId) : (l.foldl State.completeTest s).sup.scan = s.sup.scan :=
  List.foldlRecOn (motive := fun t : State => t.sup.scan = s.sup.scan) l _ rfl fun t ht z _ => (scan_completeTest t z).trans ht


/-! ### The line status and its runs (R166) -/

theorem lineResult_pass {lo hi n : Nat} {overflow : Bool} (hover : overflow = false) (hlo : lo ≤ n) (hhi : n ≤ hi) :
    lineResult lo hi n overflow = .pass := by
  have h : ¬(overflow = true ∨ hi < n) := not_or.mpr ⟨by rw [hover]; exact Bool.false_ne_true, by omega⟩
  rw [lineResult, if_neg h, if_neg (by omega)]

theorem lineResult_open {lo hi n : Nat} {overflow : Bool} (h : overflow = true ∨ hi < n) : lineResult lo hi n overflow = .failOpen := if_pos h

theorem lineResult_short {lo hi n : Nat} {overflow : Bool} (hover : overflow = false) (hlo : n < lo) (hhi : n ≤ hi) :
    lineResult lo hi n overflow = .failShort := by
  have h : ¬(overflow = true ∨ hi < n) := not_or.mpr ⟨by rw [hover]; exact Bool.false_ne_true, by omega⟩
  rw [lineResult, if_neg h, if_pos hlo]

/-- The result of a failed test of a kind. -/
def FailKind.asResult : FailKind → LineResult
  | .short => .failShort
  | .openLine => .failOpen

theorem moveRuns_fail (l : Line) (k : FailKind) :
    l.moveRuns (FailKind.asResult k) = { l with failRun := some (nextFailRun l.failRun k), passRun := 0 } := by
  cases k <;> rfl

theorem nextFailRun_kind (r : Option FailRun) (k : FailKind) : (nextFailRun r k).kind = k := by
  unfold nextFailRun
  split
  · split <;> rfl
  · rfl

theorem nextStatus_pass_of_confirmed {st : LineStatus} {l : Line} (h : st ∈ [.short, .openLine]) (hrun : l.failRun = none) :
    nextStatus st l = if l.passRun = 3 then .good else st := by
  unfold nextStatus
  rw [hrun]
  cases st <;> simp at h ⊢

theorem nextStatus_pass_of_other {st : LineStatus} {l : Line} (h : st ∉ [.short, .openLine]) (hrun : l.failRun = none) : nextStatus st l = .good := by
  unfold nextStatus
  rw [hrun]
  cases st <;> simp at h ⊢

theorem nextStatus_fail {st : LineStatus} {l : Line} {f : FailRun} (hrun : l.failRun = some f) :
    (f.count = 2 → nextStatus st l = f.kind.confirmed)
      ∧ (f.count = 1 → nextStatus st l = if st ∈ [.short, .openLine] then st else f.kind.suspect) := by
  unfold nextStatus
  rw [hrun]
  cases st <;> exact ⟨fun h => if_pos h, fun h => if_neg (by rw [h]; decide)⟩

theorem confirmed_eq (k : FailKind) : k.confirmed = if k = .short then .short else .openLine := by cases k <;> rfl

theorem suspect_eq (k : FailKind) : k.suspect = if k = .short then .suspectShort else .suspectOpen := by cases k <;> rfl

theorem test_passed {s : State} {z : ZoneId} (hover : (s.level z).overflow = false) (hlo : (s.cfg.zones[z]).lo ≤ (s.level z).count)
    (hhi : (s.level z).count ≤ (s.cfg.zones[z]).hi) :
    (completedLine s z).failRun = none ∧ (completedLine s z).passRun = min ((lineOf s z).passRun + 1) 3
      ∧ ((s.zone z).lineStatus ∈ [.short, .openLine] →
        testStatus s z = if (completedLine s z).passRun = 3 then .good else (s.zone z).lineStatus)
      ∧ ((s.zone z).lineStatus ∉ [.short, .openLine] → testStatus s z = .good) := by
  have hruns : testRuns s z = { lineOf s z with failRun := none, passRun := min ((lineOf s z).passRun + 1) 3 } := by
    rw [testRuns, lineResult_pass hover hlo hhi]
    rfl
  have hrun : (testRuns s z).failRun = none := by rw [hruns]
  exact ⟨hrun, congrArg Line.passRun hruns, fun h => nextStatus_pass_of_confirmed h hrun, fun h => nextStatus_pass_of_other h hrun⟩

theorem test_failed {s : State} {z : ZoneId} {k : FailKind}
    (h : lineResult (s.cfg.zones[z]).lo (s.cfg.zones[z]).hi (s.level z).count (s.level z).overflow = FailKind.asResult k) :
    (completedLine s z).passRun = 0 ∧ (completedLine s z).failRun = some (nextFailRun (lineOf s z).failRun k)
      ∧ ((nextFailRun (lineOf s z).failRun k).count = 2 → testStatus s z = if k = .short then .short else .openLine)
      ∧ ((nextFailRun (lineOf s z).failRun k).count = 1 → testStatus s z =
        if (s.zone z).lineStatus ∈ [.short, .openLine] then (s.zone z).lineStatus
        else if k = .short then .suspectShort else .suspectOpen) := by
  have hruns : testRuns s z = { lineOf s z with failRun := some (nextFailRun (lineOf s z).failRun k), passRun := 0 } := by
    rw [testRuns, h, moveRuns_fail]
  have hrun : (testRuns s z).failRun = some (nextFailRun (lineOf s z).failRun k) := by rw [hruns]
  obtain ⟨htwo, hone⟩ := nextStatus_fail (st := (s.zone z).lineStatus) hrun
  rw [nextFailRun_kind, confirmed_eq] at htwo
  rw [nextFailRun_kind, suspect_eq] at hone
  exact ⟨congrArg Line.passRun hruns, hrun, htwo, hone⟩

/-! ### The faults of a completed test (R166, R169) -/

theorem raised_kept {s t u : State} {k : FaultKind} {subject : Option Nat} (h : s.Raised u k subject) (hroom : s.faults.HasRoom)
    (g : KeepsKey k subject u t) (hstamp : t.stampNow = u.stampNow) (hnow : t.now = u.now) : s.Raised t k subject := by
  obtain ⟨hheld, hnew⟩ := h
  rw [State.Raised, hstamp, hnow]
  refine ⟨fun i r hfind hr => ?_, fun hnone => ?_⟩
  · have hkey := hasKey_of_find hfind hr
    refine (g i _ ?_).mpr (hheld i r hfind hr)
    exact hkey
  · obtain ⟨i, hi⟩ | ⟨hfull, -⟩ := hnew hnone
    · exact .inl ⟨i, (g i _ ((hasKey_iff _ _ _ _).mpr ⟨rfl, rfl, rfl⟩)).mpr hi⟩
    · obtain ⟨j, hj⟩ := hroom
      have hsome := (hfull j).1
      rw [hj] at hsome
      cases hsome

theorem cleared_kept {s t u : State} {k : FaultKind} {subject : Option Nat} (h : s.Cleared u k subject) (g : KeepsKey k subject u t)
    (hstamp : t.stampNow = u.stampNow) (hnow : t.now = u.now) : s.Cleared t k subject := by
  intro i r hfind hr
  have hkey := hasKey_of_find hfind hr
  have hclear := h i r hfind hr
  rw [hstamp, hnow]
  by_cases hstate : r.state = .clearedUnack
  · rw [if_pos hstate] at hclear ⊢
    exact (g i r hkey).mpr hclear
  · rw [if_neg hstate] at hclear ⊢
    refine (g i _ ?_).mpr hclear
    exact hkey

theorem record_before_clear {s : State} {k : FaultKind} {subject : Option Nat} {i : Fin 16} {r : FaultRecord}
    (h : ((s.clear k subject).faults.slots[i]).record = some r) (hkind : r.kind ≠ k) : (s.faults.slots[i]).record = some r := by
  rw [record_clear] at h
  split at h
  next hfind =>
    obtain ⟨q, hq, hqkind, -, -⟩ := record_of_find hfind
    rw [hq, Option.map_some] at h
    have hr : r.kind = q.kind := by
      rw [← Option.some.inj h]
      split <;> rfl
    exact absurd (hr.trans hqkind) hkind
  next => exact h

theorem condition_of_other {st : LineStatus} (h : st ∉ [.short, .openLine]) : st.condition = none := by
  cases st with
  | short => exact absurd (by decide) h
  | openLine => exact absurd (by decide) h
  | untested | good | suspectShort | suspectOpen => rfl

/-- What a completed test makes of the faults of its zone, between the state before and after it. -/
structure TestFaults (s t : State) (z : Nat) (old new : LineStatus) : Prop where
  untested : s.Cleared t .lineUntested (some z)
  raised : ∀ k, new.condition = some k → old ≠ new → s.Raised t k (some z)
  cleared : ∀ k, old.condition = some k → old ≠ new → s.Cleared t k (some z)
  kept : old = new ∨ old.condition = none ∧ new.condition = none → ∀ (i : Fin 16) (r : FaultRecord),
    (t.faults.slots[i]).record = some r → r.kind ≠ .lineUntested → (s.faults.slots[i]).record = some r

theorem raised_of_faults {s s' t t' : State} {k : FaultKind} {subject : Option Nat} (h : s.Raised t k subject) (hs : s'.faults = s.faults)
    (hsc : s'.counters = s.counters) (ht : t'.faults = t.faults) (htc : t'.counters = t.counters) (hstamp : t'.stampNow = t.stampNow)
    (hnow : t'.now = t.now) : s'.Raised t' k subject :=
  raised_congr h (fun _ => by rw [hs]) (fun _ => by rw [ht]) (by rw [hsc]) (by rw [htc]) hstamp hnow

theorem TestFaults.congr {s t s' t' : State} {z : Nat} {old new : LineStatus} (h : TestFaults s t z old new) (hs : s'.faults = s.faults)
    (hsc : s'.counters = s.counters) (ht : t'.faults = t.faults) (htc : t'.counters = t.counters) (hstamp : t'.stampNow = t.stampNow)
    (hnow : t'.now = t.now) : TestFaults s' t' z old new where
  untested := cleared_congr h.untested (fun _ => by rw [hs]) (fun _ => by rw [ht]) hstamp hnow
  raised k hk hne := raised_of_faults (h.raised k hk hne) hs hsc ht htc hstamp hnow
  cleared k hk hne := cleared_congr (h.cleared k hk hne) (fun _ => by rw [hs]) (fun _ => by rw [ht]) hstamp hnow
  kept hsame i r := by
    rw [ht, hs]
    exact h.kept hsame i r

theorem condition_ne_untested {st : LineStatus} {k : FaultKind} (h : st.condition = some k) : k ≠ .lineUntested := by
  rintro rfl
  cases st <;> cases h

/-- Two conditions of different line statuses are different. -/
theorem condition_injective {old new : LineStatus} {k : FaultKind} (h : new.condition = some k) (hne : old ≠ new) : old.condition ≠ some k := by
  intro hold
  cases old <;> cases hold <;> cases new <;> cases h <;> exact hne rfl

theorem hasRoom_of_sends {s t : State} (h : t.faults = s.faults) (hroom : s.faults.HasRoom) : t.faults.HasRoom := by rwa [h]

theorem keepsUntested_lineCondition {s : State} (hroom : s.faults.HasRoom) (z : ZoneId) (old new : LineStatus) :
    KeepsKey .lineUntested (some z.val) s (s.lineCondition z old new) := by
  by_cases h : old = new
  · rw [h, lineCondition_same]
    exact keepsKey_of_record fun _ => rfl
  · rw [lineCondition_eq s z h]
    have hraise : KeepsKey .lineUntested (some z.val) s (raiseOf s new.condition z.val) := by
      cases hnew : new.condition with
      | none => exact keepsKey_of_record fun _ => rfl
      | some k => exact keepsKey_raise (fun e => condition_ne_untested hnew e.1) hroom
    refine hraise.trans ?_
    cases hold : old.condition with
    | none => exact keepsKey_of_record fun _ => rfl
    | some k => exact keepsKey_clear fun e => condition_ne_untested hold e.1

/-- The conditions follow a change of the line status, and LINE_UNTESTED is cleared. -/
theorem testFaults_conditions {s : State} (hroom : s.faults.HasRoom) (z : ZoneId) (old new : LineStatus) :
    TestFaults s ((s.lineCondition z old new).clear .lineUntested (some z.val)) z.val old new := by
  have hkept (k : FaultKind) (hk : k ≠ .lineUntested) :
      KeepsKey k (some z.val) (s.lineCondition z old new) ((s.lineCondition z old new).clear .lineUntested (some z.val)) :=
    keepsKey_clear fun e => hk e.1.symm
  have hsends := sends_clear (s.lineCondition z old new) .lineUntested (some z.val)
  have hturned (hne : old ≠ new) : Turned s (s.lineCondition z old new) old.condition new.condition z.val := by
    rw [lineCondition_eq s z hne]
    exact turned_clearOf_raiseOf s _ _ _
  refine ⟨?_, fun k hk hne => ?_, fun k hk hne => ?_, fun hsame i r hr hkind => ?_⟩
  · exact cleared_between (keepsUntested_lineCondition hroom z old new) (keepsKey_of_record fun _ => rfl) hsends.stampNow hsends.now
  · exact raised_kept ((hturned hne).raised k hk (.inr ⟨hroom, condition_injective hk hne⟩)) hroom (hkept k (condition_ne_untested hk))
      hsends.stampNow hsends.now
  · exact cleared_kept ((hturned hne).cleared k hk (.inr ⟨hroom, condition_injective hk hne.symm⟩)) (hkept k (condition_ne_untested hk))
      hsends.stampNow hsends.now
  · have hbefore := record_before_clear hr hkind
    by_cases hne : old = new
    · rwa [hne, lineCondition_same] at hbefore
    · obtain h | ⟨hold, hnew⟩ := hsame
      · exact absurd h hne
      · rwa [(hturned hne).record hold hnew i] at hbefore

theorem testFaults_completeTest {s : State} (hroom : s.faults.HasRoom) (z : ZoneId) :
    TestFaults s (s.completeTest z) z.val (s.zone z).lineStatus (testStatus s z) := by
  have h := testFaults_conditions (s := judgedTest s z) hroom z (s.zone z).lineStatus (testStatus s z)
  rw [← testJudged_eq] at h
  rw [completeTest_leaves]
  generalize testJudged s z = v at h
  exact h.congr rfl rfl rfl rfl rfl rfl

/-! ### The gate's end (R164 to R166) -/

/-- The scan after the last test of a group: its spacing begins, or the round ends (R164). -/
def scanAfter (c : NodeConfig) (g now : Nat) (x : Scan) : Scan :=
  if c.groupsAfter g = [] then { x with inRound := false, group := none, stage := none, stageAt := none }
  else { x with stage := some .spacing, stageAt := some (now + 2000) }

theorem groupEnded_of_done {s : State} {g : Nat} (hgroup : s.sup.scan.group = some g) (hstage : s.sup.scan.stage = some .gate)
    (hdone : ∀ z ∈ s.cfg.groupZones g, s.inTest z = false) : s.groupEnded = s.setScan (scanAfter s.cfg g s.now) := by
  have hnone : ¬(s.cfg.groupZones g).any s.inTest = true := by
    rw [List.any_eq_true]
    rintro ⟨z, hz, htest⟩
    rw [hdone z hz] at htest
    cases htest
  unfold State.groupEnded
  rw [hgroup, hstage]
  dsimp only
  rw [if_neg hnone]
  unfold scanAfter
  by_cases hlast : s.cfg.groupsAfter g = []
  · rw [if_pos (List.isEmpty_iff.mpr hlast)]
    simp only [if_pos hlast]
    rfl
  · rw [if_neg (List.isEmpty_iff.not.mpr hlast)]
    simp only [if_neg hlast]

/-- The state in which the group of a line-test gate has ended. -/
def judgedGroup (s : State) (g d : Nat) : State := ((tested (s.advanceTo d) g).foldl State.completeTest (s.advanceTo d)).groupEnded

theorem exec_lineGateEnd {s : State} {g d : Nat} (hawake : s.Awake) (hgroup : s.sup.scan.group = some g) (hat : s.sup.scan.stageAt = some d)
    (hstage : s.sup.scan.stage = some .gate) :
    exec .lineGateEnd s = .next (if (tested (s.advanceTo d) g).any fun z => decide (((judgedGroup s g d).zone z).state = .idle)
      then (judgedGroup s g d).walk else (judgedGroup s g d).settleGates) := by
  refine (exec_awake hawake rfl).trans ?_
  simp only [State.lineGateOver, hstage, hgroup, hat]
  rfl

/-- The group of a line-test gate has ended: what each part of the state is. -/
structure GroupJudged (s : State) (g d : Nat) (u : State) : Prop where
  testing : Testing (s.advanceTo d) u
  keeps : Keeps (s.advanceTo d) u
  zones : ∀ z : ZoneId, z ∈ s.cfg.groupZones g → s.inTest z = true →
    zoneLine u z = (completedZone (s.advanceTo d) z, completedLine (s.advanceTo d) z)
  others : ∀ z : ZoneId, z ∉ s.cfg.groupZones g ∨ s.inTest z = false → zoneLine u z = zoneLine s z
  scan : u.sup.scan = scanAfter s.cfg g (s.advanceTo d).now s.sup.scan
  faults : ∀ z ∈ s.cfg.groupZones g, s.inTest z = true → s.faults.HasRoom → (∀ y ∈ s.cfg.groupZones g, s.inTest y = true → y = z) →
    TestFaults s u z.val (s.zone z).lineStatus (testStatus (s.advanceTo d) z)

theorem testing_scanAfter (s : State) (c : NodeConfig) (g now : Nat) : Testing s (s.setScan (scanAfter c g now)) := by
  have hround : (scanAfter c g now s.sup.scan).roundAt = s.sup.scan.roundAt := by
    unfold scanAfter
    split <;> rfl
  unfold Testing
  rw [← hround]
  rfl

theorem groupJudged {s : State} {g d : Nat} (hgroup : s.sup.scan.group = some g) (hstage : s.sup.scan.stage = some .gate) :
    GroupJudged s g d (judgedGroup s g d) := by
  obtain ⟨v, hv⟩ : ∃ v, v = (tested (s.advanceTo d) g).foldl State.completeTest (s.advanceTo d) := ⟨_, rfl⟩
  have htesting : Testing (s.advanceTo d) v := hv ▸ Testing.foldl testing_completeTest _ _
  have hkeeps : Keeps (s.advanceTo d) v := hv ▸ Keeps.foldl _ keeps_completeTest _ _
  have hscan : v.sup.scan = s.sup.scan := hv ▸ scan_complete_tests _ _
  have hview (z : ZoneId) := complete_tests (s.advanceTo d) (tested_nodup (s.advanceTo d) g) z
  rw [← hv] at hview
  have hzones (z : ZoneId) (hz : z ∈ s.cfg.groupZones g) (ht : s.inTest z = true) :
      zoneLine v z = (completedZone (s.advanceTo d) z, completedLine (s.advanceTo d) z) := (hview z).2 (mem_tested.mpr ⟨hz, ht⟩)
  have hothers (z : ZoneId) (h : z ∉ s.cfg.groupZones g ∨ s.inTest z = false) : zoneLine v z = zoneLine s z := by
    refine congrArg Prod.fst ((hview z).1 fun hmem => ?_)
    obtain ⟨hz, ht⟩ := mem_tested.mp hmem
    obtain hout | hfalse := h
    · exact hout hz
    · exact absurd (ht.symm.trans hfalse) (by decide)
  have hdone : ∀ z ∈ v.cfg.groupZones g, v.inTest z = false := by
    intro z hz
    rw [htesting.cfg] at hz
    cases ht : s.inTest z with
    | true =>
      have hzone : v.zone z = completedZone (s.advanceTo d) z := congrArg Prod.fst (hzones z hz ht)
      rw [State.inTest, hzone, completedZone]
      dsimp only
      split <;> rfl
    | false =>
      have hzone : v.zone z = s.zone z := congrArg Prod.fst (hothers z (.inr ht))
      rw [State.inTest, hzone]
      exact ht
  have hended := groupEnded_of_done (hscan.symm ▸ hgroup) (hscan.symm ▸ hstage) hdone
  have hfaults (z : ZoneId) (hz : z ∈ s.cfg.groupZones g) (ht : s.inTest z = true) (hroom : s.faults.HasRoom)
      (honly : ∀ y ∈ s.cfg.groupZones g, s.inTest y = true → y = z) :
      TestFaults s v z.val (s.zone z).lineStatus (testStatus (s.advanceTo d) z) := by
    have hone : tested (s.advanceTo d) g = [z] := by
      have hperm : (tested (s.advanceTo d) g).Perm [z] := (List.perm_ext_iff_of_nodup (tested_nodup _ g) (List.nodup_singleton z)).mpr fun y => by
        rw [mem_tested, List.mem_singleton]
        exact ⟨fun h => honly y h.1 h.2, fun h => h ▸ ⟨hz, ht⟩⟩
      exact List.perm_singleton.mp hperm
    rw [hv, hone]
    exact (testFaults_completeTest (s := s.advanceTo d) hroom z).congr rfl rfl rfl rfl rfl rfl
  have hu : judgedGroup s g d = v.setScan (scanAfter v.cfg g v.now) := by
    rw [judgedGroup, ← hv]
    exact hended
  have hset := testing_scanAfter v v.cfg g v.now
  have hsetScan : (v.setScan (scanAfter v.cfg g v.now)).sup.scan = scanAfter v.cfg g v.now v.sup.scan := rfl
  rw [hu]
  refine ⟨htesting.trans hset, hkeeps.trans ?_, hzones, hothers, ?_, fun z hz ht hroom honly => ?_⟩
  · rw [← hended]
    exact (calm_groupEnded v).keeps
  · rw [hsetScan, hscan, htesting.cfg, htesting.now]
    rfl
  · exact (hfaults z hz ht hroom honly).congr rfl rfl rfl rfl rfl rfl

/-! ### The statement -/

theorem spacing_of_group {s : State} {g d : Nat} (hawake : s.Awake) (hgroup : s.sup.scan.group = some g) (hat : s.sup.scan.stageAt = some d)
    (hstage : s.sup.scan.stage = some .spacing) :
    ∃ t, exec .spacingEnd s = .next t ∧ t.now = max s.now d % 2 ^ 40
      ∧ (∀ g' rest, s.cfg.groupsAfter g = g' :: rest → (∃ z ∈ s.cfg.groupZones g', s.testable z = true) →
        t.sup.scan = { s.sup.scan with group := some g', stage := some .settle, stageAt := some (t.now + 50) }
          ∧ ∀ z ∈ s.cfg.groupZones g', s.testable z = true → t.zone z = { s.zone z with state := .test })
      ∧ (s.cfg.groupsAfter g = [] → t.sup.scan.inRound = false ∧ t.sup.scan.group = none ∧ t.sup.scan.stage = none)
      ∧ t.calls = s.calls ∧ t.queue = s.queue ∧ t.chans = s.chans ∧ t.claims = s.claims ∧ t.evac = s.evac := by
  have hexec : exec .spacingEnd s = .next (beginGroups (s.cfg.groupsAfter g) (s.advanceTo d)).settleGates := by
    refine (exec_awake hawake rfl).trans ?_
    simp only [State.spacingOver, hstage, hgroup, hat]
    rfl
  obtain ⟨u, hu⟩ : ∃ u, u = beginGroups (s.cfg.groupsAfter g) (s.advanceTo d) := ⟨_, rfl⟩
  rw [← hu] at hexec
  have htesting : Testing (s.advanceTo d) u.settleGates := Testing.trans (hu ▸ testing_beginGroups _ _) (testing_settleGates u)
  have hnow : u.settleGates.now = (s.advanceTo d).now := htesting.now
  obtain ⟨-, hzones, hsup⟩ := settleGates_quiet u
  have hzone (z : ZoneId) : u.settleGates.zone z = u.zone z := zone_of_zones hzones z
  generalize u.settleGates = t at hexec htesting hnow hzone hsup
  refine ⟨t, hexec, hnow, fun g' rest hafter hsome => ?_, fun hlast => ?_, htesting.calls, htesting.queue, htesting.chans, htesting.claims,
    htesting.evac⟩
  · rw [hafter, beginGroups_of_testable (s := s.advanceTo d) hsome] at hu
    rw [hsup, hu, hnow]
    refine ⟨congrArg (fun x : Scan => { x with group := some g', stage := some .settle, stageAt := some ((s.advanceTo d).now + 50) })
      (scan_startGroup _ (s.advanceTo d)), fun z hz htest => ?_⟩
    have hstarted := congrArg Prod.fst ((zoneLine_startGroup (s := s.advanceTo d) (groupZones_nodup _ _) z).2 hz)
    rw [hzone, hu]
    refine hstarted.trans ?_
    exact if_pos htest
  · rw [hlast] at hu
    rw [hsup, hu]
    exact ⟨rfl, rfl, rfl⟩

theorem silent_of_off {s : State} {g d : Nat} (hawake : s.Awake) (hgroup : s.sup.scan.group = some g) (hat : s.sup.scan.stageAt = some d)
    (hstage : s.sup.scan.stage = some .gate) :
    ∃ t, exec .lineGateEnd s = .next t
      ∧ ((∀ z ∈ s.cfg.groupZones g, s.inTest z = true → (t.zone z).state = .off) → t.queue = s.queue ∧ t.chans = s.chans) := by
  have hexec := exec_lineGateEnd hawake hgroup hat hstage
  have hjudged := groupJudged (d := d) hgroup hstage
  generalize judgedGroup s g d = u at hexec hjudged
  refine ⟨_, hexec, fun hoff => ?_⟩
  split
  next hidle =>
    rw [if_pos hidle] at hoff
    obtain ⟨z, hz, hstate⟩ := List.any_eq_true.mp hidle
    obtain ⟨hmem, htest⟩ := mem_tested.mp hz
    have hbefore := walkStep_offBefore.walk u z (hoff z hmem htest)
    rw [of_decide_eq_true hstate] at hbefore
    cases hbefore
  next =>
    have hsettled := hjudged.testing.trans (testing_settleGates u)
    exact ⟨hsettled.queue, hsettled.chans⟩

theorem walk_or_settle_of_empty {u t : State} {p : Prop} [Decidable p] (h : u.queue.entries = [])
    (ht : (if p then u.walk else u.settleGates) = t) : t = { u with queue := t.queue, port := t.port, levels := t.levels } := by
  split at ht
  · have hwalk := walk_of_empty_eq h
    rw [ht] at hwalk
    rw [hwalk]
  · have hsettle := settleGates_eq u
    rw [ht] at hsettle
    rw [hsettle]

theorem gate_of_group {s : State} {g d : Nat} (hawake : s.Awake) (hgroup : s.sup.scan.group = some g) (hat : s.sup.scan.stageAt = some d)
    (hstage : s.sup.scan.stage = some .gate) (hempty : s.queue.entries = []) :
    ∃ u t, GroupJudged s g d u ∧ exec .lineGateEnd s = .next t ∧ Keeps (s.advanceTo d) t
      ∧ t = { u with queue := t.queue, port := t.port, levels := t.levels } := by
  have hexec := exec_lineGateEnd hawake hgroup hat hstage
  have hjudged := groupJudged (d := d) hgroup hstage
  generalize judgedGroup s g d = u at hexec hjudged
  have hentries : u.queue.entries = [] := (congrArg (·.entries) hjudged.testing.queue).trans hempty
  refine ⟨u, _, hjudged, hexec, hjudged.keeps.trans ?_, walk_or_settle_of_empty hentries rfl⟩
  split
  · exact keeps_walk u
  · exact keeps_settleGates u

theorem inTest_iff {s : State} {z : ZoneId} : s.inTest z = true ↔ (s.zone z).state = .test := decide_eq_true_iff

/-- What the statement says of one zone whose test completes. -/
theorem tested_zone {s t : State} {d : Nat} {z : ZoneId} (hzone : t.zone z = completedZone (s.advanceTo d) z)
    (hline : t.sup.lines[z] = completedLine (s.advanceTo d) z) (hnow : t.now = (s.advanceTo d).now) :
    ∃ st, t.zone z = { s.zone z with
        lineStatus := st, lastAudible := some t.now, state := if st = .short then .off else .idle }
      ∧ (t.sup.lines[z]).skips = 0
      ∧ ((s.level z).overflow = false → (s.cfg.zones[z]).lo ≤ (s.level z).count → (s.level z).count ≤ (s.cfg.zones[z]).hi →
        (t.sup.lines[z]).failRun = none ∧ (t.sup.lines[z]).passRun = min ((s.sup.lines[z]).passRun + 1) 3
          ∧ ((s.zone z).lineStatus ∈ [.short, .openLine] →
            st = if (t.sup.lines[z]).passRun = 3 then .good else (s.zone z).lineStatus)
          ∧ ((s.zone z).lineStatus ∉ [.short, .openLine] → st = .good))
      ∧ ∀ k : FailKind,
        (k = .openLine ∧ ((s.level z).overflow = true ∨ (s.cfg.zones[z]).hi < (s.level z).count)
          ∨ k = .short ∧ (s.level z).overflow = false ∧ (s.level z).count < (s.cfg.zones[z]).lo
            ∧ (s.level z).count ≤ (s.cfg.zones[z]).hi) →
        (t.sup.lines[z]).passRun = 0 ∧ ∃ f, (t.sup.lines[z]).failRun = some f ∧ f.kind = k
          ∧ f = nextFailRun (s.sup.lines[z]).failRun k
          ∧ (f.count = 2 → st = if k = .short then .short else .openLine)
          ∧ (f.count = 1 → st =
            if (s.zone z).lineStatus ∈ [.short, .openLine] then (s.zone z).lineStatus
            else if k = .short then .suspectShort else .suspectOpen) := by
  refine ⟨testStatus (s.advanceTo d) z, ?_, ?_, fun hover hlo hhi => ?_, fun k hk => ?_⟩
  · rw [hzone, hnow]
    rfl
  · rw [hline]
    rfl
  · rw [hline]
    exact test_passed hover hlo hhi
  · have hresult : lineResult (s.cfg.zones[z]).lo (s.cfg.zones[z]).hi (s.level z).count (s.level z).overflow = FailKind.asResult k := by
      obtain ⟨rfl, hopen⟩ | ⟨rfl, hover, hlo, hhi⟩ := hk
      · exact lineResult_open hopen
      · exact lineResult_short hover hlo hhi
    obtain ⟨hpass, hfail, htwo, hone⟩ := test_failed (s := s.advanceTo d) hresult
    rw [hline]
    exact ⟨hpass, _, hfail, nextFailRun_kind _ k, rfl, htwo, hone⟩

theorem count_nextFailRun (r : Option FailRun) (k : FailKind) :
    (nextFailRun r k).count = (match r with | some h => if h.kind = k then min (h.count + 1) 2 else 1 | none => 1) := by
  unfold nextFailRun
  cases r with
  | none => rfl
  | some f => dsimp only; split <;> rfl

/-- What the statement says of the faults of the one zone in TEST. -/
theorem tested_faults {s t : State} {z : ZoneId} {st : LineStatus} (h : TestFaults s t z.val (s.zone z).lineStatus st)
    (hst : (t.zone z).lineStatus = st) :
    s.Cleared t .lineUntested (some z.val)
      ∧ ((t.zone z).lineStatus = .short → (s.zone z).lineStatus ≠ .short → s.Raised t .lineShort (some z.val))
      ∧ ((t.zone z).lineStatus = .openLine → (s.zone z).lineStatus ≠ .openLine → s.Raised t .lineOpen (some z.val))
      ∧ ((s.zone z).lineStatus = .short → (t.zone z).lineStatus ≠ .short → s.Cleared t .lineShort (some z.val))
      ∧ ((s.zone z).lineStatus = .openLine → (t.zone z).lineStatus ≠ .openLine → s.Cleared t .lineOpen (some z.val))
      ∧ ((t.zone z).lineStatus = (s.zone z).lineStatus ∨ ((t.zone z).lineStatus ∉ [.short, .openLine]
          ∧ (s.zone z).lineStatus ∉ [.short, .openLine]) →
        ∀ (i : Fin 16) (r : FaultRecord), (t.faults.slots[i]).record = some r → r.kind ≠ .lineUntested →
          (s.faults.slots[i]).record = some r) := by
  rw [hst]
  refine ⟨h.untested, fun hnew hold => h.raised _ (by rw [hnew]; rfl) (by rwa [hnew]), fun hnew hold => h.raised _ (by rw [hnew]; rfl) (by rwa [hnew]),
    fun hold hnew => h.cleared _ (by rw [hold]; rfl) (by rw [hold]; exact hnew.symm),
    fun hold hnew => h.cleared _ (by rw [hold]; rfl) (by rw [hold]; exact hnew.symm), fun hsame => h.kept ?_⟩
  obtain hsame | ⟨hnew, hold⟩ := hsame
  · exact .inl hsame.symm
  · exact .inr ⟨condition_of_other hold, condition_of_other hnew⟩

/-- Settles O57: each stage by the lemma that says what its end makes of the zones in TEST; that no walk follows where every zone tested is
OFF holds because a walk switches no zone OFF. -/
theorem groupTested : Obligations.GroupTested := by
  intro s g d hawake hgroup hat
  refine ⟨settle_of_group hawake hgroup hat, fun hstage hempty => ?_, silent_of_off hawake hgroup hat, spacing_of_group hawake hgroup hat⟩
  obtain ⟨u, t, hjudged, hexec, hkeeps, ht⟩ := gate_of_group hawake hgroup hat hstage hempty
  have hnow : t.now = (s.advanceTo d).now := now_of_clock hkeeps.clock
  have hcalls : u.calls = s.calls := hjudged.testing.calls
  have hchans : u.chans = s.chans := hjudged.testing.chans
  have ht' : t.calls = u.calls ∧ t.chans = u.chans := by
    rw [ht]
    exact ⟨rfl, rfl⟩
  have hview (z : ZoneId) : zoneLine t z = zoneLine u z := by
    rw [ht]
    rfl
  have hzone (z : ZoneId) (hz : z ∈ s.cfg.groupZones g) (htest : s.inTest z = true) : t.zone z = completedZone (s.advanceTo d) z :=
    congrArg Prod.fst ((hview z).trans (hjudged.zones z hz htest))
  have hscan : t.sup.scan = scanAfter s.cfg g t.now s.sup.scan := by
    rw [hnow, ← hjudged.scan, ht]
  refine ⟨t, hexec, hnow, fun z hz htest => ?_, fun z hz => ?_, fun hmore => ?_, fun hlast => ?_, fun z hz htest hroom honly => ?_, ?_, ?_,
    undisturbed_of_expiry hkeeps⟩
  · have hline := congrArg Prod.snd ((hview z).trans (hjudged.zones z hz (inTest_iff.mpr htest)))
    obtain ⟨st, hst, hskips, hpass, hfail⟩ := tested_zone (hzone z hz (inTest_iff.mpr htest)) hline hnow
    refine ⟨st, hst, hskips, hpass, fun k hk => ?_⟩
    obtain ⟨hzero, f, hrun, hkind, hf, htwo, hone⟩ := hfail k hk
    exact ⟨hzero, f, hrun, hkind, by rw [hf]; exact count_nextFailRun _ k, htwo, hone⟩
  · have hsame := (hview z).trans (hjudged.others z hz)
    exact ⟨congrArg Prod.fst hsame, congrArg Prod.snd hsame⟩
  · rw [hscan, scanAfter, if_neg hmore]
    exact ⟨rfl, rfl⟩
  · rw [hscan, scanAfter, if_pos hlast]
    exact ⟨rfl, rfl⟩
  · have hfaults := hjudged.faults z hz (inTest_iff.mpr htest) hroom fun y hy hy' => honly y hy (inTest_iff.mp hy')
    refine tested_faults (st := testStatus (s.advanceTo d) z) (hfaults.congr rfl rfl ?_ ?_ ?_ ?_) (by rw [hzone z hz (inTest_iff.mpr htest)]; rfl)
    all_goals rw [ht]
    all_goals rfl
  · exact ht'.1.trans hcalls
  · exact ht'.2.trans hchans

end Sys2Proof.Proofs.GroupRules
end

section
/-! Entering and ending evacuation (R153 to R159). -/

namespace Sys2Proof.Proofs.EvacRules

open Sys2Proof.Machine
open Sys2Proof.Proofs.LiveClose Sys2Proof.Proofs.Faults Sys2Proof.Proofs.Upkeep Sys2Proof.Proofs.Uphold Sys2Proof.Proofs.CallRules
open Sys2Proof.Proofs.Commands Sys2Proof.Proofs.Steps Sys2Proof.Proofs.Reports Sys2Proof.Proofs.Starting Sys2Proof.Proofs.Transmit
open Sys2Proof.Proofs.LineRules Sys2Proof.Proofs.FaultRules Sys2Proof.Proofs.QueueRules Sys2Proof.Proofs.ClaimRules
open Sys2Proof.Proofs.ChannelRules Sys2Proof.Proofs.LeadRules Sys2Proof.Proofs.GateRules Sys2Proof.Proofs.TestRules
open Sys2Proof.Proofs.GroupRules

/-! ### The queue while evacuation is ACTIVE (R97, test 2) -/

/-- From `s` to `t` the queue, the port, the levels, the transmit queue, the faults and the counters may differ. -/
def Waits (s t : State) : Prop :=
  t = { s with
    queue := t.queue, port := t.port, levels := t.levels, link := { s.link with queue := t.link.queue, seqCounter := t.link.seqCounter },
    faults := t.faults, counters := t.counters }

theorem Waits.refl (s : State) : Waits s s := rfl

theorem Waits.trans {s t u : State} (h : Waits s t) (k : Waits t u) : Waits s u := by
  unfold Waits at h k ⊢
  rw [h] at k
  exact k

theorem Waits.active {s t : State} (h : Waits s t) (hactive : s.evac.active = true) : t.evac.active = true := by
  rw [h]
  exact hactive

theorem waits_of_sends {s t : State} (h : Sends s t) : Waits s t := by
  unfold Waits
  rw [h]

theorem waits_settleGates (s : State) : Waits s s.settleGates := by
  have h := settleGates_eq s
  generalize s.settleGates = t at h
  unfold Waits
  rw [h]

theorem waits_arbitrate (s : State) : Waits s s.arbitrate := by
  have h := arbitrate_eq s
  generalize s.arbitrate = t at h
  unfold Waits
  rw [h]

theorem waits_queue (s : State) (q : Queue) : Waits s { s with queue := q } := rfl

theorem waits_give (s : State) (k : Key) (r : Result) : Waits s (s.give k r) := by
  unfold State.give
  split
  · exact waits_of_sends (sends_count s _)
  · exact waits_of_sends ((sends_count s _).trans (tells_offer _ _).sends)

theorem waits_removeEntry (s : State) (k : Key) (r : Result) : Waits s (s.removeEntry k r) := (waits_queue s _).trans (waits_give _ k r)

theorem waits_insertNew (s : State) (e : Entry) : Waits s (s.insertNew e) := rfl

theorem waits_setCont (s : State) (c : ChanId) (k : Option Continuation) : Waits s (s.setCont c k) := rfl

section
variable {s : State} (hactive : s.evac.active = true)
include hactive

/-- A walk passes over every entry. -/
theorem waits_walk : Waits s s.walk := by
  have hwalk : State.walkN (s.queue.entries.length + 1) s = s := by
    unfold State.walkN
    rw [pass_of_active hactive]
  unfold State.walk
  rw [hwalk]
  exact ((waits_queue s _).trans (waits_arbitrate _)).trans (waits_settleGates _)

theorem waits_offerNew (e : Entry) : Waits s (s.offerNew e) := by
  have hinsert (t : State) (h : Waits s t) : Waits s (t.insertNew e).walk := by
    have hset := h.trans (waits_insertNew t e)
    exact hset.trans (waits_walk (hset.active hactive))
  unfold State.offerNew
  split
  · exact hinsert s (Waits.refl s)
  · split
    · split
      · exact hinsert _ (waits_removeEntry s _ _)
      · exact waits_give s _ _
    · exact waits_give s _ _

theorem waits_offerEntry (e : Entry) : Waits s (s.offerEntry e) := by
  have hset (q : Queue) : Waits s ({ s with queue := q } : State).walk :=
    (waits_queue s q).trans (waits_walk ((waits_queue s q).active hactive))
  unfold State.offerEntry
  split
  · exact hset _
  · split
    · exact waits_offerNew hactive e
    · split
      · exact hset _
      · exact Waits.refl s
      · exact Waits.refl s

theorem waits_offerRenewal (k : Continuation) : Waits s (s.offerRenewal k) := by
  unfold State.offerRenewal
  split
  · exact Waits.refl s
  · exact waits_offerEntry hactive _

theorem waits_offerNext (k : Continuation) : Waits s (s.offerNext k) := by
  unfold State.offerNext
  split
  · exact waits_offerRenewal hactive k
  · split
    · exact Waits.refl s
    · split
      · exact waits_offerEntry hactive _
      · exact Waits.refl s

theorem waits_requeue (k : Continuation) (o : Ending) : Waits s (s.requeue k o) := by
  unfold State.requeue
  split
  · exact waits_give s _ _
  · exact waits_offerEntry hactive _

theorem waits_settleEnd (k : Continuation) (o : Ending) : Waits s (s.settleEnd k o) := by
  have hgive (r : Result) : Waits s (s.give k.entry.key r) := waits_give s _ r
  have hrenew (r : Result) : Waits s ((s.give k.entry.key r).offerRenewal k) :=
    (hgive r).trans (waits_offerRenewal ((hgive r).active hactive) k)
  unfold State.settleEnd
  dsimp only
  split
  · exact (hgive _).trans (waits_offerNext ((hgive _).active hactive) k)
  · exact waits_requeue hactive k _
  · exact waits_requeue hactive k _
  · exact hrenew _
  · exact hrenew _
  · exact hgive _
  · exact hgive _
  all_goals exact hrenew _

theorem waits_reportEnd (c : ChanId) (i : ChanInst) : Waits s (s.reportEnd c i) := by
  unfold State.reportEnd
  split
  · have hset := waits_setCont s c none
    exact hset.trans (waits_settleEnd (hset.active hactive) _ _)
  · exact Waits.refl s

end

/-! ### The channels are taken (R154, step 1) -/

/-- A channel is FREE or in TAIL. -/
def Tailed (s : State) (c : ChanId) : Prop := ∀ i, s.chan c = some i → i.state = .tail

/-- A channel's own claim record is gone or as it was. -/
def ClaimLeft (s t : State) (c : ChanId) : Prop := t.claimOf c = none ∨ t.claimOf c = s.claimOf c

theorem ClaimLeft.trans {s t u : State} {c : ChanId} (h : ClaimLeft s t c) (k : ClaimLeft t u c) : ClaimLeft s u c := by
  obtain hnone | hsame := k
  · exact .inl hnone
  · obtain hnone | hsame' := h
    · exact .inl (hsame.trans hnone)
    · exact .inr (hsame.trans hsame')

theorem claimLeft_of_eq {s t : State} {c : ChanId} (h : t.claimOf c = s.claimOf c) : ClaimLeft s t c := .inr h

theorem claimLeft_enterTail (s : State) (c d : ChanId) (o : Ending) : ClaimLeft s (s.enterTail d o) c := by
  obtain rfl | hne := eq_or_ne c d
  · obtain hnone | ⟨i, hi⟩ := Option.eq_none_or_eq_some (s.chan c)
    · rw [enterTail_of_free hnone]
      exact .inr rfl
    · by_cases htail : i.state = .tail
      · rw [enterTail_of_tail o hi htail]
        exact .inr rfl
      · exact .inl (claimOf_enterTail_self o hi htail)
  · exact .inr (claimOf_endTail_of_ne s o hne)

theorem tailed_enterTail_self (s : State) (c : ChanId) (o : Ending) : Tailed (s.enterTail c o) c := fun _ hi => state_enterTail o hi

theorem Tailed.enterTail {s : State} {c : ChanId} (h : Tailed s c) (d : ChanId) (o : Ending) : Tailed (s.enterTail d o) c := by
  obtain rfl | hne := eq_or_ne c d
  · exact tailed_enterTail_self s c o
  · rw [Tailed, (within_enterTail d s o).chan c hne]
    exact h

theorem keeps_displace (s : State) : Keeps s s.displace := by
  unfold State.displace
  split
  · exact Keeps.refl s
  · dsimp only
    split
    · exact keeps_enterTail s 0 _
    · exact ((keeps_enterTail s 0 _).trans (keeps_setChan _ 0 _)).trans (keeps_reportEnd _ 0 _)

theorem keeps_takeChannels (s : State) : Keeps s s.takeChannels :=
  (((keeps_displace s).trans (keeps_enterTail _ 1 _)).trans (keeps_enterTail _ 2 _)).trans (keeps_enterTail _ 3 _)

theorem claimLeft_displace {s : State} (hactive : s.evac.active = true) (c : ChanId) : ClaimLeft s s.displace c := by
  unfold State.displace
  split
  · exact .inr rfl
  · dsimp only
    have htail := claimLeft_enterTail s c 0 .preempted
    split
    · exact htail
    next i _ =>
      have hactive' : ((s.enterTail 0 .preempted).setChan 0 none).evac.active = true :=
        (congrArg Evac.active (keeps_enterTail s 0 .preempted).evac).trans hactive
      refine htail.trans (claimLeft_of_eq ?_)
      rw [State.claimOf, waits_reportEnd hactive' 0 i]
      rfl

theorem claimLeft_takeChannels {s : State} (hactive : s.evac.active = true) (c : ChanId) : ClaimLeft s s.takeChannels c :=
  (((claimLeft_displace hactive c).trans (claimLeft_enterTail _ c 1 _)).trans (claimLeft_enterTail _ c 2 _)).trans (claimLeft_enterTail _ c 3 _)

theorem tailed_takeChannels (s : State) {c : ChanId} (h : c ≠ 0) : Tailed s.takeChannels c := by
  have hone : Tailed (s.displace.enterTail 1 .preempted) 1 := tailed_enterTail_self _ 1 _
  have htwo : Tailed ((s.displace.enterTail 1 .preempted).enterTail 2 .preempted) 2 := tailed_enterTail_self _ 2 _
  fin_cases c
  · exact absurd rfl h
  · exact (hone.enterTail 2 _).enterTail 3 _
  · exact htwo.enterTail 3 _
  · exact tailed_enterTail_self _ 3 _

/-! ### The round is aborted (R167) -/

theorem testing_abortTest (s : State) (z : ZoneId) : Testing s (s.abortTest z) := by
  unfold State.abortTest
  exact .ite (((testing_fallSilent s z).trans (testing_setLevel _ z _)).trans (testing_skipZone _ z)) (.refl s)

theorem testing_testsAborted (s : State) : Testing s (testsAborted s) :=
  (Testing.foldl testing_abortTest _ s).trans (Testing.foldl (fun t z => testing_setZone t z _) _ _)

theorem testing_abortRound (s : State) : Testing s s.abortRound := by
  rw [abortRound_eq]
  exact .ite (((testing_testsAborted s).trans (Testing.foldl testing_skipZone _ _)).trans (testing_endRound _)) (testing_testsAborted s)

theorem inRound_abortRound (s : State) : s.abortRound.sup.scan.inRound = false := by
  rw [abortRound_eq]
  split
  · rfl
  next h => exact Bool.eq_false_iff.mpr h

theorem keeps_abortRound (s : State) : Keeps s s.abortRound :=
  ((Keeps.foldl _ keeps_abortTest _ s).trans (Keeps.foldl _ (fun t z => keeps_setZone t z _) _ _)).trans (calm_after_testsAborted s).keeps

/-! ### The evacuation instance (R155) -/

theorem sup_setGains (s : State) (g : List (ZoneId × Nat)) : (s.setGains g).sup = s.sup := by rw [foldl_setGains_eq]

theorem sup_choosePlaying (s : State) (c : ChanId) : (s.choosePlaying c).sup = s.sup := by
  have hassemble {t : State} {l : Option (List Nat)} (h : s.assemble s.cfg.evacTemplate evacInputs = (t, l)) : t.sup = s.sup := by
    unfold State.assemble at h
    split at h <;> cases h
    · rfl
    · exact (sends_raise s _ _).sup
  unfold State.choosePlaying
  split
  · split
    next t l h => exact (show (t.updChan c _).sup = t.sup from rfl).trans (hassemble h)
    next t h => exact (show (t.updChan c _).sup = t.sup from rfl).trans (hassemble h)
  · rfl

theorem sends_offerClaim (s : State) (c : ChanId) : ∃ r, Sends (s.setClaim c r) (s.offerClaim c) := by
  unfold State.offerClaim
  split
  next h => exact ⟨none, by rw [setClaim_eq_self h]; exact Sends.refl s⟩
  · exact ⟨_, (tells_offer _ _).sends⟩

theorem sup_makeClaim (s : State) (c : ChanId) (tag cls : Nat) (d : Option Nat) : (s.makeClaim c tag cls d).sup = s.sup := by
  unfold State.makeClaim
  dsimp only
  split
  · rfl
  · obtain ⟨r, hsends⟩ := sends_offerClaim (s.setClaim c _) c
    exact hsends.sup

theorem claimOf_makeClaim_of_ne (s : State) {c d : ChanId} (tag cls : Nat) (n : Option Nat) (h : d ≠ c) :
    (s.makeClaim c tag cls n).claimOf d = s.claimOf d := by
  unfold State.makeClaim
  dsimp only
  split
  · rfl
  · exact (claimOf_offerClaim_of_ne _ h).trans (claimOf_setClaim_of_ne _ _ _ _ h.symm)

/-- The instance of an evacuation that begins at a time. -/
structure EvacLead (s : State) (j : ChanInst) : Prop where
  state : j.state = .leadIn
  cls : j.cls = 0
  key : j.key = none
  evac : j.evac.isSome = true
  wakeEnd : j.wakeEnd = some (s.now + s.cfg.ampWake)
  listenEnd : j.listenEnd = some (s.now + 300)

theorem evacLead_leadingInst (s : State) : EvacLead s (leadingInst (evacSeated s) 0 (evacInst s)) where
  state := rfl
  cls := rfl
  key := rfl
  evac := rfl
  wakeEnd := by
    have hkeeps : Keeps s (evacSeated s) := ((keeps_tookTag s).trans (keeps_hold _ 0 _)).trans (keeps_setChan _ 0 _)
    change some ((evacSeated s).now + (evacSeated s).cfg.ampWake) = some (s.now + s.cfg.ampWake)
    rw [now_of_clock hkeeps.clock, State.cfg, hkeeps.startup]
    rfl
  listenEnd := by
    have hkeeps : Keeps s (evacSeated s) := ((keeps_tookTag s).trans (keeps_hold _ 0 _)).trans (keeps_setChan _ 0 _)
    change some ((evacSeated s).now + 300) = some (s.now + 300)
    rw [now_of_clock hkeeps.clock]

theorem evacLead_choosePlaying {s t : State} {c : ChanId} {i : ChanInst} (hchan : t.chan c = some i) (h : EvacLead s i) :
    ∃ j, (t.choosePlaying c).chan c = some j ∧ EvacLead s j := by
  have hchoose (f : ChanInst → ChanInst) {u : State} (hu : u.chans = t.chans)
      (hf : EvacLead s (f i)) : ∃ j, (u.updChan c f).chan c = some j ∧ EvacLead s j :=
    ⟨_, chan_updChan_self f (by rw [State.chan, hu]; exact hchan), hf⟩
  have hevac (g : EvacCycle → EvacCycle) : (i.evac.map g).isSome = true := by rw [Option.isSome_map]; exact h.evac
  have htone : EvacLead s i.chooseTone := ⟨h.state, h.cls, h.key, hevac _, h.wakeEnd, h.listenEnd⟩
  unfold State.choosePlaying
  split
  · split
    next hl => exact hchoose _ (chans_assemble hl) ⟨h.state, h.cls, h.key, hevac _, h.wakeEnd, h.listenEnd⟩
    next hl => exact hchoose _ (chans_assemble hl) htone
  · exact hchoose _ rfl htone

/-- What the begin of the evacuation instance leaves. -/
structure EvacBegun (s t : State) : Prop where
  keeps : Keeps s t
  lead : ∃ j, t.chan 0 = some j ∧ EvacLead s j
  chan : ∀ c : ChanId, c ≠ 0 → t.chan c = s.chan c
  claimOf : ∀ c : ChanId, c ≠ 0 → t.claimOf c = s.claimOf c
  sup : t.sup = s.sup
  zone : ∀ z : ZoneId, (t.zone z).state = if z ∈ s.evacZones then .held 0 else (s.zone z).state

theorem evacBegun (s : State) : EvacBegun s s.startInstance := by
  have hcalm := calm_after_evacSeated s
  have hseated : (evacSeated s).chan 0 = some (evacInst s) := chan_setChan_self _ 0 _
  have hled := chan_enterLeadIn_self hseated
  obtain ⟨j, hj, hlead⟩ := evacLead_choosePlaying hled (evacLead_leadingInst s)
  have hchanSeated {c : ChanId} (hc : c ≠ 0) : (evacSeated s).chan c = s.chan c :=
    (chan_setChan_of_ne _ 0 c _ hc.symm).trans (chan_hold s.tookTag 0 c _)
  have hchanLed {c : ChanId} (hc : c ≠ 0) : ((evacSeated s).enterLeadIn 0).chan c = s.chan c := by
    rw [enterLeadIn_of_chan hseated, foldl_setGains_eq]
    exact (chan_setChan_of_ne _ 0 c _ hc.symm).trans (hchanSeated hc)
  have hclaimLed (c : ChanId) : ((evacSeated s).enterLeadIn 0).claimOf c = s.claimOf c :=
    (claimOf_enterLeadIn _ 0 c).trans (claimOf_hold s.tookTag 0 c _)
  have hsupLed : ((evacSeated s).enterLeadIn 0).sup = s.sup := by
    rw [enterLeadIn_of_chan hseated, sup_setGains]
    rw [show ((evacSeated s).setChan 0 (some (leadingInst (evacSeated s) 0 (evacInst s)))).sup = (s.tookTag.hold 0 s.tookTag.evacZones).sup from rfl,
      hold_eq]
    rfl
  have hchoose := within_choosePlaying 0 ((evacSeated s).enterLeadIn 0)
  have hsupChosen := (sup_choosePlaying ((evacSeated s).enterLeadIn 0) 0).trans hsupLed
  have hkeeps : Keeps s (evacSeated s) := ((keeps_tookTag s).trans (keeps_hold _ 0 _)).trans (keeps_setChan _ 0 _)
  refine ⟨hkeeps.trans hcalm.keeps, ⟨j, ?_, hlead⟩, fun c hc => ?_, fun c hc => ?_, ?_, fun z => ?_⟩
  · rw [startInstance_eq, chan_arbitrate, chan_makeClaim]
    exact hj
  · rw [startInstance_eq, chan_arbitrate, chan_makeClaim]
    exact (hchoose.chan c hc).trans (hchanLed hc)
  · rw [startInstance_eq, claimOf_arbitrate, claimOf_makeClaim_of_ne _ _ _ _ hc]
    exact (hchoose.claimOf c hc).trans (hclaimLed c)
  · rw [startInstance_eq, arbitrate_eq]
    exact (sup_makeClaim _ 0 _ _ _).trans hsupChosen
  · rw [(hcalm.zone z).2]
    have hzone : (evacSeated s).zone z = if z ∈ s.tookTag.evacZones then { s.zone z with state := .held 0 } else s.zone z :=
      zone_hold s.tookTag 0 _ z
    rw [hzone]
    exact apply_ite Zone.state _ _ _

/-! ### The EVAC_START that the node sends (R158) -/

theorem sendEvacStart_of_link {s : State} (h : s.onLink = true) :
    s.sendEvacStart = ({ s with evac := { s.evac with repeatAt := some (s.now + 5000) } } : State).offer (plainFrame 0 .evacStart [] 0) := by
  unfold State.sendEvacStart
  rw [if_pos h]

theorem sends_sendEvacStart {s : State} (h : s.onLink = true) :
    Sends { s with evac := { s.evac with repeatAt := some (s.now + 5000) } } s.sendEvacStart := by
  rw [sendEvacStart_of_link h]
  exact (tells_offer _ _).sends

/-- An EVAC_START offered with room is in the queue: in place of a waiting one, or as a frame of its own. -/
theorem mem_offer_evacStart {s : State} (hon : s.onLink = true) (hroom : s.link.queue.length < 8) :
    ∃ f ∈ (s.offer (plainFrame 0 .evacStart [] 0)).link.queue, f.kind = .evacStart ∧ f.payload = [] := by
  rw [State.offer, txOffer_evacStart hon rfl]
  by_cases hany : s.link.queue.any TxFrame.isPendingEvacStart = true
  · obtain ⟨g, hg, hpending⟩ := List.any_eq_true.mp hany
    have hmap : s.txEvacStart (plainFrame 0 .evacStart [] 0)
        = s.mapQueue fun g => if g.isPendingEvacStart then { g with payload := [] } else g := if_pos hany
    have hkind : g.kind = .evacStart := by
      simp only [TxFrame.isPendingEvacStart, Bool.and_eq_true, decide_eq_true_eq] at hpending
      exact hpending.1
    rw [hmap]
    refine ⟨{ g with payload := [] }, mem_pump ?_ ?_, hkind, rfl⟩
    · change (s.link.queue.map _).length < 8
      rwa [List.length_map]
    · refine List.mem_map.mpr ⟨g, hg, ?_⟩
      rw [if_pos hpending]
  · have hinsert : s.txEvacStart (plainFrame 0 .evacStart [] 0) = s.txInsert (plainFrame 0 .evacStart [] 0) := if_neg hany
    rw [hinsert, txInsert_of_room hroom]
    exact ⟨_, mem_pump_of_kept (mem_insertFrame.mpr (.inl rfl)) rfl, rfl, rfl⟩

/-! ### EVAC_START taken (R154, R155) -/

theorem evacSource_of_admits {c : NodeConfig} {src : Nat} (h : c.admits .evacStart src = true) :
    ((c.evacSource src).inEvac || (c.evacSource src).inPeer) = true := by
  have h' : (decide (src ≠ 0) && [c.evac, c.peer].any fun m => m.getLsbD src) = true := h
  obtain ⟨hsrc, hany⟩ := Bool.and_eq_true_iff.mp h'
  obtain ⟨m, hm, hbit⟩ := List.any_eq_true.mp hany
  rw [NodeConfig.evacSource, hsrc, Bool.true_and, Bool.true_and, Bool.or_eq_true]
  rcases List.mem_pair.mp hm with rfl | rfl
  · exact .inl hbit
  · exact .inr hbit

theorem evacFromLink_of_admits {s : State} {src : Nat} {c : NodeConfig} (h : c.admits .evacStart src = true) :
    s.evacFromLink (c.evacSource src) = if s.evac.active then { s with evac := { s.evac with link := true } } else s.evacuate false true := by
  unfold State.evacFromLink
  rw [if_pos (evacSource_of_admits h)]

theorem sends_sendStatus (s : State) (dest : Nat) (joining : Bool) : Sends s (s.sendStatus dest joining) := by
  unfold State.sendStatus
  exact .ite (tells_offer _ _).sends (Sends.refl _)

/-- What entering evacuation leaves, from the state in which the controller is ACTIVE with its source set. -/
structure Evacuated (s t : State) : Prop where
  keeps : Keeps s t
  lead : ∃ j, t.chan 0 = some j ∧ EvacLead s j
  tailed : ∀ c : ChanId, c ≠ 0 → Tailed t c
  claimLeft : ∀ c : ChanId, c ≠ 0 → ClaimLeft s t c
  zone : ∀ z : ZoneId, (t.zone z).state =
    if z ∈ s.evacZones then .held 0 else if s.inTest z then .idle else (s.zone z).state
  inRound : t.sup.scan.inRound = false

theorem evacZones_congr {s t : State} (hphase : t.startup = s.startup)
    (hzone : ∀ z : ZoneId, (t.zone z).present = (s.zone z).present ∧ ((t.zone z).state = .off ↔ (s.zone z).state = .off)) :
    t.evacZones = s.evacZones := by
  unfold State.evacZones
  rw [hphase]
  split
  · rfl
  · refine List.filter_congr fun z _ => ?_
    obtain ⟨hpresent, hoff⟩ := hzone z
    rw [hpresent, decide_eq_decide.mpr hoff.not]

/-- The state with its controller ACTIVE and its source set. -/
def alarmed (s : State) (input link : Bool) : State := { s with evac := { s.evac with active := true, input := input, link := link } }

theorem evacuated_evacStood (s : State) (input link : Bool) : Evacuated (alarmed s input link) (evacStood s input link) := by
  have hactive : (alarmed s input link).evac.active = true := rfl
  have hstood : evacStood s input link = (alarmed s input link).takeChannels.abortRound.startInstance := rfl
  rw [hstood]
  generalize alarmed s input link = u at hactive
  have htaken := taken_takeChannels hactive
  have hkeepsTaken := keeps_takeChannels u
  have htailed (c : ChanId) (hc : c ≠ 0) := tailed_takeChannels u hc
  have hclaims (c : ChanId) := claimLeft_takeChannels hactive c
  generalize u.takeChannels = v at htaken hkeepsTaken htailed hclaims
  have htesting := testing_abortRound v
  have hzones (z : ZoneId) := zone_abortRound v z
  have hinRound := inRound_abortRound v
  have hkeepsRound := keeps_abortRound v
  generalize v.abortRound = w at htesting hzones hinRound hkeepsRound
  have hbegun := evacBegun w
  generalize w.startInstance = t at hbegun
  have hkeeps := hkeepsTaken.trans hkeepsRound
  have hinTest (z : ZoneId) : v.inTest z = u.inTest z := by rw [State.inTest, (htaken.zone z).2]; rfl
  have hstate (z : ZoneId) : (w.zone z).state = if u.inTest z then .idle else (u.zone z).state := by
    rw [(hzones z).2, hinTest, (htaken.zone z).2]
  have hevacZones : w.evacZones = u.evacZones := by
    refine evacZones_congr hkeeps.startup fun z => ⟨(hzones z).1.trans (htaken.zone z).1, ?_⟩
    rw [hstate]
    split
    next htest =>
      rw [inTest_iff.mp htest]
      exact iff_of_false (fun h => nomatch h) fun h => nomatch h
    · rfl
  obtain ⟨j, hj, hlead⟩ := hbegun.lead
  refine ⟨hkeeps.trans hbegun.keeps, ⟨j, hj, ?_⟩, fun c hc i hi => ?_, fun c hc => ?_, fun z => ?_, ?_⟩
  · have hnow : w.now = u.now := now_of_clock hkeeps.clock
    have hcfg : w.cfg = u.cfg := by rw [State.cfg, hkeeps.startup]; rfl
    exact ⟨hlead.state, hlead.cls, hlead.key, hlead.evac, by rw [hlead.wakeEnd, hnow, hcfg], by rw [hlead.listenEnd, hnow]⟩
  · rw [hbegun.chan c hc, State.chan, htesting.chans] at hi
    exact htailed c hc i hi
  · refine (hclaims c).trans (claimLeft_of_eq ((hbegun.claimOf c hc).trans ?_))
    rw [State.claimOf, htesting.claims]
    rfl
  · rw [hbegun.zone, hevacZones, hstate]
  · rw [hbegun.sup]
    exact hinRound

/-- Entering evacuation from the state in which its instance stands: the report, the EVAC_START of an asserted trigger, the gates. -/
theorem evacuate_last (s : State) (input link : Bool) :
    ∃ (u : State) (r : Option Nat), Keeps (evacStood s input link) u ∧ Sends (evacStood s input link) u
      ∧ Waits { u with evac := { u.evac with repeatAt := r } } (s.evacuate input link)
      ∧ (s.onLink = true → s.triggered = true → r = some (s.now + 5000)) := by
  have hlast : s.evacuate input link = (if ((evacStood s input link).sendStatus 0 false).triggered
      then ((evacStood s input link).sendStatus 0 false).sendEvacStart else (evacStood s input link).sendStatus 0 false).settleGates := rfl
  have hstood : Keeps (alarmed s input link) (evacStood s input link) := (evacuated_evacStood s input link).keeps
  have hstatus : Keeps (evacStood s input link) ((evacStood s input link).sendStatus 0 false) := (calm_sendStatus _ 0 false).keeps
  have hsends := sends_sendStatus (evacStood s input link) 0 false
  generalize hu : (evacStood s input link).sendStatus 0 false = u at hlast hstatus hsends
  have hall := hstood.trans hstatus
  have htriggered : u.triggered = s.triggered := by
    unfold State.triggered State.asserted State.cfg
    rw [hall.contacts, hall.startup]
    rfl
  have hnow : u.now = s.now := now_of_clock (s := alarmed s input link) hall.clock
  have hlink : u.onLink = s.onLink := by
    rw [State.onLink, hall.startup]
    rfl
  by_cases hsent : u.triggered = true ∧ u.onLink = true
  · obtain ⟨htrig, hon⟩ := hsent
    refine ⟨u, some (s.now + 5000), hstatus, hsends, ?_, fun _ _ => rfl⟩
    have hwaits := waits_of_sends (sends_sendEvacStart hon)
    rw [hnow] at hwaits
    rw [hlast, if_pos htrig]
    exact hwaits.trans (waits_settleGates _)
  · have hsame : (if u.triggered then u.sendEvacStart else u) = u := by
      split
      next htrig => exact if_neg fun hon => hsent ⟨htrig, hon⟩
      · rfl
    refine ⟨u, u.evac.repeatAt, hstatus, hsends, ?_, fun hon htrig => ?_⟩
    · rw [hlast, hsame]
      exact waits_settleGates u
    · exact absurd ⟨htriggered.trans htrig, hlink.trans hon⟩ hsent

/-- Settles O52: the channels taken, the round aborted, the instance begun, and what reports and frames leave alone. -/
theorem evacuationEntered : Obligations.EvacuationEntered := by
  intro dst src payload s hreach hpayload
  have hread : readEmpty payload = some () := by rw [hpayload]; rfl
  have hexec := exec_reaches hreach hread (y := exec (.evacStart dst src payload) s) rfl
  rw [evacFromLink_of_admits (s := s.taken) (c := s.taken.cfg) hreach.admitted] at hexec
  refine ⟨fun hactive => ?_, fun hactive => ?_⟩
  · rw [hexec, if_pos (show s.taken.evac.active = true from hactive)]
    rfl
  · have hidle : ¬s.taken.evac.active = true := by
      rw [show s.taken.evac.active = s.evac.active from rfl, hactive]
      exact Bool.false_ne_true
    rw [if_neg hidle] at hexec
    have hstood := evacuated_evacStood s.taken false true
    obtain ⟨u, r, hkeeps, hsends, hwaits, hrepeat⟩ := evacuate_last s.taken false true
    generalize evacStood s.taken false true = v at hstood hkeeps hsends
    generalize s.taken.evacuate false true = t at hexec hwaits
    have hall := hstood.keeps.trans hkeeps
    have hzone (z : ZoneId) : t.zone z = v.zone z := by rw [State.zone, hwaits, State.zone, ← hsends.zones]
    have hchan (c : ChanId) : t.chan c = v.chan c := by rw [State.chan, hwaits, State.chan, ← hsends.chans]
    have hclaim (c : ChanId) : t.claimOf c = v.claimOf c := by rw [State.claimOf, hwaits, State.claimOf, ← hsends.claims]
    have hevac : t.evac = { u.evac with repeatAt := r } := by rw [hwaits]
    have hphase : s.startup.phase ≠ .limited := by
      intro h
      have hlinked := hreach.linked
      rw [State.onLink, h] at hlinked
      cases hlinked
    obtain ⟨j, hj, hlead⟩ := hstood.lead
    refine ⟨t, j, hexec, ?_, ?_, ?_, fun htrig => ?_, (hchan 0).trans hj, hlead.state, hlead.cls, hlead.key, hlead.evac, hlead.wakeEnd, hlead.listenEnd,
      fun c hc i hi => ?_, fun c hc => ?_, fun z hpresent hon => ?_, fun z hoff => ?_, ?_, ?_, ?_, ?_, ?_, ?_, ?_⟩
    · rw [hevac, hall.evac]
      rfl
    · rw [hevac, hall.evac]
      rfl
    · rw [hevac, hall.evac]
      rfl
    · rw [hevac]
      exact hrepeat hreach.linked htrig
    · rw [hchan] at hi
      exact hstood.tailed c hc i hi
    · rw [hclaim]
      exact hstood.claimLeft c hc
    · rw [hzone, hstood.zone]
      exact if_pos ((mem_evacZones (s := alarmed s.taken false true) hphase).mpr ⟨hpresent, hon⟩)
    · have hout : z ∉ (alarmed s.taken false true).evacZones := fun h =>
        ((mem_evacZones (s := alarmed s.taken false true) hphase).mp h).2 hoff
      rw [hzone, hstood.zone, if_neg hout]
      have hnot : ¬(alarmed s.taken false true).inTest z = true := fun h => by
        have htest : (s.zone z).state = .test := inTest_iff.mp h
        rw [hoff] at htest
        cases htest
      rw [if_neg hnot]
      exact hoff
    · rw [hwaits]
      exact (congrArg (fun x : Supervision => x.scan.inRound) hsends.sup).trans hstood.inRound
    · rw [hwaits]
      exact hall.calls
    · rw [hwaits]
      exact hall.clock
    · rw [hwaits]
      exact hall.startup
    · rw [hwaits]
      exact hall.store
    · rw [hwaits]
      exact hall.occupancy
    · rw [hwaits]
      exact hall.contacts

/-! ### A walk keeps the instances in TAIL (R100, R101) -/

/-- Every instance in TAIL stays as it is. -/
def TailsStay (s t : State) : Prop := ∀ (c : ChanId) (i : ChanInst), s.chan c = some i → i.state = .tail → t.chan c = some i

theorem TailsStay.trans {s t u : State} (h : TailsStay s t) (k : TailsStay t u) : TailsStay s u := fun c i hi htail => k c i (h c i hi htail) htail

theorem tailsStay_of_chans {s t : State} (h : t.chans = s.chans) : TailsStay s t := fun c i hi _ => by
  rw [State.chan, h]
  exact hi

theorem tailsStay_enterTail (s : State) (d : ChanId) (o : Ending) : TailsStay s (s.enterTail d o) := by
  intro c i hi htail
  obtain rfl | hne := eq_or_ne c d
  · rwa [enterTail_of_tail o hi htail]
  · rwa [(within_enterTail d s o).chan c hne]

theorem chans_groupEnded (s : State) : s.groupEnded.chans = s.chans := by
  unfold State.groupEnded
  split
  · split
    · rfl
    · split <;> rfl
  · split
    · rfl
    · split <;> rfl
  · rfl

theorem tailsStay_cleared (s : State) (cls : Nat) (zs : ZoneSet) : TailsStay s (cleared s cls zs) := by
  have hpreempt : TailsStay s ((s.preempted cls zs).foldl (fun t d => t.enterTail d .preempted) s) :=
    List.foldlRecOn (motive := fun t => TailsStay s t) _ _ (fun _ _ hi _ => hi) fun t ht d _ => ht.trans (tailsStay_enterTail t d _)
  exact hpreempt.trans (tailsStay_of_chans (Testing.foldl testing_abortTest _ _).chans)

theorem tailsStay_launch (s : State) (e : Entry) {c : ChanId} (zs : ZoneSet) (words : List Nat) (hfree : s.chan c = none) :
    TailsStay s (s.launch e c zs words) := by
  have hlast (d : ChanId) : (s.launch e c zs words).chan d = (seated s e c zs words).chan d := by
    rw [launch_eq, chan_makeClaim]
    rfl
  intro d i hi htail
  have hne : c ≠ d := by
    rintro rfl
    rw [hfree] at hi
    cases hi
  have hseated : (seated s e c zs words).chan d = ((cleared s e.cls zs).hold c zs).groupEnded.chan d := chan_setChan_of_ne _ c d _ hne
  rw [hlast, hseated, State.chan, chans_groupEnded]
  exact (chan_hold _ c d zs).trans (tailsStay_cleared s e.cls zs d i hi htail)

theorem chans_words {s t : State} {e : Entry} {l : Option (List Nat)} (h : s.words e = (t, l)) : t.chans = s.chans := by
  unfold State.words at h
  split at h
  · cases h
    rfl
  · exact chans_assemble h

theorem chans_removeEntry (s : State) (k : Key) (r : Result) : (s.removeEntry k r).chans = s.chans := by
  have h := waits_removeEntry s k r
  rw [h]

theorem walkStep_tailsStay : WalkStep TailsStay where
  refl _ _ _ hi _ := hi
  trans := TailsStay.trans
  removes s k r := tailsStay_of_chans (chans_removeEntry s k r)
  words hw := tailsStay_of_chans (chans_words hw)
  launches s e c zs words hfree := tailsStay_launch s e zs words hfree
  ends s := by
    have hlast := ((waits_queue s { s.queue with walkedAt := s.now }).trans (waits_arbitrate _)).trans (waits_settleGates _)
    generalize State.settleGates _ = u at hlast
    refine tailsStay_of_chans ?_
    rw [hlast]

/-! ### The end of evacuation (R158, R159) -/

theorem endEvac_eq (s : State) : s.endEvac =
    ((({ s.enterTail 0 .done with evac := { (s.enterTail 0 .done).evac with active := false, input := false, link := false } } : State).sendStatus 0
      false).walk) := rfl

/-- EVAC_STOP with no trigger asserted. -/
theorem endEvac_of_chan {s : State} {i : ChanInst} (hchan : s.chan 0 = some i) (houtcome : i.outcome = none) (htail : i.state ≠ .tail) :
    ∃ j, s.endEvac.evac = { s.evac with active := false, input := false, link := false } ∧ s.endEvac.chan 0 = some j ∧ j.state = .tail
      ∧ j.outcome = some .done ∧ j.tailEnd = some (s.now + 300) ∧ s.endEvac.calls = s.calls ∧ Undisturbed { s with evac := s.endEvac.evac } s.endEvac := by
  have hended := chan_enterTail_self .done hchan htail
  have hkeepsTail := keeps_enterTail s 0 .done
  rw [endEvac_eq]
  generalize s.enterTail 0 .done = u at hended hkeepsTail
  obtain ⟨v, hv⟩ : ∃ v : State, v = { u with evac := { u.evac with active := false, input := false, link := false } } := ⟨_, rfl⟩
  rw [← hv]
  have hsends := sends_sendStatus v 0 false
  have hstay := walkStep_tailsStay.walk (v.sendStatus 0 false)
  have hkeeps := ((calm_sendStatus v 0 false).keeps).trans (keeps_walk (v.sendStatus 0 false))
  generalize (v.sendStatus 0 false).walk = t at hstay hkeeps
  have hchanStatus : (v.sendStatus 0 false).chan 0 = some (i.ended .done s.now) := by
    rw [State.chan, hsends.chans, hv]
    exact hended
  have hevac : t.evac = { s.evac with active := false, input := false, link := false } := by
    rw [hkeeps.evac, hv, ← hkeepsTail.evac]
  have hout : (i.ended .done s.now).outcome = some .done := by
    change some (i.outcome.getD .done) = some .done
    rw [houtcome]
    rfl
  refine ⟨i.ended .done s.now, hevac, hstay 0 _ hchanStatus rfl, rfl, hout, rfl, ?_, ?_⟩
  · rw [hkeeps.calls, hv]
    exact hkeepsTail.calls
  · subst hv
    exact ⟨hkeeps.pending.trans hkeepsTail.pending, hkeeps.startup.trans hkeepsTail.startup, hkeeps.clock.trans hkeepsTail.clock,
      hkeeps.store.trans hkeepsTail.store, rfl, hkeeps.occupancy.trans hkeepsTail.occupancy, hkeeps.joinTimer.trans hkeepsTail.joinTimer,
      hkeeps.handedOver.trans hkeepsTail.handedOver, hkeeps.contacts.trans hkeepsTail.contacts, hkeeps.pins.trans hkeepsTail.pins,
      hkeeps.sampleAt.trans hkeepsTail.sampleAt, hkeeps.roundAt.trans hkeepsTail.roundAt, hkeeps.budget.trans hkeepsTail.budget,
      hkeeps.monitor.trans hkeepsTail.monitor, hkeeps.testStep.trans hkeepsTail.testStep⟩

/-- An EVAC_START sent again with the repeat deadline set 5 s on. -/
theorem sendEvacStart_again {s : State} (hon : s.onLink = true) :
    s.sendEvacStart.evac = { s.evac with repeatAt := some (s.now + 5000) }
      ∧ (s.link.queue.length < 8 → ∃ f ∈ s.sendEvacStart.link.queue, f.kind = .evacStart ∧ f.payload = [])
      ∧ Sends { s with evac := s.sendEvacStart.evac } s.sendEvacStart := by
  have hsends := sends_sendEvacStart hon
  have hevac : s.sendEvacStart.evac = { s.evac with repeatAt := some (s.now + 5000) } := hsends.evac
  refine ⟨hevac, fun hroom => ?_, by rw [hevac]; exact hsends⟩
  rw [sendEvacStart_of_link hon]
  exact mem_offer_evacStart (s := { s with evac := { s.evac with repeatAt := some (s.now + 5000) } }) hon hroom

/-- Settles O53: an EVAC_STOP by what the walk at its end keeps, the repeats by the frame they offer. -/
theorem evacuationEnds : Obligations.EvacuationEnds := by
  refine ⟨fun dst src payload s hreach hpayload => ?_, fun s d hawake hon hrepeat => ?_⟩
  · have hread : readEmpty payload = some () := by rw [hpayload]; rfl
    have hexec := exec_reaches hreach hread (y := exec (.evacStop dst src payload) s) rfl
    refine ⟨fun hidle => ?_, fun i hactive htrig hchan houtcome htail => ?_, fun hactive htrig => ?_⟩
    · rw [hexec, State.evacStop, if_neg (by rw [show s.taken.evac.active = false from hidle]; exact Bool.false_ne_true)]
    · have hstop : s.taken.evacStop = s.taken.endEvac := by
        rw [State.evacStop, if_pos (show s.taken.evac.active = true from hactive),
          if_neg (by rw [show s.taken.triggered = false from htrig]; exact Bool.false_ne_true)]
      obtain ⟨j, hevac, hj, hstate, hout, hend, hcalls, hrest⟩ := endEvac_of_chan (s := s.taken) hchan houtcome htail
      rw [hstop] at hexec
      exact ⟨_, j, hexec, hevac, hj, hstate, hout, hend, hcalls, hrest⟩
    · have hstop : s.taken.evacStop = s.taken.sendEvacStart := by
        rw [State.evacStop, if_pos (show s.taken.evac.active = true from hactive), if_pos (show s.taken.triggered = true from htrig)]
      obtain ⟨hevac, hmem, hsends⟩ := sendEvacStart_again (s := s.taken) hreach.linked
      rw [hstop] at hexec
      refine ⟨_, hexec, hevac, hmem, ?_⟩
      generalize s.taken.sendEvacStart = t at hsends
      unfold Sends at hsends
      rw [hsends]
      rfl
  · have hexec : exec .evacRepeatExpiry s = .next (s.repeatEvac d) := by
      refine (exec_awake hawake rfl).trans ?_
      simp only [hrepeat]
    refine ⟨fun htrig => ?_, fun htrig => ?_⟩
    · rw [hexec, State.repeatEvac]
      dsimp only
      rw [if_neg (by rw [show (s.advanceTo d).triggered = false from htrig]; exact Bool.false_ne_true)]
      rfl
    · have hagain : s.repeatEvac d = (s.advanceTo d).sendEvacStart := if_pos (show (s.advanceTo d).triggered = true from htrig)
      obtain ⟨hevac, hmem, hsends⟩ := sendEvacStart_again (s := s.advanceTo d) hon
      rw [hagain] at hexec
      generalize (s.advanceTo d).sendEvacStart = t at hexec hevac hmem hsends
      have hnow : t.now = (s.advanceTo d).now := hsends.now
      refine ⟨t, hexec, hnow, ?_, hmem, ?_⟩
      · rw [hnow]
        exact hevac
      · unfold Sends at hsends
        rw [hsends]
        rfl

end Sys2Proof.Proofs.EvacRules
end

section
/-! The contacts: samples, debouncers and the roles (R161 to R163). -/

namespace Sys2Proof.Proofs.ContactRules

open Sys2Proof.Machine
open Sys2Proof.Proofs.LiveClose Sys2Proof.Proofs.Faults Sys2Proof.Proofs.Upkeep Sys2Proof.Proofs.Uphold Sys2Proof.Proofs.CallRules
open Sys2Proof.Proofs.Commands Sys2Proof.Proofs.Steps Sys2Proof.Proofs.Reports Sys2Proof.Proofs.Starting Sys2Proof.Proofs.Transmit
open Sys2Proof.Proofs.LineRules Sys2Proof.Proofs.FaultRules Sys2Proof.Proofs.QueueRules Sys2Proof.Proofs.ClaimRules
open Sys2Proof.Proofs.ChannelRules Sys2Proof.Proofs.LeadRules Sys2Proof.Proofs.GateRules Sys2Proof.Proofs.TestRules
open Sys2Proof.Proofs.GroupRules Sys2Proof.Proofs.EvacRules

/-! ### What acting on a contact leaves alone -/

/-- What no contact's role changes: start-up, the clock, the calls, the store and the contacts themselves. -/
structure Acts (s t : State) : Prop where
  startup : t.startup = s.startup
  clock : t.clock = s.clock
  calls : t.calls = s.calls
  store : t.store = s.store
  contacts : t.sup.contacts = s.sup.contacts
  pins : t.sup.pins = s.sup.pins
  sampleAt : t.sup.sampleAt = s.sup.sampleAt

namespace Acts

theorem refl (s : State) : Acts s s := ⟨rfl, rfl, rfl, rfl, rfl, rfl, rfl⟩

theorem trans {s t u : State} (h : Acts s t) (k : Acts t u) : Acts s u :=
  ⟨k.startup.trans h.startup, k.clock.trans h.clock, k.calls.trans h.calls, k.store.trans h.store, k.contacts.trans h.contacts,
    k.pins.trans h.pins, k.sampleAt.trans h.sampleAt⟩

theorem ite {s t u : State} {p : Prop} [Decidable p] (h : Acts s t) (k : Acts s u) : Acts s (if p then t else u) := by
  split
  · exact h
  · exact k

theorem cfg {s t : State} (h : Acts s t) : t.cfg = s.cfg := by
  rw [State.cfg, h.startup]
  rfl

end Acts

theorem acts_of_keeps {s t : State} (h : Keeps s t) : Acts s t := ⟨h.startup, h.clock, h.calls, h.store, h.contacts, h.pins, h.sampleAt⟩

theorem acts_of_sends {s t : State} (h : Sends s t) : Acts s t := by
  rw [h]
  exact ⟨rfl, rfl, rfl, rfl, rfl, rfl, rfl⟩

theorem acts_of_waits {s t : State} (h : Waits s t) : Acts s t := by
  rw [h]
  exact ⟨rfl, rfl, rfl, rfl, rfl, rfl, rfl⟩

theorem acts_evac (s : State) (e : Evac) : Acts s { s with evac := e } := ⟨rfl, rfl, rfl, rfl, rfl, rfl, rfl⟩

theorem acts_zones (s : State) (zones : Vector Zone 8) : Acts s { s with zones := zones } := ⟨rfl, rfl, rfl, rfl, rfl, rfl, rfl⟩

theorem acts_sendEvacStart (s : State) : Acts s s.sendEvacStart := by
  unfold State.sendEvacStart
  exact .ite ((acts_evac s _).trans (acts_of_sends (tells_offer _ _).sends)) (.refl s)

theorem acts_evacuate (s : State) (input link : Bool) : Acts s (s.evacuate input link) := by
  obtain ⟨u, r, hkeeps, -, hwaits, -⟩ := evacuate_last s input link
  have hstood : Acts s (alarmed s input link) := acts_evac s _
  exact ((hstood.trans (acts_of_keeps ((evacuated_evacStood s input link).keeps.trans hkeeps))).trans (acts_evac u _)).trans (acts_of_waits hwaits)

theorem sends_bringIntoLine (s : State) (k : FaultKind) (n : Nat) (present : Bool) : Sends s (s.bringIntoLine k n present) := by
  unfold State.bringIntoLine
  exact .ite (.ite (Sends.refl s) (sends_raise s k _)) (sends_clear s k _)

theorem acts_evaluateAmp (s : State) (a : Fin 4) : Acts s (s.evaluateAmp a) := by
  have hset : Acts s ((s.bringIntoLine .ampFault a.val (s.ampAtFault a)).setAmpFlags) :=
    (acts_of_sends (sends_bringIntoLine s _ _ _)).trans (acts_zones _ _)
  unfold State.evaluateAmp
  exact .ite (hset.trans (acts_of_keeps (keeps_walk _))) hset

theorem acts_actOnContact (s : State) (c : ContactId) (old : Accepted) (active before others : Bool) :
    Acts s (s.actOnContact c old active before others) := by
  unfold State.actOnContact
  split
  · exact .refl s
  · refine .ite ?_ (.ite ?_ (.refl s))
    · unfold State.evacFromInput
      have hset := acts_evac s { s.evac with input := true }
      exact .ite (.ite hset (hset.trans (acts_sendEvacStart _))) (acts_evacuate s true false)
    · unfold State.evacRelease
      exact .ite (.refl s) (acts_evac s _)
  · have hline := acts_of_sends (sends_bringIntoLine s .mainsBattery c.val active)
    exact .ite hline (hline.trans (acts_of_keeps (keeps_walk _)))
  · exact acts_of_sends (sends_bringIntoLine s _ _ _)
  · exact acts_evaluateAmp s _

/-! ### The debouncers (R161) -/

/-- A contact's debouncer. -/
def debouncer (s : State) (c : ContactId) : Debouncer := s.sup.contacts[c]

theorem debouncer_setContact_self (s : State) (c : ContactId) (d : Debouncer) : debouncer (s.setContact c d) c = d :=
  Vector.getElem_set_self c.isLt

theorem debouncer_setContact_of_ne (s : State) {c e : ContactId} (d : Debouncer) (h : e ≠ c) : debouncer (s.setContact c d) e = debouncer s e :=
  Vector.getElem_set_ne c.isLt e.isLt fun h' => h (Fin.ext h'.symm)

theorem Acts.debouncer {s t : State} (h : Acts s t) (c : ContactId) : debouncer t c = debouncer s c := by
  rw [ContactRules.debouncer, h.contacts]
  rfl

/-- A debouncer whose accepted level has changed. -/
def acceptedDebouncer (d : Debouncer) (active : Bool) : Debouncer := { d with level := acceptedOf active, candidate := 0 }

theorem acceptLevel_eq (s : State) (c : ContactId) (active : Bool) :
    s.acceptLevel c active = (s.setContact c (acceptedDebouncer (debouncer s c) active)).actOnContact c (debouncer s c).level active s.battery
      s.triggered := rfl

theorem acts_acceptLevel (s : State) (c : ContactId) (active : Bool) :
    Acts (s.setContact c (acceptedDebouncer (debouncer s c) active)) (s.acceptLevel c active) := by
  rw [acceptLevel_eq]
  exact acts_actOnContact _ c _ active _ _

/-- What a sample makes of a debouncer, the change of its accepted level included. -/
def sampledDebouncer (d : Debouncer) (active : Bool) : Debouncer :=
  if (d.sample active).2 then acceptedDebouncer (d.sample active).1 active else (d.sample active).1

/-- A contact reads active on its pin. -/
def pinActive (c : NodeConfig) (pins : BitVec 8) (d : ContactId) : Bool := pins.getLsbD d.val == (c.contacts[d]).activeHigh

/-- One contact sampled: its own debouncer follows the rule, and nothing else of what acting on a contact leaves changes. -/
structure Sampled (s t : State) (x : BitVec 8) (c : ContactId) : Prop where
  startup : t.startup = s.startup
  clock : t.clock = s.clock
  calls : t.calls = s.calls
  store : t.store = s.store
  pins : t.sup.pins = s.sup.pins
  sampleAt : t.sup.sampleAt = s.sup.sampleAt
  self : debouncer t c = sampledDebouncer (debouncer s c) (pinActive s.cfg x c)
  other : ∀ e : ContactId, e ≠ c → debouncer t e = debouncer s e

theorem sampled_of_acts {s t : State} {pins : BitVec 8} {c : ContactId} {d : Debouncer} (h : Acts (s.setContact c d) t)
    (hd : d = sampledDebouncer (debouncer s c) (pinActive s.cfg pins c)) : Sampled s t pins c where
  startup := h.startup
  clock := h.clock
  calls := h.calls
  store := h.store
  pins := h.pins
  sampleAt := h.sampleAt
  self := by rw [h.debouncer, debouncer_setContact_self, hd]
  other e he := by rw [h.debouncer, debouncer_setContact_of_ne s d he]

theorem setContact_setContact (s : State) (c : ContactId) (d e : Debouncer) : (s.setContact c d).setContact c e = s.setContact c e := by
  unfold State.setContact
  dsimp only
  rw [Vector.set_set]

theorem sampled_sampleContact (s : State) (pins : BitVec 8) (c : ContactId) : Sampled s (s.sampleContact pins c) pins c := by
  have hsample : s.sampleContact pins c = if ((debouncer s c).sample (pinActive s.cfg pins c)).2
      then (s.setContact c ((debouncer s c).sample (pinActive s.cfg pins c)).1).acceptLevel c (pinActive s.cfg pins c)
      else s.setContact c ((debouncer s c).sample (pinActive s.cfg pins c)).1 := rfl
  rw [hsample]
  split
  next haccept =>
    have hacts := acts_acceptLevel (s.setContact c ((debouncer s c).sample (pinActive s.cfg pins c)).1) c (pinActive s.cfg pins c)
    rw [debouncer_setContact_self, setContact_setContact] at hacts
    exact sampled_of_acts hacts (by rw [sampledDebouncer, if_pos haccept])
  next hkeep => exact sampled_of_acts (.refl _) (by rw [sampledDebouncer, if_neg hkeep])

theorem Sampled.cfg {s t : State} {pins : BitVec 8} {c : ContactId} (h : Sampled s t pins c) : t.cfg = s.cfg := by
  rw [State.cfg, h.startup]
  rfl

/-- All the contacts of a list sampled. -/
structure AllSampled (s t : State) (x : BitVec 8) (l : List ContactId) : Prop where
  startup : t.startup = s.startup
  clock : t.clock = s.clock
  calls : t.calls = s.calls
  store : t.store = s.store
  pins : t.sup.pins = s.sup.pins
  sampleAt : t.sup.sampleAt = s.sup.sampleAt
  sampled : ∀ c ∈ l, debouncer t c = sampledDebouncer (debouncer s c) (pinActive s.cfg x c)
  other : ∀ c, c ∉ l → debouncer t c = debouncer s c

theorem allSampled (s : State) (pins : BitVec 8) {l : List ContactId} (hnodup : l.Nodup) :
    AllSampled s (l.foldl (fun t c => t.sampleContact pins c) s) pins l := by
  induction l generalizing s with
  | nil => exact ⟨rfl, rfl, rfl, rfl, rfl, rfl, (fun _ h => nomatch h), fun _ _ => rfl⟩
  | cons a rest ih =>
    obtain ⟨ha, hrest⟩ := List.nodup_cons.mp hnodup
    have hone := sampled_sampleContact s pins a
    have hall := ih (s.sampleContact pins a) hrest
    rw [List.foldl_cons]
    refine ⟨hall.startup.trans hone.startup, hall.clock.trans hone.clock, hall.calls.trans hone.calls, hall.store.trans hone.store,
      hall.pins.trans hone.pins, hall.sampleAt.trans hone.sampleAt, fun c hc => ?_, fun c hc => ?_⟩
    · obtain rfl | hc := List.mem_cons.mp hc
      · rw [hall.other c ha, hone.self]
      · rw [hall.sampled c hc, hone.other c fun e => ha (e ▸ hc), hone.cfg]
    · rw [List.mem_cons, not_or] at hc
      rw [hall.other c hc.2, hone.other c hc.1]

theorem acceptedOf_ne_unknown (active : Bool) : acceptedOf active ≠ .unknown := by cases active <;> exact fun h => nomatch h

theorem acceptedOf_not (active : Bool) : acceptedOf (!active) ≠ acceptedOf active := by cases active <;> exact fun h => nomatch h

theorem sampled_previous (d : Debouncer) (active : Bool) : (sampledDebouncer d active).previous = some active := by
  have hsample : (d.sample active).1.previous = some active := by
    unfold Debouncer.sample
    dsimp only
    split
    · rfl
    · split
      · rfl
      · split <;> rfl
  unfold sampledDebouncer
  split
  · exact hsample
  · exact hsample

theorem sampled_unknown {d : Debouncer} {active : Bool} (h : d.level = .unknown) :
    (sampledDebouncer d active).level = if d.previous = some active then acceptedOf active else .unknown := by
  have hsample : d.sample active = ({ d with previous := some active }, decide (d.previous = some active)) := if_pos h
  rw [sampledDebouncer, hsample]
  by_cases hsame : d.previous = some active
  · rw [if_pos (decide_eq_true hsame), if_pos hsame]
    rfl
  · rw [if_neg (by rw [decide_eq_false hsame]; exact Bool.false_ne_true), if_neg hsame]
    exact h

theorem sampled_same {d : Debouncer} {active : Bool} (h : d.level = acceptedOf active) :
    (sampledDebouncer d active).level = d.level ∧ (sampledDebouncer d active).candidate = 0 := by
  have hsample : d.sample active = ({ d with previous := some active, candidate := 0 }, false) :=
    (if_neg (by rw [h]; exact acceptedOf_ne_unknown active)).trans (if_pos h)
  rw [sampledDebouncer, hsample]
  exact ⟨rfl, rfl⟩

theorem sampled_against {d : Debouncer} {active : Bool} (h : d.level = acceptedOf (!active)) :
    (d.candidate = 0 → (sampledDebouncer d active).level = d.level ∧ (sampledDebouncer d active).candidate = 1)
      ∧ (d.candidate ≠ 0 → (sampledDebouncer d active).level = acceptedOf active ∧ (sampledDebouncer d active).candidate = 0) := by
  have hsample : d.sample active = if d.candidate = 0 then ({ d with previous := some active, candidate := 1 }, false)
      else ({ d with previous := some active, candidate := 0 }, true) :=
    (if_neg (by rw [h]; exact acceptedOf_ne_unknown _)).trans (if_neg (by rw [h]; exact acceptedOf_not active))
  refine ⟨fun hzero => ?_, fun hone => ?_⟩
  · rw [if_pos hzero] at hsample
    rw [sampledDebouncer, hsample]
    exact ⟨rfl, rfl⟩
  · rw [if_neg hone] at hsample
    rw [sampledDebouncer, hsample]
    exact ⟨rfl, rfl⟩

/-! ### The amplifier flags (R163) -/

/-- Every zone's AMP_FAULT flag is as it was. -/
def FlagsKept (s t : State) : Prop := ∀ z : ZoneId, (t.zone z).ampFault = (s.zone z).ampFault

theorem FlagsKept.trans {s t u : State} (h : FlagsKept s t) (k : FlagsKept t u) : FlagsKept s u := fun z => (k z).trans (h z)

theorem flagsKept_of_zones {s t : State} (h : t.zones = s.zones) : FlagsKept s t := fun z => by rw [zone_of_zones h]

theorem flagsKept_setZone (s : State) (y : ZoneId) {f : Zone → Zone} (hf : ∀ x, (f x).ampFault = x.ampFault) : FlagsKept s (s.setZone y f) := by
  intro z
  obtain rfl | hne := eq_or_ne y z
  · rw [zone_setZone_self, hf]
  · rw [zone_setZone_of_ne s y z f hne]

theorem flagsKept_foldl {α : Type} {f : State → α → State} (hf : ∀ s a, FlagsKept s (f s a)) (l : List α) (s : State) :
    FlagsKept s (l.foldl f s) := List.foldlRecOn (motive := fun t => FlagsKept s t) l _ (fun _ => rfl) fun t ht a _ => ht.trans (hf t a)

theorem flagsKept_abortTest (s : State) (y : ZoneId) : FlagsKept s (s.abortTest y) := by
  unfold State.abortTest
  split
  · refine FlagsKept.trans (t := s.fallSilent y) (flagsKept_setZone s y (f := fun x => { x with lastAudible := some s.now }) fun _ => rfl) ?_
    exact flagsKept_of_zones (zones_skipZone ((s.fallSilent y).returnCounter y) y)
  · exact fun _ => rfl

theorem zones_groupEnded (s : State) : s.groupEnded.zones = s.zones := by
  unfold State.groupEnded
  split
  · split
    · rfl
    · split <;> rfl
  · split
    · rfl
    · split <;> rfl
  · rfl

theorem zones_makeClaim (s : State) (c : ChanId) (tag cls : Nat) (d : Option Nat) : (s.makeClaim c tag cls d).zones = s.zones := by
  unfold State.makeClaim
  dsimp only
  split
  · rfl
  · obtain ⟨r, hsends⟩ := sends_offerClaim (s.setClaim c _) c
    exact hsends.zones

theorem flagsKept_launch (s : State) (e : Entry) (c : ChanId) (zs : ZoneSet) (words : List Nat) : FlagsKept s (s.launch e c zs words) := by
  have hpreempt : FlagsKept s ((s.preempted e.cls zs).foldl (fun t d => t.enterTail d .preempted) s) :=
    flagsKept_foldl (fun t d => flagsKept_of_zones (judged_enterTail t d _).zones) _ s
  have hcleared : FlagsKept s (cleared s e.cls zs) := hpreempt.trans (flagsKept_foldl flagsKept_abortTest _ _)
  have hheld : FlagsKept s ((cleared s e.cls zs).hold c zs) := hcleared.trans (flagsKept_foldl (fun t y => flagsKept_setZone t y (f := fun x => { x with state := .held c }) fun _ => rfl) _ _)
  have hseated : FlagsKept s (seated s e c zs words) := hheld.trans (flagsKept_of_zones (zones_groupEnded _))
  rw [launch_eq]
  exact hseated.trans (flagsKept_of_zones (zones_makeClaim _ c _ _ _))

theorem walkStep_flagsKept : WalkStep FlagsKept where
  refl _ _ := rfl
  trans := FlagsKept.trans
  removes s k r := by
    have h := waits_removeEntry s k r
    exact flagsKept_of_zones (by rw [h])
  words {s t e l} hw := by
    unfold State.words at hw
    split at hw
    · cases hw
      exact fun _ => rfl
    · unfold State.assemble at hw
      split at hw <;> cases hw
      · exact fun _ => rfl
      · exact flagsKept_of_zones (sends_raise s _ _).zones
  launches s e c zs words _ := flagsKept_launch s e c zs words
  ends s := by
    have hlast := ((waits_queue s { s.queue with walkedAt := s.now }).trans (waits_arbitrate _)).trans (waits_settleGates _)
    generalize State.settleGates _ = u at hlast
    exact flagsKept_of_zones (by rw [hlast])

theorem mem_allContacts (c : ContactId) : c ∈ allContacts := by
  revert c
  decide

theorem ampAtFault_iff {s : State} {b : Fin 4} :
    s.ampAtFault b = true ↔ ∃ d : ContactId, (s.cfg.contacts[d]).role = .ampFault b ∧ (debouncer s d).level = .active := by
  unfold State.ampAtFault debouncer
  rw [List.any_eq_true]
  simp only [mem_allContacts, true_and, Bool.and_eq_true, decide_eq_true_eq]

theorem zoneAtFault_iff {s : State} {z : ZoneId} :
    s.zoneAtFault z = true ↔ ∃ b : Fin 4, z ∈ s.cfg.amplifiers[b] ∧ s.ampAtFault b = true := by
  have hmem (b : Fin 4) : b ∈ [(0 : Fin 4), 1, 2, 3] := by
    revert b
    decide
  unfold State.zoneAtFault
  rw [List.any_eq_true]
  simp only [hmem, true_and, Bool.and_eq_true, List.contains_iff_mem]
  exact exists_congr fun b => and_comm

theorem ampFault_setAmpFlags (s : State) (z : ZoneId) : (s.setAmpFlags.zone z).ampFault = s.zoneAtFault z :=
  congrArg Zone.ampFault (eight_get (fun y => ({ s.zones[y] with ampFault := s.zoneAtFault y } : Zone)) z)

theorem zoneAtFault_congr {s t : State} (h : Acts s t) (z : ZoneId) : t.zoneAtFault z = s.zoneAtFault z := by
  unfold State.zoneAtFault State.ampAtFault
  rw [h.cfg, h.contacts]

theorem ampFault_evaluateAmp (s : State) (a : Fin 4) (z : ZoneId) : ((s.evaluateAmp a).zone z).ampFault = s.zoneAtFault z := by
  have hline := acts_of_sends (sends_bringIntoLine s .ampFault a.val (s.ampAtFault a))
  have hset := (ampFault_setAmpFlags (s.bringIntoLine .ampFault a.val (s.ampAtFault a)) z).trans (zoneAtFault_congr hline z)
  unfold State.evaluateAmp
  dsimp only
  split
  · exact (walkStep_flagsKept.walk _ z).trans hset
  · exact hset

/-! ### Conditions brought into line (R162) -/

theorem bringIntoLine_inactive (s : State) (k : FaultKind) (n : Nat) : s.bringIntoLine k n false = s.clear k (some n) := rfl

theorem bringIntoLine_of_active {s : State} {k : FaultKind} {n : Nat} (h : s.faults.hasActive k (some n) = true) :
    s.bringIntoLine k n true = s := if_pos h

theorem bringIntoLine_of_none {s : State} {k : FaultKind} {n : Nat} (h : s.faults.hasActive k (some n) = false) :
    s.bringIntoLine k n true = s.raise k (some n) := by
  have hnot : ¬s.faults.hasActive k (some n) = true := by rw [h]; exact Bool.false_ne_true
  exact if_neg hnot

/-- Brought into line with a condition present, it is active, or the table had no room for it. -/
theorem active_of_bringIntoLine (s : State) {k : FaultKind} (n : Nat) (hk : k.isCondition = true) :
    (s.bringIntoLine k n true).faults.hasActive k (some n) = true ∨ s.bringIntoLine k n true = s.count .faultsDropped := by
  cases h : s.faults.hasActive k (some n) with
  | true =>
    rw [bringIntoLine_of_active h]
    exact .inl h
  | false =>
    rw [bringIntoLine_of_none h]
    exact hasActive_raise hk (some n)

/-! ### The statement -/

theorem contacts_sampled {s : State} {pins : BitVec 8} (hawake : s.Awake) (hphase : s.startup.phase ≠ .start) :
    ∃ t, exec (.contactSample pins) s = .next t
      ∧ AllSampled { s with sup := { s.sup with pins := some pins, sampleAt := some (s.now + s.cfg.samplePeriod) } } t pins allContacts := by
  have hexec : exec (.contactSample pins) s = .next (s.sampleContacts pins) := exec_awake hawake rfl
  rw [State.sampleContacts, if_neg hphase] at hexec
  exact ⟨_, hexec, allSampled _ pins (by decide)⟩

/-- The state in which a contact's role acts on its new accepted level. -/
def leveled (s : State) (c : ContactId) (active : Bool) : State := s.setContact c (acceptedDebouncer (debouncer s c) active)

theorem exec_levelChange {s : State} {c : ContactId} {active : Bool} (hawake : s.Awake) (hphase : s.startup.phase ≠ .start)
    (hlevel : (debouncer s c).level ≠ acceptedOf active) :
    exec (.acceptedLevelChange c active) s
      = .next ((leveled s c active).actOnContact c (debouncer s c).level active s.battery s.triggered) := by
  have hnot : ¬(s.startup.phase = .start ∨ (s.sup.contacts[c]).level = acceptedOf active) := not_or.mpr ⟨hphase, hlevel⟩
  refine (exec_awake hawake rfl).trans ?_
  dsimp only
  rw [if_neg hnot]
  rfl

theorem level_leveled (s : State) (c : ContactId) (active : Bool) : (debouncer (leveled s c active) c).level = acceptedOf active := by
  rw [leveled, debouncer_setContact_self]
  rfl

section
variable {s : State} {c : ContactId} (active : Bool) (old : Accepted) (before others : Bool)

theorem act_unused (h : (s.cfg.contacts[c]).role = .unused) : (leveled s c active).actOnContact c old active before others = leveled s c active := by
  have hrole : ((leveled s c active).cfg.contacts[c]).role = .unused := h
  simp only [State.actOnContact, hrole]

theorem act_spare (h : (s.cfg.contacts[c]).role = .spareAlarm) :
    (leveled s c active).actOnContact c old active before others = (leveled s c active).bringIntoLine .spareAlarm c.val active := by
  have hrole : ((leveled s c active).cfg.contacts[c]).role = .spareAlarm := h
  simp only [State.actOnContact, hrole]

theorem act_amp {a : Fin 4} (h : (s.cfg.contacts[c]).role = .ampFault a) :
    (leveled s c active).actOnContact c old active before others = (leveled s c active).evaluateAmp a := by
  have hrole : ((leveled s c active).cfg.contacts[c]).role = .ampFault a := h
  simp only [State.actOnContact, hrole]

theorem act_trigger (h : (s.cfg.contacts[c]).role = .evacTrigger) (hidle : s.evac.active = false) :
    (leveled s c true).actOnContact c old true before others = (leveled s c true).evacuate true false := by
  have hrole : ((leveled s c true).cfg.contacts[c]).role = .evacTrigger := h
  have hnot : ¬(leveled s c true).evac.active = true := by
    rw [show (leveled s c true).evac.active = false from hidle]
    exact Bool.false_ne_true
  simp only [State.actOnContact, hrole, if_true, State.evacFromInput, if_neg hnot]

theorem act_battery (h : (s.cfg.contacts[c]).role = .mainsBattery) :
    (leveled s c active).actOnContact c old active before others =
      if (leveled s c active).battery = before then (leveled s c active).bringIntoLine .mainsBattery c.val active
      else ((leveled s c active).bringIntoLine .mainsBattery c.val active).walk := by
  have hrole : ((leveled s c active).cfg.contacts[c]).role = .mainsBattery := h
  simp only [State.actOnContact, hrole]

end

/-- A spare alarm's condition in line. -/
theorem spare_in_line (s : State) (n : Nat) (active : Bool) :
    (active = false → (s.bringIntoLine .spareAlarm n active).faults.hasActive .spareAlarm (some n) = false
        ∧ s.Cleared (s.bringIntoLine .spareAlarm n active) .spareAlarm (some n))
      ∧ (active = true → s.faults.hasActive .spareAlarm (some n) = false →
        s.Raised (s.bringIntoLine .spareAlarm n active) .spareAlarm (some n))
      ∧ (active = true → (s.bringIntoLine .spareAlarm n active).faults.hasActive .spareAlarm (some n) = true
        ∨ (s.bringIntoLine .spareAlarm n active).counters[(15 : Fin 16)] = min (s.counters[(15 : Fin 16)] + 1) 65535) := by
  refine ⟨fun h => ?_, fun h hnone => ?_, fun h => ?_⟩
  · rw [h, bringIntoLine_inactive]
    exact ⟨hasActive_clear_self _ _ _, cleared_clear _ _ _⟩
  · rw [h, bringIntoLine_of_none hnone]
    exact raised_raise _ _ _
  · rw [h]
    refine (active_of_bringIntoLine s (k := .spareAlarm) n rfl).imp_right fun hdropped => ?_
    rw [hdropped]
    exact count_counter s .faultsDropped

/-- A battery contact's condition in line. -/
theorem battery_in_line {s t : State} {n : Nat} {active : Bool} (hfaults : t.faults = (s.bringIntoLine .mainsBattery n active).faults)
    (hcounters : t.counters[(15 : Fin 16)] = (s.bringIntoLine .mainsBattery n active).counters[(15 : Fin 16)]) :
    (active = false → t.faults.hasActive .mainsBattery (some n) = false)
      ∧ (active = true → t.faults.hasActive .mainsBattery (some n) = true
        ∨ t.counters[(15 : Fin 16)] = min (s.counters[(15 : Fin 16)] + 1) 65535) := by
  refine ⟨fun h => ?_, fun h => ?_⟩
  · rw [hfaults, h, bringIntoLine_inactive]
    exact hasActive_clear_self _ _ _
  · rw [h] at hfaults hcounters
    rw [hfaults, hcounters]
    refine (active_of_bringIntoLine s (k := .mainsBattery) n rfl).imp_right fun hdropped => ?_
    rw [hdropped]
    exact count_counter s .faultsDropped

theorem battery_of_active {s : State} {c : ContactId} (hrole : (s.cfg.contacts[c]).role = .mainsBattery) (hlevel : (debouncer s c).level = .active) :
    s.battery = true :=
  List.any_eq_true.mpr ⟨c, mem_allContacts c, Bool.and_eq_true_iff.mpr ⟨decide_eq_true hrole, decide_eq_true hlevel⟩⟩

/-- Settles O55: a sample contact by contact, a change of level role by role. -/
theorem contactsDebounced : Obligations.ContactsDebounced := by
  refine ⟨fun pins s hawake hphase => ?_, fun c active s hawake hphase => ⟨fun hsame => ?_, fun hchange => ?_⟩⟩
  · obtain ⟨t, hexec, hall⟩ := contacts_sampled (pins := pins) hawake hphase
    refine ⟨t, hexec, hall.pins, hall.sampleAt, hall.clock, hall.calls, hall.startup, hall.store, fun c => ?_⟩
    have hdebouncer : t.sup.contacts[c] = sampledDebouncer (debouncer s c) (pinActive s.cfg pins c) := hall.sampled c (mem_allContacts c)
    rw [hdebouncer]
    refine ⟨sampled_previous _ _, fun hunknown => ⟨fun hprevious => ?_, fun hprevious => ?_⟩, sampled_same, sampled_against⟩
    · exact (sampled_unknown (d := debouncer s c) hunknown).trans (if_pos hprevious)
    · exact (sampled_unknown (d := debouncer s c) hunknown).trans (if_neg hprevious)
  · refine (exec_awake hawake rfl).trans ?_
    dsimp only
    rw [if_pos (.inr hsame)]
  · have hexec := exec_levelChange hawake hphase hchange
    have hacts := acts_actOnContact (leveled s c active) c (debouncer s c).level active s.battery s.triggered
    refine ⟨_, hexec, ?_, ?_, fun d hd => ?_, fun hrole => ?_, fun hrole => ?_, fun a hrole z => ?_, fun hrole htrue hidle => ?_, fun hrole hempty => ?_,
      hacts.clock, hacts.calls, hacts.startup, hacts.store⟩
    · exact (congrArg Debouncer.level (hacts.debouncer c)).trans (level_leveled s c active)
    · refine (congrArg Debouncer.candidate (hacts.debouncer c)).trans ?_
      rw [leveled, debouncer_setContact_self]
      rfl
    · exact (hacts.debouncer d).trans (debouncer_setContact_of_ne s _ hd)
    · rw [act_unused active _ _ _ hrole]
      rfl
    · rw [act_spare active _ _ _ hrole]
      have hsends := sends_bringIntoLine (leveled s c active) .spareAlarm c.val active
      obtain ⟨hfalse, htrue, hdone⟩ := spare_in_line (leveled s c active) c.val active
      generalize (leveled s c active).bringIntoLine .spareAlarm c.val active = t at hsends hfalse htrue hdone
      refine ⟨hfalse, htrue, hdone, ?_⟩
      rw [hsends]
      rfl
    · have hflag : ((leveled s c active).evaluateAmp a).sup.contacts = (leveled s c active).sup.contacts := (acts_evaluateAmp _ a).contacts
      rw [act_amp active _ _ _ hrole, ampFault_evaluateAmp, zoneAtFault_iff, hflag]
      exact exists_congr fun b => and_congr_right fun _ => ampAtFault_iff
    · subst htrue
      rw [act_trigger _ _ _ hrole hidle]
      obtain ⟨u, r, hkeeps, -, hwaits, -⟩ := evacuate_last (leveled s c true) true false
      have hevac := (evacuated_evacStood (leveled s c true) true false).keeps.trans hkeeps
      rw [hwaits]
      exact ⟨congrArg Evac.active hevac.evac, congrArg Evac.input hevac.evac, congrArg Evac.link hevac.evac⟩
    · rw [act_battery active _ _ _ hrole]
      have hsends := sends_bringIntoLine (leveled s c active) .mainsBattery c.val active
      have hentries : ((leveled s c active).bringIntoLine .mainsBattery c.val active).queue.entries = [] :=
        (congrArg Queue.entries hsends.queue).trans hempty
      have hbattery (h : active = true) {t : State} (ht : Acts (leveled s c active) t) : t.battery = true := by
        refine battery_of_active (c := c) ?_ ?_
        · rw [ht.cfg]
          exact hrole
        · rw [ht.debouncer, level_leveled, h]
          rfl
      split
      · obtain ⟨hfalse, htrue⟩ := battery_in_line (s := leveled s c active) (n := c.val) (active := active) rfl rfl
        exact ⟨hfalse, fun h => ⟨hbattery h (acts_of_sends hsends), htrue h⟩⟩
      · have hwalk := walk_of_empty_eq hentries
        have hkept := acts_of_keeps (keeps_walk ((leveled s c active).bringIntoLine .mainsBattery c.val active))
        generalize State.walk _ = t at hwalk hkept
        obtain ⟨hfalse, htrue⟩ := battery_in_line (s := leveled s c active) (t := t) (n := c.val) (active := active) (by rw [hwalk]) (by rw [hwalk])
        exact ⟨hfalse, fun h => ⟨hbattery h ((acts_of_sends hsends).trans hkept), htrue h⟩⟩

end Sys2Proof.Proofs.ContactRules
end

section
/-! Zone audio: enables, fade, gain, the alert tone, targets and gain codes (R132, R140, R149 to R151, R157). -/

namespace Sys2Proof.Proofs.AudioRules

open Sys2Proof.Machine

/-! ### Rounded magnitudes -/

/-- The magnitude that a rounding gives. -/
def roundedMagnitude (q : Nat) (exact up : Bool) : Nat := if !exact && up then q + 1 else q

theorem rounded_eq (negative : Bool) (q : Nat) (exact up : Bool) : rounded negative q exact up =
    if negative then BitVec.ofInt 16 (-(roundedMagnitude q exact up : Int)) else BitVec.ofNat 16 (roundedMagnitude q exact up) := rfl

theorem le_roundedMagnitude (q : Nat) (exact up : Bool) : q ≤ roundedMagnitude q exact up := by
  unfold roundedMagnitude
  split <;> omega

theorem roundedMagnitude_le (q : Nat) (exact up : Bool) : roundedMagnitude q exact up ≤ q + 1 := by
  unfold roundedMagnitude
  split <;> omega

theorem roundedMagnitude_of_exact (q : Nat) (up : Bool) : roundedMagnitude q true up = q := rfl

theorem toInt_rounded_of_pos {q : Nat} {exact up : Bool} (h : roundedMagnitude q exact up ≤ 32767) :
    (rounded false q exact up).toInt = (roundedMagnitude q exact up : Int) := by
  rw [rounded_eq, if_neg Bool.false_ne_true, BitVec.toInt_eq_toNat_of_lt]
  · rw [BitVec.toNat_ofNat, Nat.mod_eq_of_lt (by omega)]
  · rw [BitVec.toNat_ofNat]
    omega

theorem toInt_rounded_of_neg {q : Nat} {exact up : Bool} (h : roundedMagnitude q exact up ≤ 32768) :
    (rounded true q exact up).toInt = -(roundedMagnitude q exact up : Int) := by
  rw [rounded_eq, if_pos rfl, BitVec.toInt_ofInt]
  exact Int.bmod_eq_of_le_mul_two (by omega) (by omega)

/-- A sample's value is its magnitude, with its sign. -/
theorem toInt_eq_magnitude (x : BitVec 16) : x.toInt = if x.msb then -(magnitude x : Int) else (magnitude x : Int) := by
  have hmsb := BitVec.msb_eq_toInt (x := x)
  unfold magnitude
  by_cases hneg : x.toInt < 0
  · rw [if_pos (hmsb.trans (decide_eq_true hneg))]
    omega
  · rw [if_neg (by rw [hmsb, decide_eq_false hneg]; exact Bool.false_ne_true)]
    omega

theorem magnitude_le (x : BitVec 16) : magnitude x ≤ 32768 ∧ (x.msb = false → magnitude x ≤ 32767) := by
  have hlt := BitVec.toInt_lt (x := x)
  have hle := BitVec.le_toInt (x := x)
  have hvalue := toInt_eq_magnitude x
  refine ⟨?_, fun h => ?_⟩
  · unfold magnitude
    omega
  · rw [h, if_neg Bool.false_ne_true] at hvalue
    omega

/-- A sample that is rounded to no more than its own magnitude keeps its sign. -/
theorem toInt_rounded {x : BitVec 16} {q : Nat} {exact up : Bool} (h : roundedMagnitude q exact up ≤ magnitude x) :
    (rounded x.msb q exact up).toInt = if x.msb then -(roundedMagnitude q exact up : Int) else (roundedMagnitude q exact up : Int) := by
  obtain ⟨hle, hpos⟩ := magnitude_le x
  cases hmsb : x.msb with
  | true => exact toInt_rounded_of_neg (h.trans hle)
  | false => exact toInt_rounded_of_pos (h.trans (hpos hmsb))

theorem natAbs_rounded {x : BitVec 16} {q : Nat} {exact up : Bool} (h : roundedMagnitude q exact up ≤ magnitude x) :
    (rounded x.msb q exact up).toInt.natAbs = roundedMagnitude q exact up := by
  rw [toInt_rounded h]
  split <;> omega

/-! ### The fade (R132) -/

theorem fade_rounded (t : Nat) (x : BitVec 16) (ht : t ≤ 300) :
    ∃ n : Nat, (fadeSample t x).toInt = (if x.msb then -(n : Int) else (n : Int)) ∧ n ≤ magnitude x
      ∧ (300 ∣ magnitude x * (300 - t) → n * 300 = magnitude x * (300 - t))
      ∧ magnitude x * (300 - t) < n * 300 + 300 ∧ n * 300 < magnitude x * (300 - t) + 300 := by
  obtain ⟨p, hp⟩ : ∃ p, p = magnitude x * (300 - t) := ⟨_, rfl⟩
  have hple : p ≤ magnitude x * 300 := by
    rw [hp]
    exact Nat.mul_le_mul_left _ (by omega)
  have hfade : fadeSample t x = rounded x.msb (p / 300) (decide (p % 300 = 0)) (Config.fadeRoundsUp t x) := by
    rw [hp]
    rfl
  have hlow := le_roundedMagnitude (p / 300) (decide (p % 300 = 0)) (Config.fadeRoundsUp t x)
  have hhigh := roundedMagnitude_le (p / 300) (decide (p % 300 = 0)) (Config.fadeRoundsUp t x)
  have hexact (h : p % 300 = 0) : roundedMagnitude (p / 300) (decide (p % 300 = 0)) (Config.fadeRoundsUp t x) = p / 300 := by
    rw [decide_eq_true h]
    rfl
  rw [hfade, ← hp]
  generalize hn : roundedMagnitude (p / 300) (decide (p % 300 = 0)) (Config.fadeRoundsUp t x) = n at hlow hhigh hexact
  have hle : n ≤ magnitude x := by
    by_cases h : p % 300 = 0
    · have := hexact h
      omega
    · omega
  refine ⟨n, ?_, hle, fun h => ?_, ?_, ?_⟩
  · rw [toInt_rounded (by rw [hn]; exact hle), hn]
  · have := hexact (Nat.mod_eq_zero_of_dvd h)
    omega
  · omega
  · by_cases h : p % 300 = 0
    · have := hexact h
      omega
    · omega

theorem fade_bounds (t : Nat) (x : BitVec 16) (ht : t ≤ 300) :
    (300 ∣ x.toInt * (300 - t) → (fadeSample t x).toInt * 300 = x.toInt * (300 - t))
      ∧ (x.toInt * (300 - t) - 300 < (fadeSample t x).toInt * 300 ∧ (fadeSample t x).toInt * 300 < x.toInt * (300 - t) + 300) := by
  obtain ⟨n, hfade, -, hexact, hlow, hhigh⟩ := fade_rounded t x ht
  have hvalue := toInt_eq_magnitude x
  have hsub : (300 - t : Int) = ((300 - t : Nat) : Int) := by omega
  have hproduct : x.toInt * (300 - t) = if x.msb then -((magnitude x * (300 - t) : Nat) : Int) else ((magnitude x * (300 - t) : Nat) : Int) := by
    rw [hvalue, hsub, Nat.cast_mul]
    split
    · exact Int.neg_mul _ _
    · rfl
  rw [hproduct, hfade]
  generalize magnitude x * (300 - t) = p at hexact hlow hhigh
  split
  · refine ⟨fun h => ?_, by omega, by omega⟩
    have := hexact (by omega)
    omega
  · refine ⟨fun h => ?_, by omega, by omega⟩
    have := hexact (by omega)
    omega

/-! ### The gain code (R140) -/

theorem attenuateBits_spec (g m k y : Nat) (hy : y ^ 80 * 10 ^ g ≤ m ^ 80) (hnext : m ^ 80 < (y + 2 ^ k) ^ 80 * 10 ^ g) :
    attenuateBits g m k y ^ 80 * 10 ^ g ≤ m ^ 80 ∧ m ^ 80 < (attenuateBits g m k y + 1) ^ 80 * 10 ^ g := by
  induction k generalizing y with
  | zero => exact ⟨hy, hnext⟩
  | succ k ih =>
    unfold attenuateBits
    by_cases h : (y + 2 ^ k) ^ 80 * 10 ^ g ≤ m ^ 80
    · rw [if_pos (show attenuatedTo g m (y + 2 ^ k) = true from decide_eq_true h)]
      refine ih _ h ?_
      rwa [Nat.add_assoc, ← Nat.two_mul, ← Nat.pow_succ']
    · rw [if_neg (by rw [attenuatedTo, decide_eq_false h]; exact Bool.false_ne_true)]
      exact ih _ hy (Nat.lt_of_not_le h)

/-- The greatest magnitude that a gain code leaves of a magnitude. -/
def attenuated (g m : Nat) : Nat := attenuateBits g m 16 0

theorem attenuated_spec {g m : Nat} (h : m ≤ 32768) :
    attenuated g m ^ 80 * 10 ^ g ≤ m ^ 80 ∧ m ^ 80 < (attenuated g m + 1) ^ 80 * 10 ^ g := by
  refine attenuateBits_spec g m 16 0 ?_ ?_
  · rw [Nat.zero_pow (by decide), Nat.zero_mul]
    exact Nat.zero_le _
  · have hpow : m ^ 80 < (0 + 2 ^ 16) ^ 80 := Nat.pow_lt_pow_left (by omega) (by decide)
    exact hpow.trans_le (Nat.le_mul_of_pos_right _ (Nat.pow_pos (by decide)))

theorem lt_of_pow_scaled {a b : Nat} {g : Nat} (h : a ^ 80 * 10 ^ g < b ^ 80 * 10 ^ g) : a < b :=
  lt_of_pow_lt_pow_left₀ 80 (Nat.zero_le b) (Nat.lt_of_mul_lt_mul_right h)

/-- What a gain code leaves of a sample, before it is rounded up or not. -/
theorem attenuate_rounded (g : Nat) (x : BitVec 16) :
    ∃ n : Nat, (attenuateSample g x).toInt = (if x.msb then -(n : Int) else (n : Int)) ∧ attenuated g (magnitude x) ≤ n
      ∧ n ≤ attenuated g (magnitude x) + 1
      ∧ (attenuated g (magnitude x) ^ 80 * 10 ^ g = magnitude x ^ 80 → n = attenuated g (magnitude x)) := by
  obtain ⟨hle, hlt⟩ := attenuated_spec (g := g) (magnitude_le x).1
  have hattenuate : attenuateSample g x = rounded x.msb (attenuated g (magnitude x))
    (decide (attenuated g (magnitude x) ^ 80 * 10 ^ g = magnitude x ^ 80)) (Config.attenuateRoundsUp g x) := rfl
  rw [hattenuate]
  generalize attenuated g (magnitude x) = q at hle hlt
  have hlow := le_roundedMagnitude q (decide (q ^ 80 * 10 ^ g = magnitude x ^ 80)) (Config.attenuateRoundsUp g x)
  have hhigh := roundedMagnitude_le q (decide (q ^ 80 * 10 ^ g = magnitude x ^ 80)) (Config.attenuateRoundsUp g x)
  have hexact (h : q ^ 80 * 10 ^ g = magnitude x ^ 80) :
      roundedMagnitude q (decide (q ^ 80 * 10 ^ g = magnitude x ^ 80)) (Config.attenuateRoundsUp g x) = q := by
    rw [decide_eq_true h]
    rfl
  have hself : q ^ 80 ≤ q ^ 80 * 10 ^ g := Nat.le_mul_of_pos_right _ (Nat.pow_pos (by decide))
  have hqm : q ≤ magnitude x := (Nat.pow_le_pow_iff_left (by decide)).mp (hself.trans hle)
  have hinexact (h : ¬q ^ 80 * 10 ^ g = magnitude x ^ 80) : q < magnitude x := by
    refine lt_of_le_of_ne hqm fun heq => h ?_
    rw [heq] at hself hle ⊢
    exact Nat.le_antisymm hle hself
  generalize hn : roundedMagnitude q (decide (q ^ 80 * 10 ^ g = magnitude x ^ 80)) (Config.attenuateRoundsUp g x) = n at hlow hhigh hexact
  have hnm : n ≤ magnitude x := by
    by_cases h : q ^ 80 * 10 ^ g = magnitude x ^ 80
    · have := hexact h
      omega
    · have := hinexact h
      omega
  exact ⟨n, by rw [toInt_rounded (by rw [hn]; exact hnm), hn], hlow, hhigh, hexact⟩

theorem natAbs_signed (b : Bool) (n : Nat) : (if b then -(n : Int) else (n : Int)).natAbs = n := by
  split
  · rw [Int.natAbs_neg, Int.natAbs_natCast]
  · exact Int.natAbs_natCast n

theorem attenuate_bounds (g : Nat) (x : BitVec 16) :
    (∀ q : Int, q ^ 80 * 10 ^ g = x.toInt ^ 80 → (0 ≤ q ↔ 0 ≤ x.toInt) → (attenuateSample g x).toInt = q)
      ∧ (0 ≤ x.toInt → 0 ≤ (attenuateSample g x).toInt) ∧ (x.toInt ≤ 0 → (attenuateSample g x).toInt ≤ 0)
      ∧ ((attenuateSample g x).toInt.natAbs - 1) ^ 80 * 10 ^ g ≤ x.toInt.natAbs ^ 80
      ∧ x.toInt.natAbs ^ 80 < ((attenuateSample g x).toInt.natAbs + 1) ^ 80 * 10 ^ g := by
  obtain ⟨n, hvalue, hlow, hhigh, hexact⟩ := attenuate_rounded g x
  obtain ⟨hle, hlt⟩ := attenuated_spec (g := g) (magnitude_le x).1
  have hx := toInt_eq_magnitude x
  have hzero : magnitude x = 0 → n = 0 := by
    intro h
    have hq : attenuated g (magnitude x) ^ 80 * 10 ^ g = magnitude x ^ 80 := by
      rw [h] at hle ⊢
      rw [Nat.zero_pow (by decide)] at hle ⊢
      exact Nat.le_zero.mp hle
    have hn := hexact hq
    rw [h, Nat.zero_pow (by decide)] at hq
    obtain hpow | hten := Nat.mul_eq_zero.mp hq
    · rw [hn, h]
      exact Nat.pow_eq_zero.mp hpow |>.1
    · exact absurd hten (Nat.pow_pos (by decide)).ne'
  rw [hvalue, natAbs_signed]
  generalize attenuated g (magnitude x) = m at hlow hhigh hexact hle hlt
  refine ⟨fun q hq hsign => ?_, fun hpos => ?_, fun hneg => ?_, ?_, ?_⟩
  · have hqabs : q.natAbs ^ 80 * 10 ^ g = magnitude x ^ 80 := by
      have habs := congrArg Int.natAbs hq
      rw [Int.natAbs_mul, Int.natAbs_pow, Int.natAbs_pow, Int.natAbs_pow] at habs
      exact habs
    have hqle : q.natAbs ≤ m := Nat.le_of_lt_succ (lt_of_pow_scaled (g := g) (hqabs.trans_lt hlt))
    have hmle : m ≤ q.natAbs := by
      by_contra hgt
      have hpow : q.natAbs ^ 80 < m ^ 80 := Nat.pow_lt_pow_left (Nat.lt_of_not_le hgt) (by decide)
      have hscaled := Nat.mul_lt_mul_of_pos_right hpow (Nat.pow_pos (n := g) (show 0 < 10 by decide))
      exact absurd (hqabs ▸ hscaled) (Nat.not_lt.mpr hle)
    have hnq : n = q.natAbs := by
      rw [Nat.le_antisymm hqle hmle]
      exact hexact ((Nat.le_antisymm hqle hmle) ▸ hqabs)
    cases hmsb : x.msb with
    | true =>
      rw [hmsb, if_pos rfl] at hx
      rw [if_pos rfl]
      omega
    | false =>
      rw [hmsb, if_neg Bool.false_ne_true] at hx
      rw [if_neg Bool.false_ne_true]
      omega
  · cases hmsb : x.msb with
    | true =>
      rw [hmsb, if_pos rfl] at hx
      have := hzero (by omega)
      rw [if_pos rfl]
      omega
    | false =>
      rw [if_neg Bool.false_ne_true]
      omega
  · cases hmsb : x.msb with
    | true =>
      rw [if_pos rfl]
      omega
    | false =>
      rw [hmsb, if_neg Bool.false_ne_true] at hx
      have := hzero (by omega)
      rw [if_neg Bool.false_ne_true]
      omega
  · exact (Nat.mul_le_mul_right _ (Nat.pow_le_pow_left (by omega) 80)).trans hle
  · exact hlt.trans_le (Nat.mul_le_mul_right _ (Nat.pow_le_pow_left (by omega) 80))

/-! ### The alert tone (R157) -/

/-- The whole part of a full-scale sine's magnitude at k eightieths of a turn. -/
def sineMagnitude (k : Nat) : Nat := quarterSine.toList.getD (quarterOf k) 0

/-- The sine needs no rounding: it is 0 or at a height. -/
def sineExact (k : Nat) : Bool := decide (quarterOf k = 0 ∨ quarterOf k = 20)

theorem sineSample_eq (k : Nat) :
    sineSample k = rounded (decide (40 < k % 80)) (sineMagnitude k) (sineExact k) (Config.toneRoundsUp (k % 80)) := rfl

theorem quarterOf_mod (k : Nat) : quarterOf (k % 80) = quarterOf k := by
  unfold quarterOf
  rw [Nat.mod_mod_of_dvd k (by decide)]

theorem sineSample_mod (k : Nat) : sineSample (k % 80) = sineSample k := by
  rw [sineSample_eq, sineSample_eq, sineMagnitude, sineMagnitude, sineExact, sineExact, quarterOf_mod, Nat.mod_mod]

theorem sineMagnitude_le : ∀ k < 80, sineMagnitude k ≤ 32767 ∧ (sineExact k = false → 0 < sineMagnitude k ∧ sineMagnitude k < 32767) := by
  decide

theorem sineMagnitude_heights : (∀ k < 80, k = 0 ∨ k = 40 → sineMagnitude k = 0 ∧ sineExact k = true)
    ∧ ∀ k < 80, k = 20 ∨ k = 60 → sineMagnitude k = 32767 ∧ sineExact k = true := by decide

theorem sineMagnitude_pos : ∀ k < 80, k ≠ 0 → k ≠ 40 → 0 < sineMagnitude k := by decide

theorem sineMagnitude_circle : ∀ k < 80,
    sineMagnitude k ^ 2 + sineMagnitude ((k + 20) % 80) ^ 2 ≤ 32767 ^ 2
      ∧ 32767 ^ 2 ≤ (sineMagnitude k + 1) ^ 2 + (sineMagnitude ((k + 20) % 80) + 1) ^ 2 := by decide

/-- A sample of the sine: its sign, and a magnitude that is at most one above the whole part. -/
theorem sine_rounded {k : Nat} (h : k < 80) :
    ∃ n : Nat, (sineSample k).toInt = (if 40 < k then -(n : Int) else (n : Int)) ∧ sineMagnitude k ≤ n ∧ n ≤ sineMagnitude k + 1
      ∧ (sineExact k = true → n = sineMagnitude k) := by
  obtain ⟨hle, hinexact⟩ := sineMagnitude_le k h
  have hlow := le_roundedMagnitude (sineMagnitude k) (sineExact k) (Config.toneRoundsUp (k % 80))
  have hhigh := roundedMagnitude_le (sineMagnitude k) (sineExact k) (Config.toneRoundsUp (k % 80))
  have hexact (hk : sineExact k = true) :
      roundedMagnitude (sineMagnitude k) (sineExact k) (Config.toneRoundsUp (k % 80)) = sineMagnitude k := by rw [hk]; rfl
  have hbound : roundedMagnitude (sineMagnitude k) (sineExact k) (Config.toneRoundsUp (k % 80)) ≤ 32767 := by
    cases hk : sineExact k with
    | true =>
      rw [roundedMagnitude_of_exact]
      exact hle
    | false =>
      rw [hk] at hhigh
      have := (hinexact hk).2
      omega
  refine ⟨_, ?_, hlow, hhigh, hexact⟩
  rw [sineSample_eq]
  by_cases hneg : 40 < k
  · rw [if_pos hneg, decide_eq_true (by rwa [Nat.mod_eq_of_lt h])]
    exact toInt_rounded_of_neg (by omega)
  · rw [if_neg hneg, decide_eq_false (by rwa [Nat.mod_eq_of_lt h])]
    exact toInt_rounded_of_pos hbound

theorem natAbs_signed_prop (p : Prop) [Decidable p] (n : Nat) : (if p then -(n : Int) else (n : Int)).natAbs = n := by
  split
  · rw [Int.natAbs_neg, Int.natAbs_natCast]
  · exact Int.natAbs_natCast n

theorem sine_shape {k : Nat} (h : k < 80) :
    (k = 0 ∨ k = 40 → (sineSample k).toInt = 0) ∧ (k = 20 → (sineSample k).toInt = 32767) ∧ (k = 60 → (sineSample k).toInt = -32767)
      ∧ (0 < k → k < 40 → 0 < (sineSample k).toInt) ∧ (40 < k → (sineSample k).toInt < 0) := by
  obtain ⟨n, hvalue, hlow, -, hexact⟩ := sine_rounded h
  obtain ⟨hzero, hheight⟩ := sineMagnitude_heights
  rw [hvalue]
  refine ⟨fun hk => ?_, fun hk => ?_, fun hk => ?_, fun hpos hk => ?_, fun hk => ?_⟩
  · obtain ⟨hmagnitude, hex⟩ := hzero k h hk
    have := hexact hex
    rw [if_neg (by omega)]
    omega
  · obtain ⟨hmagnitude, hex⟩ := hheight k h (.inl hk)
    have := hexact hex
    rw [if_neg (by omega)]
    omega
  · obtain ⟨hmagnitude, hex⟩ := hheight k h (.inr hk)
    have := hexact hex
    rw [if_pos (by omega)]
    omega
  · have := sineMagnitude_pos k h (by omega) (by omega)
    rw [if_neg (by omega)]
    omega
  · have := sineMagnitude_pos k h (by omega) (by omega)
    rw [if_pos hk]
    omega

theorem sine_circle {k : Nat} (h : k < 80) :
    ((sineSample k).toInt.natAbs - 1) ^ 2 + ((sineSample ((k + 20) % 80)).toInt.natAbs - 1) ^ 2 ≤ 32767 ^ 2
      ∧ 32767 ^ 2 ≤ ((sineSample k).toInt.natAbs + 1) ^ 2 + ((sineSample ((k + 20) % 80)).toInt.natAbs + 1) ^ 2 := by
  obtain ⟨n, hvalue, hlow, hhigh, -⟩ := sine_rounded h
  obtain ⟨m, hvalue', hlow', hhigh', -⟩ := sine_rounded (k := (k + 20) % 80) (Nat.mod_lt _ (by decide))
  obtain ⟨hle, hge⟩ := sineMagnitude_circle k h
  rw [hvalue, hvalue', natAbs_signed_prop, natAbs_signed_prop]
  refine ⟨(Nat.add_le_add (Nat.pow_le_pow_left ?_ 2) (Nat.pow_le_pow_left ?_ 2)).trans hle,
    hge.trans (Nat.add_le_add (Nat.pow_le_pow_left ?_ 2) (Nat.pow_le_pow_left ?_ 2))⟩
  all_goals omega

/-- Where a tone's sample lies on the sine, and a quarter turn and a period on. -/
theorem toneSample_eq {hertz n k quarter : Nat}
    (h : (hertz = 800 ∧ k = 4 * n % 80 ∧ quarter = 5) ∨ (hertz = 600 ∧ k = 3 * n % 80 ∧ quarter = 60)) :
    k < 80 ∧ toneSample hertz n = sineSample k ∧ toneSample hertz (n + quarter) = sineSample ((k + 20) % 80)
      ∧ toneSample hertz (n + 80) = sineSample k := by
  have hon {a b : Nat} (hab : a % 80 = b % 80) : sineSample a = sineSample b := by rw [← sineSample_mod, hab, sineSample_mod]
  unfold toneSample
  obtain ⟨rfl, rfl, rfl⟩ | ⟨rfl, rfl, rfl⟩ := h
  · exact ⟨by omega, hon (by omega), hon (by omega), hon (by omega)⟩
  · exact ⟨by omega, hon (by omega), hon (by omega), hon (by omega)⟩

/-! ### Enables and audio of a zone (R140) -/

theorem powered_iff (i : ChanInst) :
    (i.state = .claiming ∨ (i.state = .tail ∧ i.silentTail = true) → i.powered = false)
      ∧ (i.state = .leadIn ∨ i.state = .speaking ∨ i.state = .live ∨ (i.state = .tail ∧ i.silentTail = false) → i.powered = true) := by
  unfold ChanInst.powered
  refine ⟨fun h => ?_, fun h => ?_⟩
  · obtain hstate | ⟨hstate, hsilent⟩ := h
    · rw [hstate]
    · rw [hstate, hsilent]
      rfl
  · obtain hstate | hstate | hstate | ⟨hstate, hsilent⟩ := h
    · rw [hstate]
    · rw [hstate]
    · rw [hstate]
    · rw [hstate, hsilent]
      rfl

section
variable {s : State} {z : ZoneId}

theorem ampEnable_of_held {c : ChanId} {i : ChanInst} (hstate : (s.zone z).state = .held c) (hchan : s.chan c = some i) :
    s.ampEnable z = i.powered := by
  simp only [State.ampEnable, hstate, hchan, Option.any_some]

theorem zoneAudio_of_held {c : ChanId} {i : ChanInst} (hstate : (s.zone z).state = .held c) (hchan : s.chan c = some i) :
    s.zoneAudio z = if i.powered then
      { sound := i.sound s.now, fade := i.tailEnd.map fun e => 300 - (e - s.now), gain := (s.zone z).gain.getD 0 }
    else { sound := .silence, fade := none, gain := 0 } := by
  simp only [State.zoneAudio, hstate, hchan]

theorem audio_silent (h : (s.zone z).state = .idle ∨ (s.zone z).state = .off) : s.ampEnable z = false ∧ (s.zoneAudio z).sound = .silence := by
  unfold State.ampEnable State.zoneAudio
  obtain hstate | hstate := h
  · rw [hstate]
    exact ⟨rfl, rfl⟩
  · rw [hstate]
    exact ⟨rfl, rfl⟩

theorem audio_test (h : (s.zone z).state = .test) : s.ampEnable z = true ∧ (s.zoneAudio z).sound = .pilot := by
  unfold State.ampEnable State.zoneAudio
  rw [h]
  exact ⟨rfl, rfl⟩

end

theorem zone_audio (s : State) (z : ZoneId) {c : ChanId} {i : ChanInst} (hstate : (s.zone z).state = .held c) (hchan : s.chan c = some i) :
    (i.state = .claiming ∨ (i.state = .tail ∧ i.silentTail = true) → s.ampEnable z = false ∧ (s.zoneAudio z).sound = .silence)
      ∧ (i.state = .leadIn ∨ i.state = .speaking ∨ i.state = .live ∨ (i.state = .tail ∧ i.silentTail = false) →
        s.ampEnable z = true ∧ s.zoneAudio z = { sound := i.sound s.now, fade := (s.zoneAudio z).fade, gain := (s.zone z).gain.getD 0 }
          ∧ (i.tailEnd = none → (s.zoneAudio z).fade = none)
          ∧ ∀ e, i.tailEnd = some e → (s.zoneAudio z).fade = some (300 - (e - s.now))) := by
  obtain ⟨hoff, hon⟩ := powered_iff i
  rw [ampEnable_of_held hstate hchan, zoneAudio_of_held hstate hchan]
  refine ⟨fun h => ?_, fun h => ?_⟩
  · rw [hoff h]
    exact ⟨rfl, rfl⟩
  · rw [hon h, if_pos rfl]
    refine ⟨rfl, rfl, fun hnone => ?_, fun e he => ?_⟩
    · rw [hnone]
      rfl
    · rw [he]
      rfl

theorem sound_of_tone {i : ChanInst} {now e : Nat} (h : i.evac.bind EvacCycle.toneEnd = some e) (hbefore : now < e) :
    i.sound now = .tone (if (10000 - (e - now)) / 1000 % 2 = 0 then 800 else 600) ((10000 - (e - now)) % 1000) := by
  unfold ChanInst.sound
  rw [h]
  exact if_pos hbefore

/-! ### Targets and gain codes (R149 to R151) -/

theorem takesDefault_iff (s : State) (z : ZoneId) : s.takesDefault z = true ↔
    (s.cfg.zones[z]).sensor = false ∨ (s.level z).sensorFault ≠ .none ∨ (s.level z).lastUpdate + s.cfg.staleLimit * 1000 < s.now := by
  unfold State.takesDefault State.stale
  rw [Bool.or_eq_true, Bool.or_eq_true, Bool.not_eq_true', decide_eq_true_eq, decide_eq_true_eq, or_assoc]
  exact or_congr_right (or_congr_right (by omega))

theorem target_zero (s : State) (z : ZoneId) : s.target z 0 = (s.cfg.zones[z]).zoneMax := rfl

theorem target_of_class {s : State} {z : ZoneId} {cls : Nat} (h : 1 ≤ cls) : s.target z cls =
    clampTo (s.cfg.zones[z]).zoneMin (s.effMax z)
      ((if (s.cfg.zones[z]).sensor = false ∨ (s.level z).sensorFault ≠ .none ∨ (s.level z).lastUpdate + s.cfg.staleLimit * 1000 < s.now
        then (s.cfg.zones[z]).defaultAmbient else (s.level z).ambient) + s.cfg.margin.toList.getD (cls - 1) 0) := by
  have hdefault : (if s.takesDefault z = true then (s.cfg.zones[z]).defaultAmbient else (s.level z).ambient) =
      if (s.cfg.zones[z]).sensor = false ∨ (s.level z).sensorFault ≠ .none ∨ (s.level z).lastUpdate + s.cfg.staleLimit * 1000 < s.now
        then (s.cfg.zones[z]).defaultAmbient else (s.level z).ambient := if_congr (takesDefault_iff s z) rfl rfl
  unfold State.target
  dsimp only
  rw [if_neg (by omega), hdefault]
  rfl

theorem clampTo_bounds {lo hi : Nat} (h : lo ≤ hi) (a : Nat) :
    lo ≤ clampTo lo hi a ∧ clampTo lo hi a ≤ hi ∧ (lo ≤ a → a ≤ hi → clampTo lo hi a = a) ∧ (a < lo → clampTo lo hi a = lo)
      ∧ (hi < a → clampTo lo hi a = hi) := by
  unfold clampTo
  omega

theorem zoneMin_le_effMax {s : State} {z : ZoneId} (h : (s.cfg.zones[z]).zoneMin ≤ (s.cfg.zones[z]).zoneMax) :
    (s.cfg.zones[z]).zoneMin ≤ s.effMax z := by
  unfold State.effMax
  dsimp only
  split
  · exact le_max_left _ _
  · exact h

theorem gainFor_le (s : State) (z : ZoneId) (cls : Nat) : s.gainFor z cls ≤ 255 := by
  unfold State.gainFor gainCode
  split <;> omega

theorem gainFor_of_linked {s : State} (h : s.startup.phase ≠ .limited) (z : ZoneId) (cls : Nat) :
    s.gainFor z cls = min ((s.cfg.zones[z]).zoneFull - s.target z cls) 255 := if_neg h

theorem gain_codes {s : State} (z : ZoneId) (cls : Nat) (h : s.startup.phase ≠ .limited) :
    ((s.cfg.zones[z]).zoneFull ≤ s.target z cls → s.gainFor z cls = 0)
      ∧ (s.target z cls ≤ (s.cfg.zones[z]).zoneFull → (s.cfg.zones[z]).zoneFull ≤ s.target z cls + 255 →
        s.gainFor z cls + s.target z cls = (s.cfg.zones[z]).zoneFull)
      ∧ (s.target z cls + 255 < (s.cfg.zones[z]).zoneFull → s.gainFor z cls = 255)
      ∧ (s.limitedFlag [z] cls = true ↔ (s.cfg.zones[z]).zoneFull < s.target z cls)
      ∧ (s.defaultFlag [z] cls = true ↔ cls ≠ 0 ∧ ((s.cfg.zones[z]).sensor = false ∨ (s.level z).sensorFault ≠ .none
        ∨ (s.level z).lastUpdate + s.cfg.staleLimit * 1000 < s.now)) := by
  have hlimited : s.limitedFlag [z] cls = true ↔ (s.cfg.zones[z]).zoneFull < s.target z cls := by
    unfold State.limitedFlag
    simp only [List.any_cons, List.any_nil, Bool.or_false, Bool.and_eq_true, decide_eq_true_eq]
    exact and_iff_right h
  have hdefault : s.defaultFlag [z] cls = true ↔ cls ≠ 0 ∧ ((s.cfg.zones[z]).sensor = false ∨ (s.level z).sensorFault ≠ .none
      ∨ (s.level z).lastUpdate + s.cfg.staleLimit * 1000 < s.now) := by
    unfold State.defaultFlag
    simp only [List.any_cons, List.any_nil, Bool.or_false, Bool.and_eq_true, decide_eq_true_eq]
    rw [takesDefault_iff, and_assoc, and_congr_right_iff]
    exact fun _ => and_iff_right h
  rw [gainFor_of_linked h]
  exact ⟨fun _ => by omega, fun _ _ => by omega, fun _ => by omega, hlimited, hdefault⟩

/-- Settles O49: each output by the lemma about it; a rounding moves a magnitude up by one at most, and an exact one not at all. -/
theorem zonesSound : Obligations.ZonesSound := by
  refine ⟨fun s z => ⟨audio_silent, audio_test, fun c i hstate hchan => zone_audio s z hstate hchan⟩, fun t x ht => fade_bounds t x ht,
    attenuate_bounds, fun a x hfade hgain => ?_, fun i now e h hbefore _ => sound_of_tone h hbefore, fun hertz n k quarter h => ?_,
    fun s z hertz ms k x hsound hfade => ?_, fun s z cls hrange => ⟨fun hzero => ?_, fun hone _ a ha top htop => ?_, gainFor_le s z cls,
      gain_codes z cls, fun h => if_pos h⟩⟩
  · simp only [ZoneAudio.out, hfade, hgain, if_true]
  · obtain ⟨hk, hsample, hquarter, hperiod⟩ := toneSample_eq h
    obtain ⟨hzero, hup, hdown, hpos, hneg⟩ := sine_shape hk
    rw [hsample, hquarter, hperiod]
    exact ⟨hzero, hup, hdown, hpos, hneg, sine_circle hk, rfl⟩
  · simp only [State.zoneSample, ZoneAudio.out, hsound, hfade, Sound.sample]
  · rw [hzero, target_zero]
  · have heffMax : s.effMax z = top := by rw [htop]; rfl
    rw [target_of_class hone, heffMax, ← ha]
    exact clampTo_bounds (heffMax ▸ zoneMin_le_effMax hrange) a

end Sys2Proof.Proofs.AudioRules
end

section
/-! The calls' frames in the transmit queue: what leaves them alone, and when one offered is queued (R11, R12, R40, R47, R51 to R53). -/

namespace Sys2Proof.Proofs.CallFrames

open Sys2Proof.Machine
open Sys2Proof.Proofs.LiveClose Sys2Proof.Proofs.Faults Sys2Proof.Proofs.Upkeep Sys2Proof.Proofs.Uphold Sys2Proof.Proofs.CallRules
open Sys2Proof.Proofs.Commands Sys2Proof.Proofs.Steps Sys2Proof.Proofs.Reports Sys2Proof.Proofs.Starting Sys2Proof.Proofs.Transmit
open Sys2Proof.Proofs.LineRules Sys2Proof.Proofs.FaultRules Sys2Proof.Proofs.QueueRules Sys2Proof.Proofs.GroupRules

/-! ### The calls' frames in a list -/

/-- The kinds of frame that the call table sends (R40, R47, R51 to R53). -/
def callKind : FrameKind → Bool
  | .callHandover | .callAdopt | .callRefuse => true
  | .time | .callPost | .callAmend | .callCancel | .callMove | .trainEvent | .announce | .announceStop | .liveOpen | .liveKeep | .liveClose
  | .announceResult | .evacStart | .evacStop | .claim | .release | .faultReport | .faultAck | .testStep | .statusQuery | .nodeStatus => false

/-- The calls' frames of a queue that R12 does not evict. -/
def standing (q : List TxFrame) : List TxFrame := q.filter fun f => callKind f.kind && !decide (f.access = 3)

/-- From `q` to `p` the calls' frames that stand are the same, and no other call frame is new. -/
structure SameCalls (q p : List TxFrame) : Prop where
  standing : standing p = standing q
  fresh : ∀ f ∈ p, callKind f.kind = true → f ∈ q

theorem SameCalls.refl (q : List TxFrame) : SameCalls q q := ⟨rfl, fun _ h _ => h⟩

theorem SameCalls.trans {p q r : List TxFrame} (h : SameCalls p q) (k : SameCalls q r) : SameCalls p r :=
  ⟨k.standing.trans h.standing, fun f hf hkind => h.fresh f (k.fresh f hf hkind) hkind⟩

theorem filter_insertFrame {p : TxFrame → Bool} {f : TxFrame} (hf : p f = false) (q : List TxFrame) :
    (insertFrame f q).filter p = q.filter p := by
  induction q with
  | nil => simp [insertFrame, hf]
  | cons g rest ih =>
    unfold insertFrame
    split
    · simp only [List.filter_cons, ih]
    · simp [List.filter_cons, hf]

theorem sameCalls_insertFrame {f : TxFrame} (hf : callKind f.kind = false) (q : List TxFrame) : SameCalls q (insertFrame f q) where
  standing := filter_insertFrame (by simp [hf]) q
  fresh g hg hkind := by
    obtain rfl | hg := mem_insertFrame.mp hg
    · rw [hf] at hkind
      cases hkind
    · exact hg

theorem filter_eraseP {p r : TxFrame → Bool} (h : ∀ f, p f = true → r f = false) (q : List TxFrame) :
    (q.eraseP p).filter r = q.filter r := by
  induction q with
  | nil => rfl
  | cons g rest ih =>
    rw [List.eraseP_cons]
    cases hg : p g with
    | true => simp [h g hg]
    | false => simp [List.filter_cons, ih]

theorem sameCalls_eraseP {p : TxFrame → Bool} (h : ∀ f, p f = true → callKind f.kind = true → f.access = 3) (q : List TxFrame) :
    SameCalls q (q.eraseP p) where
  standing := filter_eraseP (fun f hf => by
    cases hkind : callKind f.kind with
    | true => simp [h f hf hkind]
    | false => rfl) q
  fresh _ hf _ := List.mem_of_mem_eraseP hf

theorem sameCalls_map {g : TxFrame → TxFrame} (hsame : ∀ f, callKind f.kind = true → g f = f) (hkind : ∀ f, (g f).kind = f.kind)
    (q : List TxFrame) : SameCalls q (q.map g) where
  standing := by
    induction q with
    | nil => rfl
    | cons f rest ih =>
      unfold CallFrames.standing at ih ⊢
      cases hf : callKind f.kind with
      | true => simp only [List.map_cons, List.filter_cons, hsame f hf, ih]
      | false => simp [hkind, hf, ih]
  fresh f hf hcall := by
    obtain ⟨x, hx, rfl⟩ := List.mem_map.mp hf
    rw [hkind] at hcall
    rwa [hsame x hcall]

/-! ### The frames that R12 does not evict -/

/-- How many frames of a queue R12 does not evict. -/
def solid (q : List TxFrame) : Nat := (q.filter fun f => !f.evictable).length

theorem solid_le (q : List TxFrame) : solid q ≤ q.length := List.length_filter_le _ _

theorem solid_insertFrame (f : TxFrame) (q : List TxFrame) : solid (insertFrame f q) = solid q + if f.evictable then 0 else 1 := by
  have hperm := ((insertFrame_perm f q).filter fun g => !g.evictable).length_eq
  unfold solid
  rw [hperm]
  cases hf : f.evictable <;> simp [hf]

theorem solid_eraseP_evictable (q : List TxFrame) : solid (q.eraseP TxFrame.evictable) = solid q :=
  congrArg List.length (filter_eraseP (fun f hf => by simp [hf]) q)

theorem solid_eraseP_le (p : TxFrame → Bool) (q : List TxFrame) : solid (q.eraseP p) ≤ solid q :=
  (List.Sublist.filter _ List.eraseP_sublist).length_le

theorem solid_map {g : TxFrame → TxFrame} (h : ∀ f, (g f).evictable = f.evictable) (q : List TxFrame) : solid (q.map g) = solid q := by
  unfold solid
  rw [List.filter_map, List.length_map]
  exact congrArg (fun p => (q.filter p).length) (funext fun f => congrArg not (h f))

theorem any_evictable_of_solid {q : List TxFrame} (h : solid q < q.length) : q.any TxFrame.evictable = true := by
  by_contra hnone
  rw [Bool.not_eq_true, List.any_eq_false] at hnone
  have hall : solid q = q.length := congrArg List.length (List.filter_eq_self.mpr fun f hf => by simpa using hnone f hf)
  omega

/-! ### What leaves the calls' frames alone -/

/-- From `s` to `t` no call frame was queued, and CALL_REFUSED did not count. -/
structure Aside (s t : State) : Prop where
  refused : t.counters[(13 : Fin 16)] = s.counters[(13 : Fin 16)]
  calls : SameCalls s.link.queue t.link.queue

namespace Aside

theorem refl (s : State) : Aside s s := ⟨rfl, SameCalls.refl _⟩

theorem trans {s t u : State} (h : Aside s t) (k : Aside t u) : Aside s u := ⟨k.refused.trans h.refused, h.calls.trans k.calls⟩

theorem foldl {α : Type} (f : State → α → State) (hf : ∀ s a, Aside s (f s a)) (l : List α) (s : State) : Aside s (l.foldl f s) :=
  List.foldlRecOn (motive := fun t => Aside s t) l _ (refl s) fun _ ht a _ => ht.trans (hf _ a)

theorem waiting {s t : State} (h : Aside s t) {k : FrameKind} (hk : callKind k = true) (payload : List Byte) :
    t.waitingFrames k payload = s.waitingFrames k payload := by
  have hview (q : List TxFrame) : (q.filter fun f => decide (f.kind = k ∧ f.payload = payload ∧ f.dest = 0 ∧ f.access = 2 ∧ f.sending = false))
      = (standing q).filter fun f => decide (f.kind = k ∧ f.payload = payload ∧ f.dest = 0 ∧ f.access = 2 ∧ f.sending = false) := by
    unfold CallFrames.standing
    rw [List.filter_filter]
    refine List.filter_congr fun f _ => ?_
    by_cases hf : f.kind = k ∧ f.payload = payload ∧ f.dest = 0 ∧ f.access = 2 ∧ f.sending = false
    · obtain ⟨hkind, -, -, haccess, -⟩ := id hf
      simp [hf, hk]
    · simp [hf]
  unfold State.waitingFrames
  rw [hview t.link.queue, hview s.link.queue, h.calls.standing]

end Aside

theorem aside_of_eq {s t : State} (hlink : t.link = s.link) (hcounters : t.counters = s.counters) : Aside s t :=
  ⟨by rw [hcounters], by rw [hlink]; exact SameCalls.refl _⟩

/-- What precedes may change all but the transmit queue and the counters. -/
theorem Aside.after {s t u : State} (k : Aside t u) (hlink : t.link = s.link) (hcounters : t.counters = s.counters) : Aside s u :=
  (aside_of_eq hlink hcounters).trans k

theorem aside_queue {s : State} {q : List TxFrame} (h : SameCalls s.link.queue q) (n : Nat) :
    Aside s { s with link := { s.link with queue := q, seqCounter := n } } := ⟨rfl, h⟩

theorem aside_count (s : State) {k : Counter} (h : k ≠ .callRefused) : Aside s (s.count k) :=
  ⟨count_other s k 13 (by cases k <;> first | exact absurd rfl h | decide), SameCalls.refl _⟩

theorem aside_txInsert (s : State) {f : TxFrame} (hf : callKind f.kind = false) : Aside s (s.txInsert f) := by
  have hinsert := fun q => sameCalls_insertFrame (f := { f with seq := s.link.seqCounter }) hf q
  have herase := sameCalls_eraseP (p := TxFrame.evictable) (fun f hf _ => (evictable_iff.mp hf).1) s.link.queue
  unfold State.txInsert
  split
  · exact aside_queue (hinsert _) _
  · split
    · exact (aside_queue (herase.trans (hinsert _)) _).trans (aside_count _ (by decide))
    · exact aside_count s (by decide)

theorem not_callKind_of_isClaimOf {f : TxFrame} {tag : Option Nat} (h : f.isClaimOf tag = true) : callKind f.kind = false := by
  rw [(isClaimOf_iff.mp h).1]
  rfl

theorem sameCalls_map_ite {p : TxFrame → Bool} {g : TxFrame → TxFrame} (hp : ∀ f, p f = true → callKind f.kind = false)
    (hkind : ∀ f, (g f).kind = f.kind) (q : List TxFrame) : SameCalls q (q.map fun f => if p f then g f else f) := by
  refine sameCalls_map (fun f hf => if_neg fun hpf => ?_) (fun f => ?_) q
  · rw [hp f hpf] at hf
    cases hf
  · split
    · exact hkind f
    · rfl

theorem aside_mapQueue (s : State) {p : TxFrame → Bool} (g : TxFrame → TxFrame) (hp : ∀ f, p f = true → callKind f.kind = false)
    (hkind : ∀ f, (g f).kind = f.kind) : Aside s (s.mapQueue fun f => if p f then g f else f) :=
  aside_queue (sameCalls_map_ite hp hkind s.link.queue) s.link.seqCounter

theorem aside_txClaim (s : State) {f : TxFrame} (hf : callKind f.kind = false) : Aside s (s.txClaim f) := by
  unfold State.txClaim
  split
  · exact aside_mapQueue s (fun g => if g.sending then { g with successor := some f.payload } else { g with payload := f.payload })
      (fun _ => not_callKind_of_isClaimOf) (fun g => by split <;> rfl)
  · exact aside_txInsert s hf

theorem aside_txRelease (s : State) {f : TxFrame} (hf : callKind f.kind = false) : Aside s (s.txRelease f) := by
  have herase := sameCalls_eraseP (p := fun h => h.isClaimOf f.tag)
    (fun g hg hkind => by rw [not_callKind_of_isClaimOf hg] at hkind; cases hkind) s.link.queue
  unfold State.txRelease
  split
  · exact aside_txInsert s hf
  · split
    · exact (aside_mapQueue s (fun h => { h with successor := none, released := true }) (fun _ => not_callKind_of_isClaimOf)
        fun _ => rfl).trans (aside_txInsert _ hf)
    · split
      · exact aside_queue herase _
      · exact (aside_queue herase _).trans (aside_txInsert _ hf)

theorem aside_txEvacStart (s : State) {f : TxFrame} (hf : callKind f.kind = false) : Aside s (s.txEvacStart f) := by
  have hpending (g : TxFrame) (hg : g.isPendingEvacStart = true) : callKind g.kind = false := by
    simp only [TxFrame.isPendingEvacStart, Bool.and_eq_true, decide_eq_true_eq] at hg
    rw [hg.1]
    rfl
  unfold State.txEvacStart
  split
  · exact aside_mapQueue s (fun g => { g with payload := f.payload }) hpending fun _ => rfl
  · exact aside_txInsert s hf

theorem aside_txOffer (s : State) {f : TxFrame} (hf : callKind f.kind = false) : Aside s (s.txOffer f) := by
  unfold State.txOffer
  split
  · split
    · exact aside_txClaim s hf
    · exact aside_txRelease s hf
    · exact aside_txEvacStart s hf
    · exact aside_txInsert s hf
  · exact Aside.refl s

theorem aside_pump (s : State) : Aside s s.pump where
  refused := (tells_pump s).counter 13 (by decide)
  calls := pump_queue_induction (P := fun q => SameCalls s.link.queue q)
    (fun t i _ h => h.trans (aside_txOffer (unmarked t i) (f := reportFrame t i) rfl).calls) s (SameCalls.refl _)

theorem aside_offer (s : State) {f : TxFrame} (hf : callKind f.kind = false) : Aside s (s.offer f) :=
  (aside_txOffer s hf).trans (aside_pump _)

theorem aside_raise (s : State) (k : FaultKind) (subject : Option Nat) : Aside s (s.raise k subject) := by
  unfold State.raise State.raiseAs
  split
  · exact (aside_pump _).after rfl rfl
  · exact aside_count s (by decide)

/-! ### What the blocks' operations leave of the calls' frames -/

theorem aside_offerClaim (s : State) (c : ChanId) : Aside s (s.offerClaim c) := by
  unfold State.offerClaim
  split
  · exact Aside.refl s
  · exact (aside_offer _ rfl).after rfl rfl

theorem aside_makeClaim (s : State) (c : ChanId) (tag cls : Nat) (d : Option Nat) : Aside s (s.makeClaim c tag cls d) := by
  unfold State.makeClaim
  dsimp only
  split
  · exact Aside.refl s
  · exact (aside_offerClaim _ c).after rfl rfl

theorem aside_dropClaim (s : State) (c : ChanId) (o : Ending) : Aside s (s.dropClaim c o) := by
  unfold State.dropClaim
  split
  · exact Aside.refl s
  · exact (aside_offer _ rfl).after rfl rfl

theorem aside_enterTail (s : State) (c : ChanId) (o : Ending) : Aside s (s.enterTail c o) := by
  unfold State.enterTail
  split
  · exact Aside.refl s
  · split
    · exact Aside.refl s
    · exact (aside_dropClaim _ c _).after rfl rfl

theorem aside_stopInstance (s : State) (c : ChanId) (o : Ending) : Aside s (s.stopInstance c o) := by
  unfold State.stopInstance
  split
  · exact Aside.refl s
  · split
    · exact Aside.refl s
    · split
      · exact aside_enterTail s c o
      · exact aside_of_eq rfl rfl
      · exact aside_enterTail s c o
      · exact aside_of_eq rfl rfl
      · exact Aside.refl s
      · exact Aside.refl s

theorem aside_give (s : State) (k : Key) (r : Result) : Aside s (s.give k r) := by
  have hcount : Aside s (s.count r.counter) := aside_count s (by cases r <;> decide)
  cases k with
  | cue id n => exact hcount
  | desk d t => exact hcount.trans (aside_offer _ rfl)
  | live d => exact hcount.trans (aside_offer _ rfl)

theorem aside_removeEntry (s : State) (k : Key) (r : Result) : Aside s (s.removeEntry k r) :=
  (aside_give (s.dropEntry k) k r).after rfl rfl

theorem aside_stopKey (s : State) (k : Key) (m : StopMark) : Aside s (s.stopKey k m) := by
  unfold State.stopKey
  split
  · exact aside_removeEntry s k _
  · split
    · exact Aside.refl s
    · split
      · exact aside_of_eq rfl rfl
      · exact aside_stopInstance s _ _

theorem aside_abortTest (s : State) (z : ZoneId) : Aside s (s.abortTest z) := by
  unfold State.abortTest State.skipZone
  dsimp only
  split
  · split
    · exact (aside_raise _ _ _).after rfl rfl
    · exact aside_of_eq rfl rfl
  · exact Aside.refl s

theorem aside_groupEnded (s : State) : Aside s s.groupEnded := by
  unfold State.groupEnded
  split
  · split
    · exact Aside.refl s
    · split <;> exact aside_of_eq rfl rfl
  · split
    · exact Aside.refl s
    · split <;> exact aside_of_eq rfl rfl
  · exact Aside.refl s

theorem aside_hold (s : State) (c : ChanId) (zs : ZoneSet) : Aside s (s.hold c zs) :=
  Aside.foldl (fun t z => t.setZone z fun x => { x with state := .held c }) (fun _ _ => aside_of_eq rfl rfl) zs s

theorem aside_words {s t : State} {e : Entry} {l : Option (List Nat)} (h : s.words e = (t, l)) : Aside s t := by
  unfold State.words State.assemble at h
  split at h
  · cases h
    exact Aside.refl s
  · split at h <;> cases h
    · exact Aside.refl s
    · exact aside_raise s _ _

theorem aside_seated (s : State) (e : Entry) (c : ChanId) (zs : ZoneSet) (words : List Nat) : Aside s (seated s e c zs words) := by
  have hcleared : Aside s (cleared s e.cls zs) :=
    (Aside.foldl _ (fun t d => aside_enterTail t d .preempted) _ s).trans (Aside.foldl _ aside_abortTest _ _)
  exact ((hcleared.trans (aside_hold _ c zs)).trans (aside_groupEnded _)).trans (aside_of_eq rfl rfl)

theorem aside_launch (s : State) (e : Entry) (c : ChanId) (zs : ZoneSet) (words : List Nat) : Aside s (s.launch e c zs words) := by
  rw [launch_eq]
  have hseated := aside_seated s e c zs words
  generalize seated s e c zs words = u at hseated ⊢
  exact hseated.trans ((aside_makeClaim _ c e.tag e.cls _).after rfl rfl)

theorem aside_ends (s : State) : Aside s ({ s with queue := { s.queue with walkedAt := s.now } } : State).arbitrate.settleGates := by
  refine Aside.trans (t := ({ s with queue := { s.queue with walkedAt := s.now } } : State).arbitrate) ?_ ?_
  · refine aside_of_eq ?_ ?_ <;> rw [arbitrate_eq]
  · exact aside_of_eq (by rw [settleGates_eq]) (by rw [settleGates_eq])

theorem walkStep_aside : WalkStep Aside where
  refl := Aside.refl
  trans := Aside.trans
  removes := aside_removeEntry
  words := aside_words
  launches s e c zs words _ := aside_launch s e c zs words
  ends := aside_ends

theorem aside_walk (s : State) : Aside s s.walk := walkStep_aside.walk s

theorem aside_offerNew (s : State) (e : Entry) : Aside s (s.offerNew e) := by
  have hinsert (t : State) : Aside t (t.insertNew e).walk := (aside_walk (t.insertNew e)).after rfl rfl
  unfold State.offerNew
  split
  · exact hinsert s
  · split
    · split
      · exact (aside_removeEntry s _ _).trans (hinsert _)
      · exact aside_give s _ _
    · exact aside_give s _ _

theorem aside_offerEntry (s : State) (e : Entry) : Aside s (s.offerEntry e) := by
  have hset (q : Queue) : Aside s ({ s with queue := q } : State).walk := (aside_walk { s with queue := q }).after rfl rfl
  unfold State.offerEntry
  split
  · exact hset _
  · split
    · exact aside_offerNew s e
    · split
      · exact hset _
      · exact Aside.refl s
      · exact Aside.refl s

/-! ### How the frames that stand grow -/

theorem solid_txInsert (s : State) (f : TxFrame) : solid (s.txInsert f).link.queue ≤ solid s.link.queue + if f.evictable then 0 else 1 := by
  unfold State.txInsert
  split
  · exact (solid_insertFrame { f with seq := s.link.seqCounter } _).le
  · split
    · refine ((solid_insertFrame { f with seq := s.link.seqCounter } _).trans ?_).le
      rw [solid_eraseP_evictable]
      rfl
    · exact Nat.le_add_right _ _

theorem solid_pump (s : State) : solid s.pump.link.queue ≤ solid s.link.queue :=
  pump_queue_induction (P := fun q => solid q ≤ solid s.link.queue) (fun t i hon h => by
    rw [txOffer_report i hon]
    exact (solid_txInsert (unmarked t i) (reportFrame t i)).trans h) s le_rfl

theorem solid_offer_evictable (s : State) {f : TxFrame} (hf : f.evictable = true) (hclaim : f.kind ≠ .claim) (hrelease : f.kind ≠ .release)
    (hevac : f.kind ≠ .evacStart) : solid (s.offer f).link.queue ≤ solid s.link.queue := by
  refine (solid_pump _).trans ?_
  cases hon : s.onLink with
  | true =>
    rw [txOffer_of_plain hon hclaim hrelease hevac]
    exact (solid_txInsert s f).trans (by simp [hf])
  | false => rw [txOffer_of_unlinked hon]

theorem solid_give (s : State) (k : Key) (r : Result) : solid (s.give k r).link.queue ≤ solid s.link.queue := by
  cases k with
  | cue id n => exact le_rfl
  | desk d t => exact solid_offer_evictable (s.count r.counter) rfl nofun nofun nofun
  | live d => exact solid_offer_evictable (s.count r.counter) rfl nofun nofun nofun

theorem solid_removeEntry (s : State) (k : Key) (r : Result) : solid (s.removeEntry k r).link.queue ≤ solid s.link.queue :=
  solid_give (s.dropEntry k) k r

theorem solid_txRelease (s : State) (f : TxFrame) : solid (s.txRelease f).link.queue ≤ solid s.link.queue + 1 := by
  have hinsert (t : State) (h : solid t.link.queue ≤ solid s.link.queue) : solid (t.txInsert f).link.queue ≤ solid s.link.queue + 1 :=
    (solid_txInsert t f).trans (by split <;> omega)
  unfold State.txRelease
  split
  · exact hinsert s le_rfl
  · split
    · refine hinsert _ (solid_map (fun g => ?_) _).le
      split <;> rfl
    · split
      · exact (solid_eraseP_le _ _).trans (Nat.le_succ _)
      · exact hinsert _ (solid_eraseP_le _ _)

theorem solid_dropClaim (s : State) (c : ChanId) (o : Ending) : solid (s.dropClaim c o).link.queue ≤ solid s.link.queue + 1 := by
  unfold State.dropClaim
  split
  · exact Nat.le_succ _
  · refine (solid_pump _).trans ?_
    cases hon : s.onLink with
    | true =>
      rw [txOffer_release (s := s.setClaim c none) hon rfl]
      exact solid_txRelease (s.setClaim c none) _
    | false =>
      rw [txOffer_of_unlinked (s := s.setClaim c none) hon]
      exact Nat.le_succ _

theorem solid_enterTail (s : State) (c : ChanId) (o : Ending) : solid (s.enterTail c o).link.queue ≤ solid s.link.queue + 1 := by
  unfold State.enterTail
  split
  · exact Nat.le_succ _
  · split
    · exact Nat.le_succ _
    · exact solid_dropClaim ((s.setChan c _).disown c) c _

theorem solid_stopKey (s : State) (k : Key) (m : StopMark) : solid (s.stopKey k m).link.queue ≤ solid s.link.queue + 1 := by
  unfold State.stopKey State.stopInstance
  split
  · exact (solid_removeEntry s k _).trans (Nat.le_succ _)
  · split
    · exact Nat.le_succ _
    · split
      · exact Nat.le_succ _
      · split
        · exact Nat.le_succ _
        · split
          · exact Nat.le_succ _
          · split
            · exact solid_enterTail s _ _
            · exact Nat.le_succ _
            · exact solid_enterTail s _ _
            · exact Nat.le_succ _
            · exact Nat.le_succ _
            · exact Nat.le_succ _

/-! ### A call frame offered (R11, R12) -/

theorem waitingFrames_eq (s : State) (k : FrameKind) (payload : List Byte) :
    s.waitingFrames k payload = s.link.queue.countP fun f => decide (f.kind = k ∧ f.payload = payload ∧ f.dest = 0 ∧ f.access = 2 ∧ f.sending = false) :=
  List.countP_eq_length_filter.symm

/-- A call frame offered where a frame waits that R12 evicts, or with room, is queued. -/
theorem queued_offer {s : State} (hon : s.onLink = true) (hroom : solid s.link.queue < 8) {k : FrameKind} (hk : callKind k = true)
    (payload : List Byte) : s.Queued (s.offer (plainFrame 0 k payload 2)) k payload := by
  have hinsert (q : List TxFrame) (n : Nat) :
      (insertFrame { plainFrame 0 k payload 2 with seq := n } q).countP
          (fun f => decide (f.kind = k ∧ f.payload = payload ∧ f.dest = 0 ∧ f.access = 2 ∧ f.sending = false))
        = q.countP (fun f => decide (f.kind = k ∧ f.payload = payload ∧ f.dest = 0 ∧ f.access = 2 ∧ f.sending = false)) + 1 := by
    rw [(insertFrame_perm _ q).countP_eq, List.countP_cons_of_pos (by simp [plainFrame])]
  have htx : (s.txInsert (plainFrame 0 k payload 2)).waitingFrames k payload = s.waitingFrames k payload + 1 := by
    rw [waitingFrames_eq, waitingFrames_eq]
    unfold State.txInsert
    split
    · exact hinsert _ _
    next hfull =>
      have hcalls := sameCalls_eraseP (p := TxFrame.evictable) (fun f hf _ => (evictable_iff.mp hf).1) s.link.queue
      have hwait := (aside_queue hcalls s.link.seqCounter).waiting hk payload
      rw [waitingFrames_eq, waitingFrames_eq] at hwait
      rw [if_pos (any_evictable_of_solid (by omega))]
      exact (hinsert _ _).trans (congrArg (· + 1) hwait)
  unfold State.Queued State.offer
  rw [(aside_pump _).waiting hk payload, txOffer_of_plain hon, htx]
  all_goals
    intro h
    change k = _ at h
    rw [h] at hk
    cases hk

theorem solid_lt_of_room {s : State} (h : s.link.queue.length < 8) : solid s.link.queue < 8 := lt_of_le_of_lt (solid_le _) h

theorem Aside.queued_left {s t u : State} (h : Aside s t) {k : FrameKind} (hk : callKind k = true) {payload : List Byte}
    (hq : t.Queued u k payload) : s.Queued u k payload := hq.trans (congrArg (· + 1) (h.waiting hk payload))

theorem Aside.queued_right {s t u : State} (h : Aside t u) {k : FrameKind} (hk : callKind k = true) {payload : List Byte}
    (hq : s.Queued t k payload) : s.Queued u k payload := (h.waiting hk payload).trans hq

theorem Aside.no_new {s t : State} (h : Aside s t) {k : FrameKind} (hk : callKind k = true) :
    ∀ f ∈ t.link.queue, f.kind = k → f ∈ s.link.queue := fun f hf hkind => h.calls.fresh f hf (hkind ▸ hk)

end Sys2Proof.Proofs.CallFrames

end

section
/-! The Cue Engine's operations on a call record: what each notice makes of the record, and what else it leaves alone (R58 to R73). -/

namespace Sys2Proof.Proofs.NoticeRules

open Sys2Proof.Machine
open Sys2Proof.Proofs.LiveClose Sys2Proof.Proofs.Faults Sys2Proof.Proofs.Upkeep Sys2Proof.Proofs.Uphold Sys2Proof.Proofs.CallRules
open Sys2Proof.Proofs.Commands Sys2Proof.Proofs.Steps Sys2Proof.Proofs.Reports Sys2Proof.Proofs.Starting Sys2Proof.Proofs.Transmit
open Sys2Proof.Proofs.LineRules Sys2Proof.Proofs.FaultRules Sys2Proof.Proofs.QueueRules Sys2Proof.Proofs.GroupRules
open Sys2Proof.Proofs.CallFrames

/-! ### An edit of one record -/

theorem undisturbed_refl (s : State) : Undisturbed s s := ⟨rfl, rfl, rfl, rfl, rfl, rfl, rfl, rfl, rfl, rfl, rfl, rfl, rfl, rfl, rfl⟩

theorem undisturbed_trans {s t u : State} (h : Undisturbed s t) (k : Undisturbed t u) : Undisturbed s u where
  pending := k.pending.trans h.pending
  startup := k.startup.trans h.startup
  clock := k.clock.trans h.clock
  store := k.store.trans h.store
  evac := k.evac.trans h.evac
  occupancy := k.occupancy.trans h.occupancy
  joinTimer := k.joinTimer.trans h.joinTimer
  handedOver := k.handedOver.trans h.handedOver
  contacts := k.contacts.trans h.contacts
  pins := k.pins.trans h.pins
  sampleAt := k.sampleAt.trans h.sampleAt
  roundAt := k.roundAt.trans h.roundAt
  budget := k.budget.trans h.budget
  monitor := k.monitor.trans h.monitor
  testStep := k.testStep.trans h.testStep

theorem undisturbed_calls (s : State) (l : List CallRecord) : Undisturbed s { s with calls := l } :=
  ⟨rfl, rfl, rfl, rfl, rfl, rfl, rfl, rfl, rfl, rfl, rfl, rfl, rfl, rfl, rfl⟩

/-- From `s` to `t` the record of a call became `r`, every other record stayed, no call frame was queued, and the rest is undisturbed. -/
structure Edited (id : Nat) (s t : State) (r : CallRecord) : Prop where
  undisturbed : Undisturbed s t
  others : OtherCallsKept id s t
  aside : Aside s t
  call : t.call id = some r

namespace Edited

variable {id : Nat} {s t u : State} {r r' : CallRecord}

theorem cfg (h : Edited id s t r) : t.cfg = s.cfg := by
  unfold State.cfg
  rw [h.undisturbed.startup]

theorem now (h : Edited id s t r) : t.now = s.now := congrArg Clock.now h.undisturbed.clock

theorem minuteNow (h : Edited id s t r) : t.minuteNow = s.minuteNow := by
  unfold State.minuteNow
  rw [h.cfg, h.undisturbed.clock]

theorem onLink (h : Edited id s t r) : t.onLink = s.onLink := by
  unfold State.onLink
  rw [h.undisturbed.startup]

theorem trans (h : Edited id s t r) (k : Edited id t u r') : Edited id s u r' where
  undisturbed := undisturbed_trans h.undisturbed k.undisturbed
  others j hj := (k.others j hj).trans (h.others j hj)
  aside := h.aside.trans k.aside
  call := k.call

end Edited

theorem edited_refl {id : Nat} {s : State} {r : CallRecord} (h : s.call id = some r) : Edited id s s r :=
  ⟨undisturbed_refl s, fun _ _ => rfl, Aside.refl s, h⟩

theorem call_of_calls {s t : State} (h : t.calls = s.calls) (j : Nat) : t.call j = s.call j := by
  unfold State.call
  rw [h]

theorem edited_of_keeps {id : Nat} {s t : State} {r : CallRecord} (h : s.call id = some r) (hkeeps : Keeps s t) (haside : Aside s t) :
    Edited id s t r :=
  ⟨undisturbed_of_keeps hkeeps, fun j _ => call_of_calls hkeeps.calls j, haside, (call_of_calls hkeeps.calls id).trans h⟩

theorem edited_putCall {id : Nat} {s : State} {r : CallRecord} (h : r.id = id) : Edited id s (s.putCall r) r where
  undisturbed := undisturbed_calls s _
  others j hj := call_putCall_of_ne s r j (by rwa [h])
  aside := aside_of_eq rfl rfl
  call := call_putCall h

theorem edited_withdraw {id : Nat} {s : State} {r : CallRecord} (h : s.call id = some r) (j : Nat) (n : CueName) :
    Edited id s (s.withdraw j n) r :=
  edited_of_keeps h (keeps_stopKey s _ _) (aside_stopKey s _ _)

theorem edited_offerEntry {id : Nat} {s : State} {r : CallRecord} (h : s.call id = some r) (e : Entry) : Edited id s (s.offerEntry e) r :=
  edited_of_keeps h (keeps_offerEntry s e) (aside_offerEntry s e)

/-- A fold of edits that each depend on the configuration and the minute alone. -/
theorem edited_foldl {α : Type} {id : Nat} {c : NodeConfig} {m : Option Nat} {f : State → α → State} {g : CallRecord → α → CallRecord}
    (hf : ∀ (s : State) (r : CallRecord) (a : α), s.cfg = c → s.minuteNow = m → s.call id = some r → Edited id s (f s a) (g r a))
    (l : List α) {s : State} {r : CallRecord} (hc : s.cfg = c) (hm : s.minuteNow = m) (h : s.call id = some r) :
    Edited id s (l.foldl f s) (l.foldl g r) := by
  induction l generalizing s r with
  | nil => exact edited_refl h
  | cons a rest ih =>
    have hstep := hf s r a hc hm h
    exact hstep.trans (ih (hstep.cfg.trans hc) (hstep.minuteNow.trans hm) hstep.call)

theorem edited_withdrawList {id : Nat} {s : State} {r : CallRecord} (h : s.call id = some r) (l : List CueName) :
    Edited id s (l.foldl (fun t n => t.withdraw id n) s) r := by
  have hfold := edited_foldl (f := fun t n => t.withdraw id n) (g := fun r _ => r) (fun t q n _ _ hq => edited_withdraw hq id n) l rfl rfl h
  have hconst : l.foldl (fun (r : CallRecord) (_ : CueName) => r) r = r := by
    induction l with
    | nil => rfl
    | cons _ _ ih => exact ih (edited_foldl (fun t q n _ _ hq => edited_withdraw hq id n) _ rfl rfl h)
  rwa [hconst] at hfold

/-! ### Slots -/

theorem idx_injective {n k : CueName} (h : n.idx = k.idx) : n = k := by
  cases n <;> cases k <;> first | rfl | exact absurd h (by decide)

theorem slot_setSlot_self (r : CallRecord) (n : CueName) (x : CueSlot) : (r.setSlot n x).slot n = x := Vector.getElem_set_self n.idx.isLt

theorem slot_setSlot_of_ne (r : CallRecord) {n k : CueName} (x : CueSlot) (h : k ≠ n) : (r.setSlot n x).slot k = r.slot k :=
  Vector.getElem_set_ne n.idx.isLt k.idx.isLt fun e => h (idx_injective (Fin.ext e)).symm

theorem setSlot_slot (r : CallRecord) (n : CueName) : r.setSlot n (r.slot n) = r := by
  have hset : r.slots.set n.idx (r.slot n) = r.slots := Vector.set_getElem_self n.idx.isLt
  unfold CallRecord.setSlot
  rw [hset]

theorem edited_setSlot {id : Nat} {s : State} {r : CallRecord} (h : s.call id = some r) (n : CueName) (f : CueSlot → CueSlot) :
    Edited id s (s.setSlot id n f) (r.setSlot n (f (r.slot n))) := by
  have hid : r.id = id := id_of_call h
  unfold State.setSlot
  rw [h]
  exact edited_putCall hid

/-- A record with some of its slots edited one by one. -/
def editSlots (f : CallRecord → CueName → CueSlot) (l : List CueName) (r : CallRecord) : CallRecord :=
  l.foldl (fun r n => r.setSlot n (f r n)) r

/-- An edit of a slot that looks at the rest of the record and at that slot alone. -/
def Slotwise (f : CallRecord → CueName → CueSlot) : Prop :=
  ∀ (r : CallRecord) (v : Vector CueSlot 7) (n : CueName), v[n.idx] = r.slot n → f { r with slots := v } n = f r n

theorem editSlots_frame (f : CallRecord → CueName → CueSlot) (l : List CueName) (r : CallRecord) :
    editSlots f l r = { r with slots := (editSlots f l r).slots } :=
  List.foldlRecOn (motive := fun t : CallRecord => t = { r with slots := t.slots }) l _ rfl fun t ht n _ =>
    congrArg (fun v : CallRecord => { v with slots := (t.setSlot n (f t n)).slots }) ht

theorem slot_editSlots {f : CallRecord → CueName → CueSlot} (hf : Slotwise f) {l : List CueName} (hnodup : l.Nodup) (r : CallRecord) (k : CueName) :
    (editSlots f l r).slot k = if k ∈ l then f r k else r.slot k := by
  induction l generalizing r with
  | nil => rfl
  | cons n rest ih =>
    obtain ⟨hnot, hrest⟩ := List.nodup_cons.mp hnodup
    have hstep : (editSlots f (n :: rest) r).slot k = (editSlots f rest (r.setSlot n (f r n))).slot k := rfl
    rw [hstep, ih hrest]
    obtain rfl | hne := eq_or_ne k n
    · rw [if_neg hnot, if_pos (List.mem_cons_self ..), slot_setSlot_self]
    · have hsame : f (r.setSlot n (f r n)) k = f r k := hf r _ k (slot_setSlot_of_ne r (f r n) hne)
      rw [hsame, slot_setSlot_of_ne r _ hne]
      simp [List.mem_cons, hne]

theorem mem_allCues (n : CueName) : n ∈ allCues := by cases n <;> decide

theorem slot_editAll {f : CallRecord → CueName → CueSlot} (hf : Slotwise f) (r : CallRecord) (n : CueName) :
    (editSlots f allCues r).slot n = f r n := by
  rw [slot_editSlots hf (by decide), if_pos (mem_allCues n)]

/-! ### What the engine makes of a record -/

/-- The plan cue of a record under a configuration (R56). -/
def planCue (c : NodeConfig) (r : CallRecord) (n : CueName) : Cue :=
  match r.kind with
  | .arrival => c.arrivalPlan[n.idx]
  | .departure => c.departurePlan[n.idx]

/-- Whether a record is inside a cue's window. -/
def insideOf (c : NodeConfig) (r : CallRecord) (n : CueName) : Bool := ((planCue c r n).windowOf n).contains r.state

theorem cue_eq (s : State) (r : CallRecord) (n : CueName) : s.cue r n = planCue s.cfg r n := rfl

theorem inside_eq (s : State) (r : CallRecord) (n : CueName) : s.inside r n = insideOf s.cfg r n := rfl

/-- A slot that fires (R62). -/
def firedSlot (c : NodeConfig) (m : Option Nat) (r : CallRecord) (n : CueName) : CueSlot :=
  { state := .fired, next := periodAfter (planCue c r n) m, firedBase := some r.base }

/-- A slot compared with its window (R59). -/
def comparedSlot (c : NodeConfig) (r : CallRecord) (n : CueName) : CueSlot :=
  if n.isPlan && !(planCue c r n).used then
    if (r.slot n).state = .armed then { r.slot n with state := .idle } else r.slot n
  else
    match (r.slot n).state, insideOf c r n with
    | .idle, true => if n.isPlan then { r.slot n with state := .armed } else r.slot n
    | .armed, false => { r.slot n with state := .idle }
    | .fired, false | .missed, false => { r.slot n with next := none }
    | _, _ => r.slot n

section
variable {c : NodeConfig} {r : CallRecord} {n : CueName}

theorem comparedSlot_unused (h : (n.isPlan && !(planCue c r n).used) = true) :
    comparedSlot c r n = if (r.slot n).state = .armed then { r.slot n with state := .idle } else r.slot n := if_pos h

variable (hused : ¬(n.isPlan && !(planCue c r n).used) = true)
include hused

theorem comparedSlot_idle (hidle : (r.slot n).state = .idle) :
    comparedSlot c r n = if insideOf c r n && n.isPlan then { r.slot n with state := .armed } else r.slot n := by
  unfold comparedSlot
  rw [if_neg hused, hidle]
  cases insideOf c r n <;> simp

theorem comparedSlot_armed (harmed : (r.slot n).state = .armed) :
    comparedSlot c r n = if insideOf c r n then r.slot n else { r.slot n with state := .idle } := by
  unfold comparedSlot
  rw [if_neg hused, harmed]
  cases insideOf c r n <;> rfl

theorem comparedSlot_spent_in (hspent : (r.slot n).state = .fired ∨ (r.slot n).state = .missed) (hin : insideOf c r n = true) :
    comparedSlot c r n = r.slot n := by
  unfold comparedSlot
  rw [if_neg hused, hin]
  obtain h | h := hspent <;> rw [h]

theorem comparedSlot_spent_out (hspent : (r.slot n).state = .fired ∨ (r.slot n).state = .missed) (hout : insideOf c r n = false) :
    comparedSlot c r n = { r.slot n with next := none } := by
  unfold comparedSlot
  rw [if_neg hused, hout]
  obtain h | h := hspent <;> simp only [h]

end

/-- A record compared (R59). -/
def comparedAll (c : NodeConfig) (r : CallRecord) : CallRecord := editSlots (comparedSlot c) allCues r

/-- A slot after the notice of a train event (R67). -/
def eventSlot (c : NodeConfig) (m : Option Nat) (e : TrainEvent) (r : CallRecord) (n : CueName) : CueSlot :=
  if n.isPlan && (planCue c r n).used && decide ((planCue c r n).trigger = .onEvent e) && decide ((r.slot n).state = .armed) then
    firedSlot c m r n
  else r.slot n

/-- A slot after R70. -/
def rearmedSlot (c : NodeConfig) (m : Option Nat) (r : CallRecord) (n : CueName) : CueSlot :=
  if m.any fun m => n.isPlan && (planCue c r n).used && insideOf c r n && rearms c.rearmThreshold m r.base (planCue c r n) (r.slot n) then
    { r.slot n with state := .armed, next := none }
  else r.slot n

/-- A record after R70. -/
def rearmedAll (c : NodeConfig) (m : Option Nat) (r : CallRecord) : CallRecord := editSlots (rearmedSlot c m) allCues r

/-- A record after an occasion of a special cue (R71, R72). -/
def occasionOf (c : NodeConfig) (m : Option Nat) (n : CueName) (r : CallRecord) : CallRecord :=
  if (planCue c r n).used then r.setSlot n (firedSlot c m r n) else r

/-- Whether R68 fires for a delay. -/
def delayFires (c : NodeConfig) (r : CallRecord) (d : Nat) : Bool :=
  (planCue c r .delay).used && insideOf c r .delay && delayDue c.delayThreshold c.rearmThreshold r.lastDelay d
    && (decide ((r.slot .delay).state = .idle) || decide ((r.slot .delay).state = .fired))

/-- A record after R68. -/
def delayTested (c : NodeConfig) (m : Option Nat) (r : CallRecord) : CallRecord :=
  match r.delay with
  | none => r
  | some d => if delayFires c r d then { r.setSlot .delay (firedSlot c m r .delay) with lastDelay := some d } else r

/-- Whether R69 ends a record's delay. -/
def delayEnds (c : NodeConfig) (r : CallRecord) : Bool :=
  r.delay.all (fun d => decide (d < c.delayThreshold))
    && (decide ((r.slot .delay).state = .fired) || decide ((r.slot .delay).state = .armed))

/-- A record after R69. -/
def delayEnded (c : NodeConfig) (r : CallRecord) : CallRecord :=
  if delayEnds c r then { r.setSlot .delay { r.slot .delay with state := .idle, next := none } with lastDelay := none } else r

/-- A record after R68 and R69. -/
def delayRuled (c : NodeConfig) (m : Option Nat) (r : CallRecord) : CallRecord := delayEnded c (delayTested c m r)

theorem slotwise_compared (c : NodeConfig) : Slotwise (comparedSlot c) := fun r v n h => by
  unfold comparedSlot
  rw [show CallRecord.slot { r with slots := v } n = r.slot n from h]
  rfl

theorem slotwise_event (c : NodeConfig) (m : Option Nat) (e : TrainEvent) : Slotwise (eventSlot c m e) := fun r v n h => by
  unfold eventSlot
  rw [show CallRecord.slot { r with slots := v } n = r.slot n from h]
  rfl

theorem slotwise_rearmed (c : NodeConfig) (m : Option Nat) : Slotwise (rearmedSlot c m) := fun r v n h => by
  unfold rearmedSlot
  rw [show CallRecord.slot { r with slots := v } n = r.slot n from h]
  rfl

/-! ### Each operation as an edit -/

section
variable {id : Nat} {s : State} {r : CallRecord} (h : s.call id = some r)
include h

theorem edited_fire (n : CueName) (platforms : List Nat) :
    Edited id s (s.fire id n platforms) (r.setSlot n (firedSlot s.cfg s.minuteNow r n)) := by
  have hid : r.id = id := id_of_call h
  have hput : Edited id s (s.putCall (r.setSlot n (firedSlot s.cfg s.minuteNow r n))) (r.setSlot n (firedSlot s.cfg s.minuteNow r n)) :=
    edited_putCall hid
  unfold State.fire
  rw [h]
  dsimp only
  split
  · exact hput
  · exact hput.trans (edited_offerEntry hput.call _)

theorem edited_fireHere (n : CueName) : Edited id s (s.fireHere id n) (r.setSlot n (firedSlot s.cfg s.minuteNow r n)) := by
  unfold State.fireHere
  rw [h]
  exact edited_fire h n _

theorem edited_compare (n : CueName) : Edited id s (s.compare id n) (r.setSlot n (comparedSlot s.cfg r n)) := by
  have hsame (hx : comparedSlot s.cfg r n = r.slot n) : Edited id s s (r.setSlot n (comparedSlot s.cfg r n)) := by
    rw [hx, setSlot_slot]
    exact edited_refl h
  have hset {f : CueSlot → CueSlot} (hx : comparedSlot s.cfg r n = f (r.slot n)) :
      Edited id s (s.setSlot id n f) (r.setSlot n (comparedSlot s.cfg r n)) := by
    rw [hx]
    exact edited_setSlot h n f
  have hleave (hgone : (r.slot n).state = .fired ∨ (r.slot n).state = .missed) (hout : insideOf s.cfg r n = false)
      (hused : ¬(n.isPlan && !(planCue s.cfg r n).used) = true) :
      Edited id s ((s.setSlot id n fun x => { x with next := none }).withdraw id n) (r.setSlot n (comparedSlot s.cfg r n)) := by
    have hnext := hset (f := fun x => { x with next := none }) (comparedSlot_spent_out hused hgone hout)
    exact hnext.trans (edited_withdraw hnext.call id n)
  unfold State.compare
  rw [h]
  dsimp only
  rw [cue_eq, inside_eq]
  split
  next hunused =>
    split
    next harmed => exact hset (by rw [comparedSlot_unused hunused, if_pos harmed])
    next harmed => exact hsame (by rw [comparedSlot_unused hunused, if_neg harmed])
  next hused =>
    split
    next hidle hin =>
      split
      next hplan => exact hset (by rw [comparedSlot_idle hused hidle, if_pos (Bool.and_eq_true_iff.mpr ⟨hin, hplan⟩)])
      next hplan => exact hsame (by rw [comparedSlot_idle hused hidle, if_neg (by simp [hplan])])
    next harmed hout => exact hset (by rw [comparedSlot_armed hused harmed, if_neg (by simp [hout])])
    next hfired hout => exact hleave (.inl hfired) hout hused
    next hmissed hout => exact hleave (.inr hmissed) hout hused
    next hidle harmed hfired hmissed =>
      refine hsame ?_
      cases hin : insideOf s.cfg r n with
      | true =>
        cases hst : (r.slot n).state with
        | idle => exact absurd hin (hidle hst)
        | armed => rw [comparedSlot_armed hused hst, if_pos hin]
        | fired => exact comparedSlot_spent_in hused (.inl hst) hin
        | missed => exact comparedSlot_spent_in hused (.inr hst) hin
      | false =>
        cases hst : (r.slot n).state with
        | idle => rw [comparedSlot_idle hused hst, if_neg (by simp [hin])]
        | armed => exact absurd hin (harmed hst)
        | fired => exact absurd hin (hfired hst)
        | missed => exact absurd hin (hmissed hst)

theorem edited_compareAll : Edited id s (s.compareAll id) (comparedAll s.cfg r) :=
  edited_foldl (g := fun r n => r.setSlot n (comparedSlot s.cfg r n)) (fun _ _ n hc _ hq => hc ▸ edited_compare hq n) allCues rfl rfl h

theorem edited_withdrawMoved : Edited id s (s.withdrawMoved id) r := by
  unfold State.withdrawMoved
  split
  · exact edited_withdrawList h _
  · exact edited_withdrawList h _
  · exact edited_withdrawList h _
  · exact edited_refl h

theorem edited_onEvent (e : TrainEvent) (n : CueName) : Edited id s (s.onEvent id e n) (r.setSlot n (eventSlot s.cfg s.minuteNow e r n)) := by
  unfold State.onEvent eventSlot
  rw [h]
  dsimp only
  rw [cue_eq]
  split
  · exact edited_fireHere h n
  · rw [setSlot_slot]
    exact edited_refl h

theorem edited_events (e : TrainEvent) :
    Edited id s (allCues.foldl (fun t n => t.onEvent id e n) s) (editSlots (eventSlot s.cfg s.minuteNow e) allCues r) :=
  edited_foldl (g := fun r n => r.setSlot n (eventSlot s.cfg s.minuteNow e r n))
    (fun _ _ n hc hm hq => hc ▸ hm ▸ edited_onEvent hq e n) allCues rfl rfl h

theorem edited_rearm (n : CueName) : Edited id s (s.rearm id n) (r.setSlot n (rearmedSlot s.cfg s.minuteNow r n)) := by
  unfold State.rearm rearmedSlot
  rw [h]
  cases hm : s.minuteNow with
  | none =>
    change Edited id s s (r.setSlot n (r.slot n))
    rw [setSlot_slot]
    exact edited_refl h
  | some m =>
    dsimp only
    rw [cue_eq, inside_eq, Option.any_some]
    split
    · exact edited_setSlot h n _
    · rw [setSlot_slot]
      exact edited_refl h

theorem edited_rearmAll : Edited id s (s.rearmAll id) (rearmedAll s.cfg s.minuteNow r) :=
  edited_foldl (g := fun r n => r.setSlot n (rearmedSlot s.cfg s.minuteNow r n))
    (fun _ _ n hc hm hq => hc ▸ hm ▸ edited_rearm hq n) allCues rfl rfl h

theorem edited_cancelOccasion : Edited id s (s.cancelOccasion id) (occasionOf s.cfg s.minuteNow .cancel r) := by
  unfold State.cancelOccasion occasionOf
  rw [h]
  dsimp only
  rw [cue_eq]
  split
  · exact edited_fireHere h .cancel
  · exact edited_refl h

theorem edited_alterationOccasion (platforms : List Nat) :
    Edited id s (s.alterationOccasion id platforms) (occasionOf s.cfg s.minuteNow .alteration r) := by
  unfold State.alterationOccasion occasionOf
  rw [h]
  dsimp only
  rw [cue_eq]
  split
  · exact edited_fire h .alteration platforms
  · exact edited_refl h

theorem edited_delayTest : Edited id s (s.delayTest id) (delayTested s.cfg s.minuteNow r) := by
  have hid : r.id = id := id_of_call h
  unfold State.delayTest delayTested
  rw [h]
  dsimp only
  cases hd : r.delay with
  | none => exact edited_refl h
  | some d =>
    dsimp only
    rw [cue_eq, inside_eq]
    unfold delayFires
    split
    · have hput : Edited id s (s.putCall { r with lastDelay := some d }) { r with lastDelay := some d } := edited_putCall hid
      exact hput.trans (edited_fireHere hput.call .delay)
    · exact edited_refl h

theorem edited_delayEnd : Edited id s (s.delayEnd id) (delayEnded s.cfg r) := by
  have hid : r.id = id := id_of_call h
  unfold State.delayEnd delayEnded delayEnds
  rw [h]
  dsimp only
  split
  · have hput : Edited id s (s.putCall { r.setSlot .delay { r.slot .delay with state := .idle, next := none } with lastDelay := none })
        { r.setSlot .delay { r.slot .delay with state := .idle, next := none } with lastDelay := none } := edited_putCall hid
    exact hput.trans (edited_withdraw hput.call id .delay)
  · exact edited_refl h

theorem edited_delayRules : Edited id s (s.delayRules id) (delayRuled s.cfg s.minuteNow r) := by
  have htest := edited_delayTest h
  have hend := edited_delayEnd htest.call
  rw [htest.cfg] at hend
  exact htest.trans hend

end

/-! ### The notices (R36, R73) -/

/-- A record after the events of a STATE notice (R67). -/
def evented (c : NodeConfig) (m : Option Nat) (event : Option TrainEvent) (r : CallRecord) : CallRecord :=
  match event with
  | none => r
  | some e => editSlots (eventSlot c m e) allCues r

/-- A record after the occasion of a STATE notice (R71, R72). -/
def stateOccasion (c : NodeConfig) (m : Option Nat) (old : CallState) (r : CallRecord) : CallRecord :=
  match r.state with
  | .cancelled => occasionOf c m .cancel r
  | .moving => occasionOf c m .alteration r
  | .moved => if old = .moving then r else occasionOf c m .alteration r
  | .planned | .approaching | .atPlatform | .closing | .departed | .terminated | .moveFailed => r

/-- A record after a STATE notice (R59, R67, R71, R72). -/
def stateNoticed (c : NodeConfig) (m : Option Nat) (old : CallState) (event : Option TrainEvent) (r : CallRecord) : CallRecord :=
  stateOccasion c m old (evented c m event (comparedAll c r))

/-- A record after an ADOPTED notice (R72, R73). -/
def adoptNoticed (c : NodeConfig) (m : Option Nat) (created : Bool) (before : Nat) (r : CallRecord) : CallRecord :=
  let u := delayRuled c m (comparedAll c r)
  if created || decide (before ≠ u.platform) then occasionOf c m .alteration u else u

/-- A record after a REPLACED notice (R73). -/
def replaceNoticed (c : NodeConfig) (m : Option Nat) (x : Replaced) (r : CallRecord) : CallRecord :=
  let u := if x.kindChanged then comparedAll c r else r
  let u := if x.timesChanged then delayRuled c m u else u
  if x.baseChanged then rearmedAll c m u else u

/-- The ON_EVENT cues of a STATE notice (R67). -/
def eventsTaken (id : Nat) (event : Option TrainEvent) (s : State) : State :=
  match event with
  | none => s
  | some e => allCues.foldl (fun t n => t.onEvent id e n) s

/-- The special cue of a STATE notice (R71, R72). -/
def occasionTaken (id : Nat) (old : CallState) (r : CallRecord) (s : State) : State :=
  match r.state with
  | .cancelled => s.cancelOccasion id
  | .moving => s.alterationOccasion id [r.platform]
  | .moved => if old = .moving then s else s.alterationOccasion id [r.platform]
  | .planned | .approaching | .atPlatform | .closing | .departed | .terminated | .moveFailed => s

theorem noticeState_of_call {id : Nat} {s : State} {r : CallRecord} {event : Option TrainEvent}
    (h : (eventsTaken id event ((s.compareAll id).withdrawMoved id)).call id = some r) (old : CallState) :
    s.noticeState id old event = occasionTaken id old r (eventsTaken id event ((s.compareAll id).withdrawMoved id)) := by
  change (match (eventsTaken id event ((s.compareAll id).withdrawMoved id)).call id with
    | none => eventsTaken id event ((s.compareAll id).withdrawMoved id)
    | some r => occasionTaken id old r (eventsTaken id event ((s.compareAll id).withdrawMoved id))) = _
  rw [h]

section
variable {id : Nat} {s : State} {r : CallRecord} (h : s.call id = some r)
include h

theorem edited_noticeInserted : Edited id s (s.noticeInserted id) (delayRuled s.cfg s.minuteNow (comparedAll s.cfg r)) := by
  have hcompared := edited_compareAll h
  have hdelay := edited_delayRules hcompared.call
  rw [hcompared.cfg, hcompared.minuteNow] at hdelay
  exact hcompared.trans hdelay

theorem edited_eventsTaken (event : Option TrainEvent) :
    Edited id s (eventsTaken id event s) (evented s.cfg s.minuteNow event r) := by
  cases event with
  | none => exact edited_refl h
  | some e => exact edited_events h e

theorem edited_occasionTaken (old : CallState) : Edited id s (occasionTaken id old r s) (stateOccasion s.cfg s.minuteNow old r) := by
  unfold occasionTaken stateOccasion
  cases r.state with
  | cancelled => exact edited_cancelOccasion h
  | moving => exact edited_alterationOccasion h _
  | moved =>
    dsimp only
    split
    · exact edited_refl h
    · exact edited_alterationOccasion h _
  | planned | approaching | atPlatform | closing | departed | terminated | moveFailed => exact edited_refl h

theorem edited_noticeState (old : CallState) (event : Option TrainEvent) :
    Edited id s (s.noticeState id old event) (stateNoticed s.cfg s.minuteNow old event r) := by
  have hcompared := edited_compareAll h
  have hmoved := hcompared.trans (edited_withdrawMoved hcompared.call)
  have hevent := edited_eventsTaken hmoved.call event
  rw [hmoved.cfg, hmoved.minuteNow] at hevent
  replace hevent := hmoved.trans hevent
  have hoccasion := edited_occasionTaken hevent.call old
  rw [hevent.cfg, hevent.minuteNow] at hoccasion
  rw [noticeState_of_call hevent.call]
  exact hevent.trans hoccasion

theorem edited_noticeAmended : Edited id s (s.noticeAmended id) (rearmedAll s.cfg s.minuteNow (delayRuled s.cfg s.minuteNow r)) := by
  have hdelay := edited_delayRules h
  have hrearm := edited_rearmAll hdelay.call
  rw [hdelay.cfg, hdelay.minuteNow] at hrearm
  exact hdelay.trans hrearm

theorem edited_noticeReplaced (x : Replaced) : Edited id s (s.noticeReplaced id x) (replaceNoticed s.cfg s.minuteNow x r) := by
  have hite {p : Bool} {t u : State} {q q' : CallRecord} (ht : Edited id t u q) (hu : t.call id = some q') :
      Edited id t (if p then u else t) (if p then q else q') := by
    cases p
    · exact edited_refl hu
    · exact ht
  have hkind : Edited id s
      (if x.kindChanged then ((allCues.filter fun n => decide (n ≠ .alteration)).foldl (fun s n => s.withdraw id n) s).compareAll id else s)
      (if x.kindChanged then comparedAll s.cfg r else r) := by
    have hwithdrawn := edited_withdrawList h (allCues.filter fun n => decide (n ≠ .alteration))
    have hcompared := edited_compareAll hwithdrawn.call
    rw [hwithdrawn.cfg] at hcompared
    exact hite (hwithdrawn.trans hcompared) h
  have htimes := hkind.trans (hite (p := x.timesChanged) (edited_delayRules hkind.call) hkind.call)
  have hbase := htimes.trans (hite (p := x.baseChanged) (edited_rearmAll htimes.call) htimes.call)
  rw [htimes.cfg, htimes.minuteNow, hkind.cfg, hkind.minuteNow] at hbase
  exact hbase

theorem edited_noticeReinstated : Edited id s (s.noticeReinstated id) (delayRuled s.cfg s.minuteNow (comparedAll s.cfg r)) := by
  unfold State.noticeReinstated
  rw [h]
  dsimp only
  have hwithdrawn := edited_withdrawList h (allCues.filter fun n => !((s.cue r n).windowOf n).contains CallState.planned)
  have hrest := edited_noticeInserted hwithdrawn.call
  rw [hwithdrawn.cfg, hwithdrawn.minuteNow] at hrest
  exact hwithdrawn.trans hrest

theorem edited_noticeLocalMove (old new : Nat) :
    Edited id s (s.noticeLocalMove id old new) (occasionOf s.cfg s.minuteNow .alteration r) := edited_alterationOccasion h _

theorem edited_noticeAdopted (created : Bool) (before : Nat) :
    Edited id s (s.noticeAdopted id created before) (adoptNoticed s.cfg s.minuteNow created before r) := by
  have hrest := edited_noticeInserted h
  unfold State.noticeAdopted adoptNoticed
  dsimp only
  have hcall : (((s.compareAll id).delayRules id).call id) = _ := hrest.call
  rw [hcall]
  dsimp only
  split
  · have hoccasion := edited_alterationOccasion hrest.call [(delayRuled s.cfg s.minuteNow (comparedAll s.cfg r)).platform]
    rw [hrest.cfg, hrest.minuteNow] at hoccasion
    exact hrest.trans hoccasion
  · exact hrest

end

/-! ### What the notices keep of a record -/

/-- At most the slots differ. -/
def SlotsOnly (r r' : CallRecord) : Prop := r' = { r with slots := r'.slots }

/-- At most the slots and the delay last announced differ. -/
def SlotsAndDelay (r r' : CallRecord) : Prop := r' = { r with slots := r'.slots, lastDelay := r'.lastDelay }

theorem SlotsOnly.trans {r q p : CallRecord} (h : SlotsOnly r q) (k : SlotsOnly q p) : SlotsOnly r p := by
  unfold SlotsOnly at h k ⊢
  rw [h] at k
  exact k

theorem SlotsOnly.withDelay {r q : CallRecord} (h : SlotsOnly r q) : SlotsAndDelay r q := by
  unfold SlotsOnly at h
  unfold SlotsAndDelay
  rw [h]

namespace SlotsAndDelay

variable {r q p : CallRecord}

theorem trans (h : SlotsAndDelay r q) (k : SlotsAndDelay q p) : SlotsAndDelay r p := by
  unfold SlotsAndDelay at h k ⊢
  rw [h] at k
  exact k

theorem state (h : SlotsAndDelay r q) : q.state = r.state := by rw [h]

theorem kind (h : SlotsAndDelay r q) : q.kind = r.kind := by rw [h]

theorem planCue (h : SlotsAndDelay r q) (c : NodeConfig) (n : CueName) : planCue c q n = NoticeRules.planCue c r n := by
  unfold NoticeRules.planCue
  rw [h.kind]

theorem insideOf (h : SlotsAndDelay r q) (c : NodeConfig) (n : CueName) : insideOf c q n = NoticeRules.insideOf c r n := by
  unfold NoticeRules.insideOf
  rw [h.planCue, h.state]

theorem base (h : SlotsAndDelay r q) : q.base = r.base := by
  rw [h]
  rfl

end SlotsAndDelay

theorem slotsOnly_setSlot (r : CallRecord) (n : CueName) (x : CueSlot) : SlotsOnly r (r.setSlot n x) := rfl

theorem slotsOnly_compared (c : NodeConfig) (r : CallRecord) : SlotsOnly r (comparedAll c r) := editSlots_frame _ _ r

theorem slotsOnly_rearmed (c : NodeConfig) (m : Option Nat) (r : CallRecord) : SlotsOnly r (rearmedAll c m r) := editSlots_frame _ _ r

theorem slotsOnly_evented (c : NodeConfig) (m : Option Nat) (event : Option TrainEvent) (r : CallRecord) : SlotsOnly r (evented c m event r) := by
  cases event with
  | none => rfl
  | some e => exact editSlots_frame _ _ r

theorem slotsOnly_occasion (c : NodeConfig) (m : Option Nat) (n : CueName) (r : CallRecord) : SlotsOnly r (occasionOf c m n r) := by
  unfold occasionOf
  split
  · rfl
  · rfl

theorem slotsOnly_stateOccasion (c : NodeConfig) (m : Option Nat) (old : CallState) (r : CallRecord) : SlotsOnly r (stateOccasion c m old r) := by
  unfold stateOccasion
  split
  · exact slotsOnly_occasion c m _ r
  · exact slotsOnly_occasion c m _ r
  · split
    · rfl
    · exact slotsOnly_occasion c m _ r
  all_goals rfl

theorem slotsOnly_stateNoticed (c : NodeConfig) (m : Option Nat) (old : CallState) (event : Option TrainEvent) (r : CallRecord) :
    SlotsOnly r (stateNoticed c m old event r) :=
  ((slotsOnly_compared c r).trans (slotsOnly_evented c m event _)).trans (slotsOnly_stateOccasion c m old _)

theorem delay_tested (c : NodeConfig) (m : Option Nat) (r : CallRecord) : SlotsAndDelay r (delayTested c m r) := by
  unfold delayTested
  split
  · rfl
  · split <;> rfl

theorem delay_ended (c : NodeConfig) (r : CallRecord) : SlotsAndDelay r (delayEnded c r) := by
  unfold delayEnded
  split <;> rfl

theorem delay_ruled (c : NodeConfig) (m : Option Nat) (r : CallRecord) : SlotsAndDelay r (delayRuled c m r) :=
  (delay_tested c m r).trans (delay_ended c _)

theorem delay_inserted (c : NodeConfig) (m : Option Nat) (r : CallRecord) : SlotsAndDelay r (delayRuled c m (comparedAll c r)) :=
  (slotsOnly_compared c r).withDelay.trans (delay_ruled c m _)

theorem delay_amended (c : NodeConfig) (m : Option Nat) (r : CallRecord) : SlotsAndDelay r (rearmedAll c m (delayRuled c m r)) :=
  (delay_ruled c m r).trans (slotsOnly_rearmed c m _).withDelay

theorem delay_replaced (c : NodeConfig) (m : Option Nat) (x : Replaced) (r : CallRecord) : SlotsAndDelay r (replaceNoticed c m x r) := by
  have hite {q : CallRecord} {p : Bool} {f : CallRecord → CallRecord} (h : SlotsAndDelay r q) (hf : SlotsAndDelay q (f q)) :
      SlotsAndDelay r (if p then f q else q) := by
    cases p
    · exact h
    · exact h.trans hf
  exact hite (f := rearmedAll c m) (hite (f := delayRuled c m) (hite (f := comparedAll c) rfl (slotsOnly_compared c r).withDelay)
    (delay_ruled c m _)) (slotsOnly_rearmed c m _).withDelay

theorem delay_adopted (c : NodeConfig) (m : Option Nat) (created : Bool) (before : Nat) (r : CallRecord) :
    SlotsAndDelay r (adoptNoticed c m created before r) := by
  have hrest := delay_inserted c m r
  unfold adoptNoticed
  dsimp only
  split
  · exact hrest.trans (slotsOnly_occasion c m _ _).withDelay
  · exact hrest

end Sys2Proof.Proofs.NoticeRules

end

section
/-! The frames of the calls: train events, amendments, cancellations, moves and answers (R41 to R51). -/

namespace Sys2Proof.Proofs.CallOutcomes

open Sys2Proof.Machine
open Sys2Proof.Proofs.LiveClose Sys2Proof.Proofs.Faults Sys2Proof.Proofs.Upkeep Sys2Proof.Proofs.Uphold Sys2Proof.Proofs.CallRules
open Sys2Proof.Proofs.Commands Sys2Proof.Proofs.Steps Sys2Proof.Proofs.Reports Sys2Proof.Proofs.Starting Sys2Proof.Proofs.Transmit
open Sys2Proof.Proofs.LineRules Sys2Proof.Proofs.FaultRules Sys2Proof.Proofs.QueueRules Sys2Proof.Proofs.GroupRules
open Sys2Proof.Proofs.CallFrames Sys2Proof.Proofs.NoticeRules

/-! ### Train events (R43, R44) -/

/-- A record put in the table and the STATE notice of it. -/
theorem edited_putState {id : Nat} {s : State} {r : CallRecord} (h : r.id = id) (old : CallState) (event : Option TrainEvent) :
    Edited id s ((s.putCall r).noticeState id old event) (stateNoticed s.cfg s.minuteNow old event r) := by
  have hput : Edited id s (s.putCall r) r := edited_putCall h
  exact hput.trans (edited_noticeState hput.call old event)

theorem edited_endCall {id : Nat} {s : State} {r : CallRecord} (h : r.id = id) (st : CallState) (event : Option TrainEvent) :
    Edited id s (s.endCall r st event) (stateNoticed s.cfg s.minuteNow r.state event (r.enterEnded st s.lingerEnd)) := by
  unfold State.endCall
  rw [h]
  exact edited_putState (s := s) (r := r.enterEnded st s.lingerEnd) h r.state event

theorem eventMinute_eq (s : State) : s.eventMinute = match s.minuteNow with | some m => .minute m | none => .untimed s.now := by
  unfold State.eventMinute
  cases s.minuteNow <;> rfl

/-- A record as a train event makes it, before its notice (R43). -/
def eventRecord (s : State) (x : EventFields) (r : CallRecord) (st : CallState) : CallRecord :=
  if st.isLive then { r with events := r.events.set x.event.idx s.eventMinute, state := st }
  else { r with events := r.events.set x.event.idx s.eventMinute }.enterEnded st s.lingerEnd

theorem edited_trainEvent {s : State} {x : EventFields} {r : CallRecord} {st : CallState} (hr : s.call x.id = some r)
    (hrunning : r.state.running = true) (htarget : eventTarget r.kind x.event = some st) (hearlier : r.state.earlier st = true) :
    Edited x.id s (s.trainEvent x) (stateNoticed s.cfg s.minuteNow r.state (some x.event) (eventRecord s x r st)) := by
  have hid : r.id = x.id := id_of_call hr
  unfold State.trainEvent eventRecord
  simp only [hr, hrunning, htarget, hearlier, if_true]
  split
  · exact edited_putState (s := s) (r := { r with events := r.events.set x.event.idx s.eventMinute, state := st }) hid _ _
  · exact edited_endCall (s := s) (r := { r with events := r.events.set x.event.idx s.eventMinute }) hid _ _

/-- Settles O26: the record is put in its new state, and the notice edits its slots alone. -/
theorem trainEventTaken : Obligations.TrainEventTaken := by
  intro dst src payload s x hreach hread
  have hexec := exec_reaches hreach hread (y := exec (.trainEvent dst src payload) s) rfl
  refine ⟨fun r st hr hrunning htarget hearlier => ?_, fun r hr hrunning hno => ?_, fun hno => ?_⟩
  · have hedit := edited_trainEvent (s := s.taken) hr hrunning htarget hearlier
    obtain ⟨r', hr'⟩ : ∃ r', r' = stateNoticed s.taken.cfg s.taken.minuteNow r.state (some x.event) (eventRecord s.taken x r st) := ⟨_, rfl⟩
    have hframe : SlotsOnly (eventRecord s.taken x r st) r' := hr' ▸ slotsOnly_stateNoticed _ _ _ _ _
    rw [← hr'] at hedit
    have hminute : s.taken.eventMinute = match s.minuteNow with | some m => .minute m | none => .untimed s.now := eventMinute_eq s.taken
    refine ⟨_, r', hexec, hedit.call, ?_⟩
    unfold eventRecord at hframe
    rw [hminute] at hframe
    unfold SlotsOnly at hframe
    split at hframe
    next hlive =>
      rw [if_pos hlive, hframe]
      exact ⟨rfl, rfl, rfl, rfl, hedit.others, hedit.undisturbed⟩
    next hlive =>
      rw [if_neg hlive, hframe]
      exact ⟨rfl, rfl, rfl, rfl, hedit.others, hedit.undisturbed⟩
  · rw [hexec]
    have hr' : s.taken.call x.id = some r := hr
    unfold State.trainEvent
    simp only [hr', hrunning, if_true]
    split
    · rfl
    next st hst =>
      rw [if_neg (by rw [hno st hst]; exact Bool.false_ne_true)]
  · rw [hexec]
    unfold State.trainEvent
    split
    · rfl
    next r hr =>
      rw [if_neg (by rw [hno r hr]; exact Bool.false_ne_true)]

/-! ### A CALL_HANDOVER sent (R44, R47, R51) -/

theorem readMinute_eq (s : State) (e : EventMinute) : s.readMinute e = e.read s.now s.minuteNow := by
  unfold State.readMinute EventMinute.read resolveMinute
  cases e <;> cases s.minuteNow <;> rfl

theorem readEvents_eq (s : State) (r : CallRecord) :
    r.readEvents s.now s.minuteNow = { r with events := r.events.map s.readMinute } := by
  unfold CallRecord.readEvents
  rw [show s.readMinute = fun e => e.read s.now s.minuteNow from funext (readMinute_eq s)]

theorem handover_readEvents (s : State) (r : CallRecord) (target : Nat) (st : CallState) :
    (r.readEvents s.now s.minuteNow).handover target st = s.handing r target st := by
  have hevents : (r.events.map s.readMinute).map EventMinute.carried
      = r.events.map fun e => match s.readMinute e with | .minute m => some m | _ => none := by
    rw [Vector.map_map]
    refine congrArg (fun f => r.events.map f) (funext fun e => ?_)
    change (s.readMinute e).carried = _
    cases s.readMinute e <;> rfl
  rw [readEvents_eq]
  exact congrArg (fun v => { s.handing r target st with events := v }) hevents

/-- From `s` to `t` the record of a call became `r` and a frame of the calls was offered, which is queued where the queue has room. -/
structure Offered (id : Nat) (s t : State) (r : CallRecord) (k : FrameKind) (payload : List Byte) : Prop where
  undisturbed : Undisturbed s t
  others : OtherCallsKept id s t
  call : t.call id = some r
  queued : s.onLink = true → solid s.link.queue < 8 → s.Queued t k payload
  fresh : ∀ f ∈ t.link.queue, callKind f.kind = true → f.kind ≠ k → f ∈ s.link.queue

namespace Offered

variable {id : Nat} {s t u : State} {r r' : CallRecord} {k : FrameKind} {payload : List Byte}

/-- What follows an offer may edit the record. -/
theorem edited (h : Offered id s t r k payload) (hk : callKind k = true) (g : Edited id t u r') : Offered id s u r' k payload where
  undisturbed := undisturbed_trans h.undisturbed g.undisturbed
  others j hj := (g.others j hj).trans (h.others j hj)
  call := g.call
  queued hon hroom := g.aside.queued_right hk (h.queued hon hroom)
  fresh f hf hcall hne := h.fresh f (g.aside.calls.fresh f hf hcall) hcall hne

theorem cfg (h : Offered id s t r k payload) : t.cfg = s.cfg := by
  unfold State.cfg
  rw [h.undisturbed.startup]

theorem now (h : Offered id s t r k payload) : t.now = s.now := congrArg Clock.now h.undisturbed.clock

theorem minuteNow (h : Offered id s t r k payload) : t.minuteNow = s.minuteNow := by
  unfold State.minuteNow
  rw [h.cfg, h.undisturbed.clock]

end Offered

theorem mem_of_txInsert {s : State} {f g : TxFrame} (h : g ∈ (s.txInsert f).link.queue) : g.kind = f.kind ∨ g ∈ s.link.queue := by
  have hinsert {q : List TxFrame} (hg : g ∈ insertFrame { f with seq := s.link.seqCounter } q) : g.kind = f.kind ∨ g ∈ q := by
    obtain rfl | hg := mem_insertFrame.mp hg
    · exact .inl rfl
    · exact .inr hg
  unfold State.txInsert at h
  split at h
  · exact hinsert h
  · split at h
    · exact (hinsert h).imp_right List.mem_of_mem_eraseP
    · exact .inr h

theorem offered_offer {id : Nat} {s : State} {r : CallRecord} (h : s.call id = some r) {k : FrameKind} (hk : callKind k = true)
    (payload : List Byte) : Offered id s (s.offer (plainFrame 0 k payload 2)) r k payload where
  undisturbed := undisturbed_of_keeps (keeps_offer s _ rfl)
  others j _ := call_of_calls (keeps_offer s _ rfl).calls j
  call := (call_of_calls (keeps_offer s _ rfl).calls id).trans h
  queued hon hroom := queued_offer hon hroom hk payload
  fresh f hf hcall hne := by
    have hf' := (aside_pump _).calls.fresh f hf hcall
    cases hon : s.onLink with
    | false => rwa [txOffer_of_unlinked hon] at hf'
    | true =>
      rw [txOffer_of_plain hon] at hf'
      · exact (mem_of_txInsert hf').resolve_left fun hkind => hne hkind
      all_goals
        intro h
        change k = _ at h
        rw [h] at hk
        cases hk

/-- An edit that leaves the transmit queue may come before an offer. -/
theorem Edited.offered {id : Nat} {s t u : State} {r r' : CallRecord} {k : FrameKind} {payload : List Byte} (g : Edited id s t r)
    (hk : callKind k = true) (hroom : s.onLink = true → solid s.link.queue < 8 → solid t.link.queue < 8) (h : Offered id t u r' k payload) :
    Offered id s u r' k payload where
  undisturbed := undisturbed_trans g.undisturbed h.undisturbed
  others j hj := (h.others j hj).trans (g.others j hj)
  call := h.call
  queued hon hlt := g.aside.queued_left hk (h.queued (g.onLink.trans hon) (hroom hon hlt))
  fresh f hf hcall hne := g.aside.calls.fresh f (h.fresh f hf hcall hne) hcall

theorem offered_sendHandover {id : Nat} {s : State} {r : CallRecord} (h : r.id = id) (target : Nat) (st : CallState) :
    Offered id s (s.sendHandover r target st) { r with events := r.events.map s.readMinute } .callHandover
      (handoverPayload (s.handing r target st)) := by
  have hput : Edited id s (s.putCall { r with events := r.events.map s.readMinute }) { r with events := r.events.map s.readMinute } :=
    edited_putCall h
  unfold State.sendHandover
  dsimp only
  rw [handover_readEvents, readEvents_eq]
  exact Edited.offered hput rfl (fun _ hlt => hlt) (offered_offer hput.call rfl _)

theorem resendHandover_of_moving {id : Nat} {s : State} {r : CallRecord} {m : Moving} (h : s.call id = some r) (hmoving : r.moving = some m) :
    s.resendHandover id = s.sendHandover r m.target m.prior := by
  unfold State.resendHandover
  simp only [h, hmoving]

theorem readMinute_congr {s t : State} (hnow : t.now = s.now) (hminute : t.minuteNow = s.minuteNow) : t.readMinute = s.readMinute := by
  funext e
  rw [readMinute_eq, readMinute_eq, hnow, hminute]

theorem handing_congr {s t : State} (hnow : t.now = s.now) (hminute : t.minuteNow = s.minuteNow) : t.handing = s.handing := by
  funext r target st
  unfold State.handing
  rw [readMinute_congr hnow hminute]

/-! ### The room that an amendment in MOVING leaves (R51) -/

theorem delayTest_of_moving {id : Nat} {s : State} {r : CallRecord} (h : s.call id = some r) (hst : r.state = .moving) : s.delayTest id = s := by
  have hout : s.inside r .delay = false := by
    unfold State.inside
    rw [hst]
    rfl
  unfold State.delayTest
  rw [h]
  dsimp only
  split
  · rfl
  · rw [if_neg (by simp [hout])]

theorem solid_delayEnd (s : State) (id : Nat) : solid (s.delayEnd id).link.queue ≤ solid s.link.queue + 1 := by
  unfold State.delayEnd
  split
  · exact Nat.le_succ _
  · dsimp only
    split
    · exact solid_stopKey (s.putCall _) _ _
    · exact Nat.le_succ _

theorem link_setSlot (s : State) (id : Nat) (n : CueName) (f : CueSlot → CueSlot) : (s.setSlot id n f).link = s.link := by
  unfold State.setSlot
  split <;> rfl

theorem link_rearm (s : State) (id : Nat) (n : CueName) : (s.rearm id n).link = s.link := by
  unfold State.rearm
  split
  · split
    · exact link_setSlot s id n _
    · rfl
  · rfl

theorem link_rearmAll (s : State) (id : Nat) : (s.rearmAll id).link = s.link :=
  List.foldlRecOn (motive := fun t : State => t.link = s.link) allCues _ rfl fun t ht n _ => (link_rearm t id n).trans ht

theorem solid_delayRules_of_moving {id : Nat} {s : State} {r : CallRecord} (h : s.call id = some r) (hst : r.state = .moving) :
    solid (s.delayRules id).link.queue ≤ solid s.link.queue + 1 := by
  unfold State.delayRules
  rw [delayTest_of_moving h hst]
  exact solid_delayEnd s id

theorem solid_noticeAmended_of_moving {id : Nat} {s : State} {r : CallRecord} (h : s.call id = some r) (hst : r.state = .moving) :
    solid (s.noticeAmended id).link.queue ≤ solid s.link.queue + 1 := by
  unfold State.noticeAmended
  rw [link_rearmAll]
  exact solid_delayRules_of_moving h hst

/-! ### CALL_AMEND (R41) -/

/-- A record with another expected minute. -/
def amended (r : CallRecord) (e : Option Nat) : CallRecord := { r with expected := e }

theorem edited_amended {s : State} {a : AmendFields} {r : CallRecord} (hr : s.call a.id = some r) :
    Edited a.id s ((s.putCall (amended r a.expected)).noticeAmended a.id)
      (rearmedAll s.cfg s.minuteNow (delayRuled s.cfg s.minuteNow (amended r a.expected))) := by
  have hid : r.id = a.id := id_of_call hr
  have hput : Edited a.id s (s.putCall (amended r a.expected)) (amended r a.expected) := edited_putCall hid
  exact hput.trans (edited_noticeAmended hput.call)

theorem callAmend_of_live {s : State} {a : AmendFields} {r : CallRecord} (hr : s.call a.id = some r) (hlive : r.state.isLive = true)
    (hne : r.expected ≠ a.expected) :
    s.callAmend a = if r.state = .moving then ((s.putCall (amended r a.expected)).noticeAmended a.id).resendHandover a.id
      else (s.putCall (amended r a.expected)).noticeAmended a.id := by
  unfold State.callAmend
  rw [hr]
  exact if_pos ⟨hlive, hne⟩

/-- An amendment in MOVING, with the CALL_HANDOVER that follows it (R51). -/
theorem offered_callAmend {s : State} {a : AmendFields} {r q : CallRecord} {m : Moving} (hr : s.call a.id = some r)
    (hst : r.state = .moving) (hmoving : r.moving = some m) (hne : r.expected ≠ a.expected)
    (hq : q = rearmedAll s.cfg s.minuteNow (delayRuled s.cfg s.minuteNow (amended r a.expected))) :
    OtherCallsKept a.id s (s.callAmend a) ∧ Undisturbed s (s.callAmend a)
      ∧ (s.callAmend a).call a.id = some { q with events := q.events.map s.readMinute }
      ∧ (s.onLink = true → s.link.queue.length ≤ 5 →
        s.Queued (s.callAmend a) .callHandover (handoverPayload (s.handing q m.target m.prior))) := by
  have hid : r.id = a.id := id_of_call hr
  have hedit := edited_amended hr
  have hframe : SlotsAndDelay (amended r a.expected) q := hq ▸ delay_amended _ _ _
  rw [← hq] at hedit
  have hq' : q.moving = some m := by
    rw [hframe]
    exact hmoving
  have hput : (s.putCall (amended r a.expected)).call a.id = some (amended r a.expected) := call_putCall hid
  have hsolid := solid_noticeAmended_of_moving hput hst
  have hsend := offered_sendHandover (s := (s.putCall (amended r a.expected)).noticeAmended a.id) (id_of_call hedit.call) m.target m.prior
  rw [readMinute_congr hedit.now hedit.minuteNow, handing_congr hedit.now hedit.minuteNow] at hsend
  rw [callAmend_of_live hr (by rw [hst]; rfl) hne, if_pos hst, resendHandover_of_moving hedit.call hq']
  refine ⟨fun j hj => (hsend.others j hj).trans (hedit.others j hj), undisturbed_trans hedit.undisturbed hsend.undisturbed, hsend.call,
    fun hon hroom => ?_⟩
  have hle := solid_le s.link.queue
  exact hedit.aside.queued_left rfl (hsend.queued (hedit.onLink.trans hon) (hsolid.trans_lt (by
    change solid s.link.queue + 1 < 8
    omega)))

/-! ### CALL_CANCEL (R42) -/

theorem offered_cancelCall {id : Nat} {s : State} {r : CallRecord} {m : Moving} (hr : s.call id = some r) (hmoving : r.moving = some m) :
    Offered id s (s.cancelCall r)
      (stateNoticed s.cfg s.minuteNow r.state none ({ r with events := r.events.map s.readMinute }.enterEnded .cancelled s.lingerEnd))
      .callHandover (handoverPayload (s.handing r m.target .cancelled)) := by
  have hid : r.id = id := id_of_call hr
  have hsend := offered_sendHandover (s := s) hid m.target .cancelled
  have hend := edited_endCall (s := s.sendHandover r m.target .cancelled) (r := { r with events := r.events.map s.readMinute }) hid .cancelled none
  have hlinger : (s.sendHandover r m.target .cancelled).lingerEnd = s.lingerEnd := by
    unfold State.lingerEnd
    rw [hsend.now, hsend.cfg]
  rw [hsend.cfg, hsend.minuteNow, hlinger] at hend
  have hcall : (s.sendHandover r m.target .cancelled).call r.id = some { r with events := r.events.map s.readMinute } := hid ▸ hsend.call
  unfold State.cancelCall
  simp only [hmoving, hcall]
  exact hsend.edited rfl hend

theorem edited_cancelCall {id : Nat} {s : State} {r : CallRecord} (hr : s.call id = some r) (hmoving : r.moving = none) :
    Edited id s (s.cancelCall r) (stateNoticed s.cfg s.minuteNow r.state none (r.enterEnded .cancelled s.lingerEnd)) := by
  have hid : r.id = id := id_of_call hr
  have hcall : s.call r.id = some r := by rw [hid, hr]
  unfold State.cancelCall
  simp only [hmoving, hcall]
  exact edited_endCall hid .cancelled none

theorem callCancel_of_live {s : State} {id : Nat} {r : CallRecord} (hr : s.call id = some r) (hlive : r.state.isLive = true) :
    s.callCancel id = s.cancelCall r := by
  unfold State.callCancel
  rw [hr]
  exact if_pos hlive

theorem callCancel_of_ended {s : State} {id : Nat} (h : ∀ r, s.call id = some r → r.state.isLive = false) : s.callCancel id = s := by
  unfold State.callCancel
  split
  · rfl
  next r hr => exact if_neg (by rw [h r hr]; exact Bool.false_ne_true)

/-- Settles O25: the notice edits the slots and the delay announced, a cancellation the slots; the CALL_HANDOVER finds room after at most
one RELEASE. -/
theorem callAmended : Obligations.CallAmended := by
  refine ⟨fun dst src payload s a hreach hread => ?_, fun dst src payload s id hreach hread => ?_⟩
  · have hexec := exec_reaches hreach hread (y := exec (.callAmend dst src payload) s) rfl
    refine ⟨fun r hr hlive hne => ?_, fun hno => ?_⟩
    · obtain ⟨q, hq⟩ : ∃ q, q = rearmedAll s.cfg s.minuteNow (delayRuled s.cfg s.minuteNow (amended r a.expected)) := ⟨_, rfl⟩
      have hframe : SlotsAndDelay (amended r a.expected) q := hq ▸ delay_amended _ _ _
      have hevents : q.events = r.events := by
        rw [hframe]
        rfl
      have hfull : q = { r with expected := a.expected, slots := q.slots, lastDelay := q.lastDelay, events := q.events } := by
        rw [hevents]
        exact hframe
      by_cases hst : r.state = .moving
      · obtain hm | ⟨m, hm⟩ := Option.eq_none_or_eq_some r.moving
        · have hedit := edited_amended (s := s.taken) hr
          have hnone : q.moving = none := by
            rw [hframe]
            exact hm
          replace hedit : Edited a.id s.taken ((s.taken.putCall (amended r a.expected)).noticeAmended a.id) q := hq ▸ hedit
          have hact : s.taken.callAmend a = (s.taken.putCall (amended r a.expected)).noticeAmended a.id := by
            rw [callAmend_of_live (s := s.taken) hr hlive hne, if_pos hst]
            unfold State.resendHandover
            simp only [hedit.call, hnone]
          rw [← hact] at hedit
          exact ⟨_, q, hexec, hedit.call, hfull, fun _ => hevents, hedit.others, hedit.undisturbed,
            fun hne => absurd hst hne, (fun m _ hsome => nomatch hm.symm.trans hsome)⟩
        · obtain ⟨hothers, hundisturbed, hcall, hqueued⟩ := offered_callAmend (s := s.taken) hr hst hm hne hq
          refine ⟨_, _, hexec, hcall, congrArg (fun v : CallRecord => { v with events := q.events.map s.taken.readMinute }) hfull,
            fun hne => absurd hst hne, hothers, hundisturbed, fun hne => absurd hst hne, fun m' _ hm' => ⟨?_, fun hroom => ?_⟩⟩
          · rw [hevents]
            rfl
          · obtain rfl : m = m' := Option.some.inj (hm.symm.trans hm')
            have hback : { { q with events := q.events.map s.taken.readMinute } with events := r.events } = q := by rw [← hevents]
            rw [hback]
            exact hqueued hreach.linked hroom
      · have hedit := edited_amended (s := s.taken) hr
        replace hedit : Edited a.id s.taken ((s.taken.putCall (amended r a.expected)).noticeAmended a.id) q := hq ▸ hedit
        have hact : s.taken.callAmend a = (s.taken.putCall (amended r a.expected)).noticeAmended a.id := by
          rw [callAmend_of_live (s := s.taken) hr hlive hne, if_neg hst]
        rw [← hact] at hedit
        exact ⟨_, q, hexec, hedit.call, hfull, fun _ => hevents, hedit.others, hedit.undisturbed,
          fun _ => hedit.aside.no_new rfl, fun m hmoving => absurd hmoving hst⟩
    · rw [hexec]
      unfold State.callAmend
      split
      · rfl
      next r hr =>
        rw [if_neg]
        rintro ⟨hlive, hne⟩
        obtain h | h := hno r hr
        · rw [hlive] at h
          cases h
        · exact hne h
  · have hexec := exec_reaches hreach hread (y := exec (.callCancel dst src payload) s) rfl
    refine ⟨fun r hr hlive => ?_, fun hno => ?_⟩
    · rw [callCancel_of_live (s := s.taken) hr hlive] at hexec
      obtain hm | ⟨m, hm⟩ := Option.eq_none_or_eq_some r.moving
      · have hedit := edited_cancelCall (s := s.taken) hr hm
        have hframe := slotsOnly_stateNoticed s.taken.cfg s.taken.minuteNow r.state none (r.enterEnded .cancelled s.taken.lingerEnd)
        generalize stateNoticed s.taken.cfg s.taken.minuteNow r.state none (r.enterEnded .cancelled s.taken.lingerEnd) = q at hedit hframe
        refine ⟨_, q, hexec, hedit.call, ?_, fun _ => ⟨?_, hedit.aside.no_new rfl⟩, hedit.others, hedit.undisturbed,
          (fun m hsome => nomatch hm.symm.trans hsome)⟩
        · rw [hframe]
          rfl
        · rw [hframe]
          rfl
      · have hsent := offered_cancelCall (s := s.taken) hr hm
        have hframe := slotsOnly_stateNoticed s.taken.cfg s.taken.minuteNow r.state none
          ({ r with events := r.events.map s.taken.readMinute }.enterEnded .cancelled s.taken.lingerEnd)
        generalize stateNoticed s.taken.cfg s.taken.minuteNow r.state none
          ({ r with events := r.events.map s.taken.readMinute }.enterEnded .cancelled s.taken.lingerEnd) = q at hsent hframe
        refine ⟨_, q, hexec, hsent.call, ?_, (fun hnone => nomatch hm.symm.trans hnone), hsent.others, hsent.undisturbed,
          fun m' hm' => ⟨?_, fun hroom => ?_⟩⟩
        · rw [hframe]
          rfl
        · rw [hframe]
          rfl
        · obtain rfl : m = m' := Option.some.inj (hm.symm.trans hm')
          exact hsent.queued hreach.linked (solid_lt_of_room hroom)
    · rw [hexec, callCancel_of_ended (s := s.taken) hno]

/-! ### CALL_MOVE (R46 to R48) -/

theorem running_ne_moving {st : CallState} (h : st.running = true) : st ≠ .moving := by
  rintro rfl
  cases h

theorem live_of_running {st : CallState} (h : st.running = true) : st.isLive = true := (Bool.and_eq_true_iff.mp h).1

theorem callMove_of_running {s : State} {x : CallPlatform} {r : CallRecord} (hr : s.call x.id = some r) (hrunning : r.state.running = true) :
    s.callMove x = if x.platform = r.platform then s
      else if s.cfg.ownPlatform x.platform then s.localMove r x.platform else s.beginHandover r x.platform := by
  unfold State.callMove
  rw [hr]
  dsimp only
  split
  next hst _ => exact absurd hst (running_ne_moving hrunning)
  next => rw [if_pos hrunning]

theorem callMove_of_moving {s : State} {x : CallPlatform} {r : CallRecord} {m : Moving} (hr : s.call x.id = some r) (hst : r.state = .moving)
    (hmoving : r.moving = some m) : s.callMove x = s.moveAgain r m x.platform := by
  unfold State.callMove
  simp only [hr, hst, hmoving]

theorem callMove_of_ended {s : State} {x : CallPlatform} {r : CallRecord} (hr : s.call x.id = some r) (hended : r.state.isLive = false) :
    s.callMove x = s := by
  have hnot : ¬r.state.running = true := fun h => by
    rw [live_of_running h] at hended
    cases hended
  unfold State.callMove
  rw [hr]
  dsimp only
  split
  next hst _ =>
    rw [hst] at hended
    cases hended
  next => rw [if_neg hnot]

theorem edited_localMove {s : State} {id : Nat} {r : CallRecord} (hr : s.call id = some r) (platform : Nat) :
    Edited id s (s.localMove r platform) (occasionOf s.cfg s.minuteNow .alteration { r with platform := platform }) := by
  obtain rfl : r.id = id := id_of_call hr
  have hput : Edited r.id s (s.putCall { r with platform := platform }) { r with platform := platform } := edited_putCall rfl
  exact hput.trans (edited_noticeLocalMove hput.call r.platform platform)

/-- A record as a hand-over begins (R47). -/
def movingRecord (r : CallRecord) (m : Moving) : CallRecord := { r with state := .moving, moving := some m }

/-- A record with its event minutes read (R44). -/
def readRecord (s : State) (r : CallRecord) : CallRecord := { r with events := r.events.map s.readMinute }

/-- A record put in the table and handed over (R47). -/
theorem offered_putHandover {s : State} {id : Nat} {r : CallRecord} (hid : r.id = id) (target : Nat) (st : CallState) :
    Offered id s ((s.putCall r).sendHandover r target st) (readRecord s r) .callHandover (handoverPayload (s.handing r target st)) := by
  have hput : Edited id s (s.putCall r) r := edited_putCall hid
  have hsend := offered_sendHandover (s := s.putCall r) hid target st
  rw [readMinute_congr (s := s) hput.now hput.minuteNow, handing_congr (s := s) hput.now hput.minuteNow] at hsend
  exact Edited.offered hput rfl (fun _ hlt => hlt) hsend

theorem offered_beginHandover {s : State} {id : Nat} {r : CallRecord} (hr : s.call id = some r) (target : Nat) :
    Offered id s (s.beginHandover r target)
      (stateNoticed s.cfg s.minuteNow r.state none
        (readRecord s (movingRecord r { prior := r.state, target := target, deadline := s.now + 10000 }))) .callHandover
      (handoverPayload (s.handing r target r.state)) := by
  obtain rfl : r.id = id := id_of_call hr
  have hoffered := offered_putHandover (s := s) (id := r.id)
    (r := movingRecord r { prior := r.state, target := target, deadline := s.now + 10000 }) rfl target r.state
  have hnotice := edited_noticeState hoffered.call r.state none
  rw [hoffered.cfg, hoffered.minuteNow] at hnotice
  exact hoffered.edited rfl hnotice

/-- A record that a CALL_MOVE brings back to a platform of this node (R48). -/
def returnedRecord (r : CallRecord) (m : Moving) (platform : Nat) : CallRecord :=
  { r with state := m.prior, moving := none, platform := platform }

theorem edited_moveBack {s : State} {id : Nat} {r : CallRecord} {platform : Nat} (hr : s.call id = some r) (m : Moving)
    (hown : s.cfg.ownPlatform platform = true) :
    Edited id s (s.moveAgain r m platform)
      (occasionOf s.cfg s.minuteNow .alteration (stateNoticed s.cfg s.minuteNow .moving none (returnedRecord r m platform))) := by
  obtain rfl : r.id = id := id_of_call hr
  have hnotice := edited_putState (s := s) (id := r.id) (r := returnedRecord r m platform) rfl .moving none
  have hmove := edited_noticeLocalMove hnotice.call r.platform platform
  rw [hnotice.cfg, hnotice.minuteNow] at hmove
  unfold State.moveAgain
  rw [if_pos hown]
  exact hnotice.trans hmove

/-- A record in MOVING with a new target (R48). -/
def retargeted (s : State) (r : CallRecord) (m : Moving) (platform : Nat) : CallRecord :=
  { r with moving := some { m with target := platform, deadline := s.now + 10000 } }

theorem offered_moveOn {s : State} {id : Nat} {r : CallRecord} {platform : Nat} (hr : s.call id = some r) (m : Moving)
    (hother : s.cfg.ownPlatform platform = false) :
    Offered id s (s.moveAgain r m platform) (readRecord s (retargeted s r m platform)) .callHandover
      (handoverPayload (s.handing r platform m.prior)) := by
  obtain rfl : r.id = id := id_of_call hr
  unfold State.moveAgain
  rw [if_neg (by rw [hother]; exact Bool.false_ne_true)]
  exact offered_putHandover (s := s) (id := r.id) (r := retargeted s r m platform) rfl platform m.prior

/-- Settles O27: the four moves in turn, each the record put, its CALL_HANDOVER where there is one, and a notice that edits slots. -/
theorem callMoves : Obligations.CallMoves := by
  intro dst src payload s x r hreach hread hr
  have hexec := exec_reaches hreach hread (y := exec (.callMove dst src payload) s) rfl
  refine ⟨fun hrunning hsame => ?_, fun hended => ?_, ?_⟩
  · rw [hexec, callMove_of_running (s := s.taken) hr hrunning, if_pos hsame]
  · rw [hexec, callMove_of_ended (s := s.taken) hr hended]
  rintro (⟨hrunning, hne⟩ | ⟨hst, hsome⟩)
  · have hst := running_ne_moving hrunning
    rw [callMove_of_running (s := s.taken) hr hrunning, if_neg hne] at hexec
    cases hown : s.cfg.ownPlatform x.platform with
    | true =>
      have hedit := edited_localMove (s := s.taken) hr x.platform
      have hframe := slotsOnly_occasion s.taken.cfg s.taken.minuteNow .alteration { r with platform := x.platform }
      generalize occasionOf s.taken.cfg s.taken.minuteNow .alteration { r with platform := x.platform } = q at hedit hframe
      rw [if_pos (show s.taken.cfg.ownPlatform x.platform = true from hown)] at hexec
      refine ⟨_, q, hexec, hedit.call, hedit.others, hedit.undisturbed, ?_, fun _ _ => ?_, (fun _ h => nomatch h),
        fun m h => absurd h hst, fun m h => absurd h hst, fun _ => ⟨?_, hedit.aside.no_new rfl⟩, (fun h => nomatch h)⟩
      all_goals rw [hframe]
      exact ⟨rfl, rfl, rfl⟩
    | false =>
      have hsent := offered_beginHandover (s := s.taken) hr x.platform
      have hframe := slotsOnly_stateNoticed s.taken.cfg s.taken.minuteNow r.state none 
        (readRecord s.taken (movingRecord r { prior := r.state, target := x.platform, deadline := s.taken.now + 10000 }))
      generalize stateNoticed s.taken.cfg s.taken.minuteNow r.state none 
        (readRecord s.taken (movingRecord r { prior := r.state, target := x.platform, deadline := s.taken.now + 10000 })) = q at hsent hframe
      rw [if_neg (by rw [show s.taken.cfg.ownPlatform x.platform = false from hown]; exact Bool.false_ne_true)] at hexec
      refine ⟨_, q, hexec, hsent.call, hsent.others, hsent.undisturbed, ?_, (fun _ h => nomatch h), fun _ _ => ?_,
        fun m h => absurd h hst, fun m h => absurd h hst, (fun h => nomatch h),
        fun _ => ⟨?_, fun hroom _ => hsent.queued hreach.linked (solid_lt_of_room hroom), fun m _ h => absurd h hst⟩⟩
      all_goals rw [hframe]
      · rfl
      · exact ⟨rfl, rfl, rfl⟩
      · rfl
  · obtain ⟨m, hm⟩ := Option.isSome_iff_exists.mp hsome
    have heq {m' : Moving} (h : r.moving = some m') : m = m' := Option.some.inj (hm.symm.trans h)
    rw [callMove_of_moving (s := s.taken) hr hst hm] at hexec
    cases hown : s.cfg.ownPlatform x.platform with
    | true =>
      have hedit := edited_moveBack (s := s.taken) hr m hown
      have hframe := (slotsOnly_stateNoticed s.taken.cfg s.taken.minuteNow .moving none (returnedRecord r m x.platform)).trans
        (slotsOnly_occasion s.taken.cfg s.taken.minuteNow .alteration _)
      generalize occasionOf s.taken.cfg s.taken.minuteNow .alteration _ = q at hedit hframe
      refine ⟨_, q, hexec, hedit.call, hedit.others, hedit.undisturbed, ?_, fun h => absurd hst h, fun h => absurd hst h,
        fun m' _ hm' _ => ?_, (fun _ _ _ h => nomatch h), fun _ => ⟨?_, hedit.aside.no_new rfl⟩, (fun h => nomatch h)⟩
      · rw [hframe]
        rfl
      · obtain rfl := heq hm'
        rw [hframe]
        exact ⟨rfl, rfl, rfl⟩
      · rw [hframe]
        rfl
    | false =>
      have hsent := offered_moveOn (s := s.taken) hr m hown
      refine ⟨_, _, hexec, hsent.call, hsent.others, hsent.undisturbed, rfl, fun h => absurd hst h, fun h => absurd hst h,
        (fun _ _ _ h => nomatch h), fun m' _ hm' _ => ?_, (fun h => nomatch h), fun _ => ⟨rfl, fun _ h => absurd hst h, fun m' hroom _ hm' => ?_⟩⟩
      · obtain rfl := heq hm'
        exact ⟨rfl, hst, rfl⟩
      · obtain rfl := heq hm'
        exact hsent.queued hreach.linked (solid_lt_of_room hroom)

/-! ### What a notice raises (R173) -/

/-- From `s` to `t` no fault record changed and FAULTS_DROPPED did not count. -/
structure Hushed (s t : State) : Prop where
  record : ∀ i : Fin 16, (t.faults.slots[i]).record = (s.faults.slots[i]).record
  dropped : t.counters[(15 : Fin 16)] = s.counters[(15 : Fin 16)]

namespace Hushed

theorem refl (s : State) : Hushed s s := ⟨fun _ => rfl, rfl⟩

theorem trans {s t u : State} (h : Hushed s t) (k : Hushed t u) : Hushed s u :=
  ⟨fun i => (k.record i).trans (h.record i), k.dropped.trans h.dropped⟩

theorem foldl {α : Type} (f : State → α → State) (hf : ∀ s a, Hushed s (f s a)) (l : List α) (s : State) : Hushed s (l.foldl f s) :=
  List.foldlRecOn (motive := fun t => Hushed s t) l _ (refl s) fun _ ht a _ => ht.trans (hf _ a)

/-- What precedes may change all but the fault table and the counters. -/
theorem after {s t u : State} (k : Hushed t u) (hfaults : t.faults = s.faults) (hcounters : t.counters = s.counters) : Hushed s u :=
  ⟨fun i => (k.record i).trans (by rw [hfaults]), k.dropped.trans (by rw [hcounters])⟩

end Hushed

theorem hushed_of_tells {s t : State} (h : Tells s t) : Hushed s t := ⟨h.record, h.counter 15 (by decide)⟩

theorem hushed_enterTail (s : State) (c : ChanId) (o : Ending) : Hushed s (s.enterTail c o) := by
  unfold State.enterTail State.dropClaim
  split
  · exact Hushed.refl s
  · split
    · exact Hushed.refl s
    · split
      · exact ⟨fun _ => rfl, rfl⟩
      · exact (hushed_of_tells (tells_offer _ _)).after rfl rfl

theorem hushed_stopInstance (s : State) (c : ChanId) (o : Ending) : Hushed s (s.stopInstance c o) := by
  unfold State.stopInstance
  split
  · exact Hushed.refl s
  · split
    · exact Hushed.refl s
    · split
      · exact hushed_enterTail s c o
      · exact ⟨fun _ => rfl, rfl⟩
      · exact hushed_enterTail s c o
      · exact ⟨fun _ => rfl, rfl⟩
      · exact Hushed.refl s
      · exact Hushed.refl s

theorem hushed_withdraw (s : State) (id : Nat) (n : CueName) : Hushed s (s.withdraw id n) := by
  unfold State.withdraw State.stopKey
  split
  · exact ⟨fun _ => rfl, count_other (s.dropEntry (.cue id n)) .annAborted 15 (by decide)⟩
  · split
    · exact Hushed.refl s
    · split
      · exact ⟨fun _ => rfl, rfl⟩
      · exact hushed_stopInstance s _ _

theorem hushed_setSlot (s : State) (id : Nat) (n : CueName) (f : CueSlot → CueSlot) : Hushed s (s.setSlot id n f) := by
  unfold State.setSlot
  split
  · exact Hushed.refl s
  · exact ⟨fun _ => rfl, rfl⟩

theorem hushed_compare (s : State) (id : Nat) (n : CueName) : Hushed s (s.compare id n) := by
  unfold State.compare
  split
  · exact Hushed.refl s
  · dsimp only
    split
    · split
      · exact hushed_setSlot s id n _
      · exact Hushed.refl s
    · split
      · split
        · exact hushed_setSlot s id n _
        · exact Hushed.refl s
      · exact hushed_setSlot s id n _
      · exact (hushed_setSlot s id n _).trans (hushed_withdraw _ id n)
      · exact (hushed_setSlot s id n _).trans (hushed_withdraw _ id n)
      · exact Hushed.refl s

theorem hushed_withdrawMoved (s : State) (id : Nat) : Hushed s (s.withdrawMoved id) := by
  have hlist (l : List CueName) : Hushed s (l.foldl (fun t n => t.withdraw id n) s) := Hushed.foldl _ (fun t n => hushed_withdraw t id n) l s
  unfold State.withdrawMoved
  split
  · exact hlist _
  · exact hlist _
  · exact hlist _
  · exact Hushed.refl s

/-- A STATE notice to MOVED after MOVING, or to MOVE_FAILED, fires nothing. -/
theorem hushed_noticeState {id : Nat} {s : State} {r : CallRecord} (h : s.call id = some r) {old : CallState}
    (hst : r.state = .moved ∧ old = .moving ∨ r.state = .moveFailed) : Hushed s (s.noticeState id old none) := by
  have hcompared := edited_compareAll h
  have hmoved := hcompared.trans (edited_withdrawMoved hcompared.call)
  have hstate : (comparedAll s.cfg r).state = r.state := (slotsOnly_compared s.cfg r).withDelay.state
  have hcall : (eventsTaken id none ((s.compareAll id).withdrawMoved id)).call id = some (comparedAll s.cfg r) := hmoved.call
  have hhushed : Hushed s ((s.compareAll id).withdrawMoved id) :=
    (Hushed.foldl _ (fun t n => hushed_compare t id n) allCues s).trans (hushed_withdrawMoved _ id)
  rw [noticeState_of_call hcall]
  unfold occasionTaken
  rw [hstate]
  obtain ⟨hmove, rfl⟩ | hfail := hst
  · rw [hmove]
    exact hhushed
  · rw [hfail]
    exact hhushed

/-! ### CALL_ADOPT, CALL_REFUSE and the call timers (R45, R49, R50) -/

theorem callAdopt_of_target {s : State} {x : CallPlatform} {r : CallRecord} {m : Moving} (hr : s.call x.id = some r) (hst : r.state = .moving)
    (hmoving : r.moving = some m) (htarget : m.target = x.platform) : s.callAdopt x = s.endCall r .moved none := by
  unfold State.callAdopt
  simp only [hr, hmoving]
  exact if_pos ⟨hst, htarget⟩

theorem callRefuse_of_target {s : State} {x : CallPlatform} {r : CallRecord} {m : Moving} (hr : s.call x.id = some r) (hst : r.state = .moving)
    (hmoving : r.moving = some m) (htarget : m.target = x.platform) : s.callRefuse x = s.failMove r := by
  unfold State.callRefuse
  simp only [hr, hmoving]
  exact if_pos ⟨hst, htarget⟩

/-- An answer that no record in MOVING to the platform named awaits. -/
theorem answer_ignored {s : State} {x : CallPlatform}
    (h : ∀ r m, s.call x.id = some r → r.moving = some m → r.state ≠ .moving ∨ m.target ≠ x.platform) :
    s.callAdopt x = s ∧ s.callRefuse x = s := by
  unfold State.callAdopt State.callRefuse
  cases hr : s.call x.id with
  | none => exact ⟨rfl, rfl⟩
  | some r =>
    dsimp only
    cases hm : r.moving with
    | none => exact ⟨rfl, rfl⟩
    | some m =>
      have hnot : ¬(r.state = .moving ∧ m.target = x.platform) := fun ⟨hst, htarget⟩ =>
        (h r m hr hm).elim (fun k => k hst) fun k => k htarget
      exact ⟨if_neg hnot, if_neg hnot⟩

/-- The notice that follows a raise for a record that ended as MOVE_FAILED keeps what was raised. -/
theorem raised_noticeState {id : Nat} {s u v : State} {r : CallRecord} {k : FaultKind} {subject : Option Nat} (h : Edited id s u r)
    (hst : r.state = .moveFailed) (hraised : v.Raised u k subject) (hrecord : ∀ i : Fin 16, (s.faults.slots[i]).record = (v.faults.slots[i]).record)
    (hdropped : s.counters[(15 : Fin 16)] = v.counters[(15 : Fin 16)]) (old : CallState) :
    Edited id s (u.noticeState id old none) (stateNoticed s.cfg s.minuteNow old none r) ∧ s.Raised (u.noticeState id old none) k subject := by
  have hnotice := edited_noticeState h.call old none
  have hhushed := hushed_noticeState h.call (old := old) (.inr hst)
  rw [h.cfg, h.minuteNow] at hnotice
  generalize u.noticeState id old none = t at hnotice hhushed
  have hall := h.trans hnotice
  have hstamp : t.stampNow = u.stampNow := by
    unfold State.stampNow
    rw [hnotice.minuteNow, hnotice.undisturbed.clock]
  exact ⟨hall, raised_congr hraised hrecord hhushed.record hdropped hhushed.dropped hstamp hnotice.now⟩

/-- A hand-over ends with its fault (R50). -/
theorem edited_failMove {s : State} {id : Nat} {r : CallRecord} (hr : s.call id = some r) :
    Edited id s (s.failMove r) (stateNoticed s.cfg s.minuteNow r.state none (r.enterEnded .moveFailed s.lingerEnd))
      ∧ s.Raised (s.failMove r) .callMoveFailed (some id) := by
  obtain rfl : r.id = id := id_of_call hr
  obtain ⟨v, hv⟩ : ∃ v, v = s.putCall (r.enterEnded .moveFailed s.lingerEnd) := ⟨_, rfl⟩
  have hput : Edited r.id s v (r.enterEnded .moveFailed s.lingerEnd) := hv ▸ edited_putCall rfl
  have hraise := hput.trans (edited_of_keeps hput.call (keeps_raise v .callMoveFailed (some r.id)) (aside_raise v _ _))
  have hfail : s.failMove r = (v.raise .callMoveFailed (some r.id)).noticeState r.id r.state none := by
    rw [hv]
    rfl
  rw [hfail]
  exact raised_noticeState hraise rfl (raised_raise v .callMoveFailed (some r.id)) (fun _ => by rw [hv]; rfl) (by rw [hv]; rfl) r.state

theorem undisturbed_expired {s t : State} {d : Nat} (h : Undisturbed (s.advanceTo d) t) : Undisturbed { s with clock := t.clock } t :=
  ⟨h.pending, h.startup, rfl, h.store, h.evac, h.occupancy, h.joinTimer, h.handedOver, h.contacts, h.pins, h.sampleAt, h.roundAt, h.budget,
    h.monitor, h.testStep⟩

/-- What the removal of some entries leaves: those whose key none of them has. -/
theorem entries_removeAll (l : List Entry) (r : Result) (s : State) {e : Entry}
    (he : e ∈ (l.foldl (fun t f => t.removeEntry f.key r) s).queue.entries) : e ∈ s.queue.entries ∧ ∀ f ∈ l, e.key ≠ f.key := by
  induction l generalizing s with
  | nil => exact ⟨he, nofun⟩
  | cons f rest ih =>
    obtain ⟨hmem, hrest⟩ := ih (s.removeEntry f.key r) he
    rw [entries_removeEntry] at hmem
    obtain ⟨hin, hkey⟩ := List.mem_filter.mp hmem
    exact ⟨hin, List.forall_mem_cons.mpr ⟨of_decide_eq_true hkey, hrest⟩⟩

theorem frame_removeAll (l : List Entry) (r : Result) (s : State) (t : State) (ht : l.foldl (fun t f => t.removeEntry f.key r) s = t) :
    t = { s with
      queue := { s.queue with entries := t.queue.entries }, link := t.link, faults := t.faults, counters := t.counters } := by
  induction l generalizing s with
  | nil =>
    subst ht
    rfl
  | cons f rest ih =>
    have hrest := ih (s.removeEntry f.key r) ht
    have hstep := removeEntry_frame s f.key r
    rw [hstep] at hrest
    exact hrest

/-- Settles O28: the record is put in its ended state; of the notice only withdrawals follow, which raise nothing. -/
theorem moveAnswered : Obligations.MoveAnswered := by
  refine ⟨fun dst src payload s x => ⟨fun hreach hread => ?_, fun hreach hread => ?_⟩, fun s call r m hawake hr hst hm => ?_,
    fun s call r d hawake hr hd => ?_⟩
  · have hexec := exec_reaches hreach hread (y := exec (.callAdopt dst src payload) s) rfl
    refine ⟨fun r m hr hst hm htarget => ?_, fun hno => by rw [hexec, (answer_ignored (s := s.taken) hno).1]⟩
    have hid : r.id = x.id := id_of_call hr
    have hedit := edited_endCall (s := s.taken) hid .moved none
    have hput : (s.taken.putCall (r.enterEnded .moved s.taken.lingerEnd)).call r.id = some (r.enterEnded .moved s.taken.lingerEnd) :=
      call_putCall rfl
    have hhushed := hushed_noticeState hput (old := r.state) (.inl ⟨rfl, hst⟩)
    have hframe := slotsOnly_stateNoticed s.taken.cfg s.taken.minuteNow r.state none (r.enterEnded .moved s.taken.lingerEnd)
    generalize stateNoticed s.taken.cfg s.taken.minuteNow r.state none (r.enterEnded .moved s.taken.lingerEnd) = q at hedit hframe
    rw [callAdopt_of_target (s := s.taken) hr hst hm htarget] at hexec
    exact ⟨_, q, hexec, hedit.call, hframe, hhushed.record, hedit.others, hedit.undisturbed⟩
  · have hexec := exec_reaches hreach hread (y := exec (.callRefuse dst src payload) s) rfl
    refine ⟨fun r m hr hst hm htarget => ?_, fun hno => by rw [hexec, (answer_ignored (s := s.taken) hno).2]⟩
    obtain ⟨hedit, hraised⟩ := edited_failMove (s := s.taken) hr
    have hframe := slotsOnly_stateNoticed s.taken.cfg s.taken.minuteNow r.state none (r.enterEnded .moveFailed s.taken.lingerEnd)
    generalize stateNoticed s.taken.cfg s.taken.minuteNow r.state none (r.enterEnded .moveFailed s.taken.lingerEnd) = q at hedit hframe
    rw [callRefuse_of_target (s := s.taken) hr hst hm htarget] at hexec
    exact ⟨_, q, hexec, hedit.call, hframe,
      raised_congr (s' := s) hraised (fun _ => rfl) (fun _ => rfl) (counter_taken s (by decide)).symm rfl rfl rfl, hedit.others, hedit.undisturbed⟩
  · have hexec : exec (.moveTimerExpiry call) s = .next ((s.advanceTo m.deadline).failMove r) := by
      refine (exec_awake hawake rfl).trans ?_
      unfold State.moveOver
      simp only [hr, hm, if_pos hst]
    obtain ⟨hedit, hraised⟩ := edited_failMove (s := s.advanceTo m.deadline) hr
    have hframe := slotsOnly_stateNoticed (s.advanceTo m.deadline).cfg (s.advanceTo m.deadline).minuteNow r.state none
      (r.enterEnded .moveFailed (s.advanceTo m.deadline).lingerEnd)
    generalize stateNoticed (s.advanceTo m.deadline).cfg (s.advanceTo m.deadline).minuteNow r.state none
      (r.enterEnded .moveFailed (s.advanceTo m.deadline).lingerEnd) = q at hedit hframe
    refine ⟨_, q, hexec, hedit.call, hedit.undisturbed.clock, ?_, hraised, hedit.others, undisturbed_expired hedit.undisturbed⟩
    rw [hedit.now]
    exact hframe
  · have hexec : exec (.lingerExpiry call) s = .next ((s.advanceTo d).freeCall call.toNat) := by
      refine (exec_awake hawake rfl).trans ?_
      unfold State.lingerOver
      simp only [hr, Option.bind_some, hd]
    obtain ⟨u, hu⟩ : ∃ u : State, u = { s.advanceTo d with calls := (s.advanceTo d).calls.filter fun r => decide (r.id ≠ call.toNat) } := ⟨_, rfl⟩
    obtain ⟨l, hl⟩ : ∃ l, l = u.queue.entries.filter fun e => decide (e.boundCall = some call.toNat) := ⟨_, rfl⟩
    have hfree : (s.advanceTo d).freeCall call.toNat = l.foldl (fun t f => t.removeEntry f.key .obsolete) u := by rw [hl, hu]; rfl
    obtain ⟨t, ht⟩ : ∃ t, l.foldl (fun t f => t.removeEntry f.key .obsolete) u = t := ⟨_, rfl⟩
    have hentries := fun e => entries_removeAll l .obsolete u (e := e)
    have hframe := frame_removeAll l .obsolete u t ht
    rw [ht] at hentries hfree
    rw [hfree] at hexec
    have hclock : t.clock = u.clock := by rw [hframe]
    have hcalls : t.calls = u.calls := by rw [hframe]
    refine ⟨t, hexec, by rw [hcalls, hu]; rfl, by rw [hclock, hu]; rfl, fun e he => ?_, ?_⟩
    · obtain ⟨hin, hkeys⟩ := hentries e he
      have hmem : e ∈ s.queue.entries := by rw [hu] at hin; exact hin
      refine ⟨fun hbound => hkeys e ?_ rfl, hmem⟩
      rw [hl]
      exact List.mem_filter.mpr ⟨hin, decide_eq_true hbound⟩
    · rw [hclock, hcalls]
      subst hu
      exact hframe

end Sys2Proof.Proofs.CallOutcomes

end

section
/-! Room in the call table, and the frames that make or replace a record: CALL_HANDOVER and CALL_POST (R35 to R40, R51 to R55). -/

namespace Sys2Proof.Proofs.RecordRules

open Sys2Proof.Machine
open Sys2Proof.Proofs.LiveClose Sys2Proof.Proofs.Faults Sys2Proof.Proofs.Upkeep Sys2Proof.Proofs.Uphold Sys2Proof.Proofs.CallRules
open Sys2Proof.Proofs.Commands Sys2Proof.Proofs.Steps Sys2Proof.Proofs.Reports Sys2Proof.Proofs.Starting Sys2Proof.Proofs.Transmit
open Sys2Proof.Proofs.LineRules Sys2Proof.Proofs.FaultRules Sys2Proof.Proofs.QueueRules Sys2Proof.Proofs.GroupRules
open Sys2Proof.Proofs.CallFrames Sys2Proof.Proofs.NoticeRules Sys2Proof.Proofs.CallOutcomes

/-! ### The plan slots of a notice (R56, R59, R73) -/

theorem ne_of_isPlan {n : CueName} (h : n.isPlan = true) : n ≠ .delay ∧ n ≠ .cancel ∧ n ≠ .alteration := by
  refine ⟨?_, ?_, ?_⟩ <;> rintro rfl <;> cases h

theorem slot_occasion_of_ne (c : NodeConfig) (m : Option Nat) (r : CallRecord) {n k : CueName} (h : k ≠ n) :
    (occasionOf c m n r).slot k = r.slot k := by
  unfold occasionOf
  split
  · exact slot_setSlot_of_ne r _ h
  · rfl

section
variable {n : CueName} (h : n.isPlan = true)
include h

theorem slot_delayTested_of_plan (c : NodeConfig) (m : Option Nat) (r : CallRecord) : (delayTested c m r).slot n = r.slot n := by
  unfold delayTested
  split
  · rfl
  · split
    · exact slot_setSlot_of_ne r _ (ne_of_isPlan h).1
    · rfl

theorem slot_delayEnded_of_plan (c : NodeConfig) (r : CallRecord) : (delayEnded c r).slot n = r.slot n := by
  unfold delayEnded
  split
  · exact slot_setSlot_of_ne r _ (ne_of_isPlan h).1
  · rfl

theorem slot_delayRuled_of_plan (c : NodeConfig) (m : Option Nat) (r : CallRecord) : (delayRuled c m r).slot n = r.slot n :=
  (slot_delayEnded_of_plan h c _).trans (slot_delayTested_of_plan h c m r)

theorem slot_stateOccasion_of_plan (c : NodeConfig) (m : Option Nat) (old : CallState) (r : CallRecord) :
    (stateOccasion c m old r).slot n = r.slot n := by
  obtain ⟨-, hcancel, halteration⟩ := ne_of_isPlan h
  unfold stateOccasion
  split
  · exact slot_occasion_of_ne c m r hcancel
  · exact slot_occasion_of_ne c m r halteration
  · split
    · rfl
    · exact slot_occasion_of_ne c m r halteration
  all_goals rfl

theorem slot_inserted_of_plan (c : NodeConfig) (m : Option Nat) (r : CallRecord) :
    (delayRuled c m (comparedAll c r)).slot n = comparedSlot c r n :=
  (slot_delayRuled_of_plan h c m _).trans (slot_editAll (slotwise_compared c) r n)

theorem slot_adopted_of_plan (c : NodeConfig) (m : Option Nat) (created : Bool) (before : Nat) (r : CallRecord) :
    (adoptNoticed c m created before r).slot n = comparedSlot c r n := by
  unfold adoptNoticed
  dsimp only
  split
  · exact (slot_occasion_of_ne c m _ (ne_of_isPlan h).2.2).trans (slot_inserted_of_plan h c m r)
  · exact slot_inserted_of_plan h c m r

theorem slot_stateNoticed_of_plan (c : NodeConfig) (m : Option Nat) (old : CallState) (r : CallRecord) :
    (stateNoticed c m old none r).slot n = comparedSlot c r n :=
  (slot_stateOccasion_of_plan h c m old _).trans (slot_editAll (slotwise_compared c) r n)

end

/-- A comparison keeps what a spent slot says of its firing. -/
theorem comparedSlot_of_spent {c : NodeConfig} {r : CallRecord} {n : CueName} (h : (r.slot n).state.spent = true) :
    (comparedSlot c r n).state = (r.slot n).state ∧ (comparedSlot c r n).firedBase = (r.slot n).firedBase := by
  have hspent : (r.slot n).state = .fired ∨ (r.slot n).state = .missed := by
    cases hst : (r.slot n).state <;> rw [hst] at h <;> first | exact .inl rfl | exact .inr rfl | cases h
  have hnot : (r.slot n).state ≠ .armed := by
    obtain h | h := hspent <;> rw [h] <;> nofun
  by_cases hunused : (n.isPlan && !(planCue c r n).used) = true
  · rw [comparedSlot_unused hunused, if_neg hnot]
    exact ⟨rfl, rfl⟩
  · cases hin : insideOf c r n with
    | true =>
      rw [comparedSlot_spent_in hunused hspent hin]
      exact ⟨rfl, rfl⟩
    | false =>
      rw [comparedSlot_spent_out hunused hspent hin]
      exact ⟨rfl, rfl⟩

/-- A plan slot that is not spent is evaluated afresh (R56, R59). -/
theorem comparedSlot_of_unspent {c : NodeConfig} {r : CallRecord} {n : CueName} (hplan : n.isPlan = true)
    (h : (r.slot n).state.spent = false) :
    comparedSlot c r n = { r.slot n with state := if (planCue c r n).used && insideOf c r n then .armed else .idle } := by
  have hkept {x : SlotState} (hx : (r.slot n).state = x) : r.slot n = { r.slot n with state := x } := by rw [← hx]
  cases hused : (planCue c r n).used with
  | false =>
    rw [comparedSlot_unused (by rw [hplan, hused]; rfl)]
    split
    · rfl
    next hnot =>
      refine hkept ?_
      cases hst : (r.slot n).state <;> rw [hst] at h hnot <;> first | rfl | exact absurd rfl hnot | cases h
  | true =>
    have hunused : ¬(n.isPlan && !(planCue c r n).used) = true := by simp [hused]
    rw [Bool.true_and]
    cases hst : (r.slot n).state with
    | idle =>
      rw [comparedSlot_idle hunused hst, hplan, Bool.and_true]
      split
      · rfl
      · exact hkept hst
    | armed =>
      rw [comparedSlot_armed hunused hst]
      split
      · exact hkept hst
      · rfl
    | fired | missed =>
      rw [hst] at h
      cases h

/-! ### Room and freeing (R35, R40, R45) -/

theorem givePoints_eq (r : CallRecord) (calls : List CallRecord) (points : List Nat) (posted : Nat) :
    r.givePoints calls points posted = { r with
      points := points.take (poolFree (othersOf r.id calls)), posted := posted,
      truncated := decide ((points.take (poolFree (othersOf r.id calls))).length < posted) } := rfl

theorem othersOf_of_none {s : State} {id : Nat} (h : s.call id = none) : othersOf id s.calls = s.calls :=
  List.filter_eq_self.mpr fun q hq => by simpa using List.find?_eq_none.mp h q hq

/-- Points cut to the room are fewer than were posted exactly where the room is less. -/
theorem length_take_lt (points : List Nat) (free : Nat) : decide ((points.take free).length < points.length) = decide (free < points.length) := by
  rw [List.length_take]
  refine decide_eq_decide.mpr ?_
  omega

theorem evictee_of_earliest {l : List CallRecord} {v : CallRecord} {d : Nat} (hordered : l.Pairwise fun a b => a.id < b.id) (hv : v ∈ l)
    (hd : v.linger = some d) (hleast : ∀ r ∈ l, ∃ e, r.linger = some e ∧ (d < e ∨ (d = e ∧ v.id ≤ r.id))) : evictee l = some v := by
  obtain ⟨before, after, rfl⟩ := List.append_of_mem hv
  obtain ⟨-, hafter, hcross⟩ := List.pairwise_append.mp hordered
  -- the records before `v` linger longer
  have hlonger : ∀ b, evictee before = some b → ∃ e, b.linger = some e ∧ d < e := fun b hb => by
    have hmem := mem_of_evictee hb
    obtain ⟨e, he, hlt | ⟨-, hle⟩⟩ := hleast b (List.mem_append_left _ hmem)
    · exact ⟨e, he, hlt⟩
    · exact absurd (hcross b hmem v (List.mem_cons_self ..)) (by omega)
  unfold evictee at hlonger ⊢
  rw [List.foldl_append, List.foldl_cons]
  generalize before.foldl _ none = best at hlonger
  refine List.foldlRecOn (motive := fun best => best = some v) after _ ?_ fun best ih r hr => ?_
  · rw [hd]
    cases best with
    | none => rfl
    | some b =>
      obtain ⟨e, he, hlt⟩ := hlonger b rfl
      exact if_pos (by rw [he]; exact hlt)
  · obtain ⟨e, he, hle⟩ := hleast r (List.mem_append_right _ (List.mem_cons_of_mem _ hr))
    rw [ih, he]
    exact if_neg (by rw [hd, Option.getD_some]; omega)

theorem makeRoom_of_room {s : State} (h : s.calls.length < 48) : s.makeRoom = (s, true) := if_pos h

theorem makeRoom_of_live {s : State} (h : 48 ≤ s.calls.length) (hlive : ∀ r ∈ s.calls, r.state.isLive = true) : s.makeRoom = (s, false) := by
  have hnone : s.calls.filter (fun r => !r.state.isLive) = [] := List.filter_eq_nil_iff.mpr fun r hr => by simp [hlive r hr]
  unfold State.makeRoom
  rw [if_neg (not_lt.mpr h), hnone]
  rfl

theorem makeRoom_of_ended {s : State} {v : CallRecord} {d : Nat} (h : s.calls.length = 48) (hfit : s.CallsFit) (hv : v ∈ s.calls)
    (hended : v.state.isLive = false) (hd : v.linger = some d)
    (hleast : ∀ r ∈ s.calls, r.state.isLive = false → ∃ e, r.linger = some e ∧ (d < e ∨ (d = e ∧ v.id ≤ r.id))) :
    s.makeRoom = (s.freeCall v.id, true) := by
  have hevict : evictee (s.calls.filter fun r => !r.state.isLive) = some v := by
    refine evictee_of_earliest (hfit.ordered.filter _) (List.mem_filter.mpr ⟨hv, by simp [hended]⟩) hd fun r hr => ?_
    obtain ⟨hmem, hst⟩ := List.mem_filter.mp hr
    exact hleast r hmem (by simpa using hst)
  unfold State.makeRoom
  rw [if_neg (by omega), hevict]

theorem call_of_mem {s : State} (hfit : s.CallsFit) {v : CallRecord} (hv : v ∈ s.calls) : s.call v.id = some v := by
  obtain ⟨before, after, hcalls⟩ := List.append_of_mem hv
  have hordered := hfit.ordered
  unfold State.call
  rw [hcalls] at hordered ⊢
  refine List.find?_eq_some_iff_append.mpr ⟨by simp, before, after, rfl, fun r hr => ?_⟩
  have hlt := (List.pairwise_append.mp hordered).2.2 r hr v (List.mem_cons_self ..)
  simp only [Bool.not_eq_true', decide_eq_false_iff_not]
  omega

theorem call_freeCall_self (s : State) (id : Nat) : (s.freeCall id).call id = none := by
  unfold State.call
  rw [calls_freeCall]
  exact List.find?_eq_none.mpr fun r hr => by simpa using (List.mem_filter.mp hr).2

theorem othersOf_freeCall {s : State} {id j : Nat} (h : s.call j = none) : othersOf j (s.freeCall id).calls = othersOf id s.calls := by
  rw [calls_freeCall]
  unfold othersOf
  rw [List.filter_filter]
  refine List.filter_congr fun r hr => ?_
  have hne : r.id ≠ j := by simpa using List.find?_eq_none.mp h r hr
  simp [hne]

/-- What the freeing of a call leaves alone. -/
structure Freed (id : Nat) (s t : State) : Prop where
  undisturbed : Undisturbed s t
  aside : Aside s t
  solid : solid t.link.queue ≤ solid s.link.queue
  gone : t.call id = none
  others : ∀ j, j ≠ id → t.call j = s.call j
  unbound : ∀ e ∈ t.queue.entries, e.boundCall ≠ some id

theorem freed_freeCall (s : State) (id : Nat) : Freed id s (s.freeCall id) where
  undisturbed := by
    unfold State.freeCall
    exact List.foldlRecOn (motive := fun t => Undisturbed s t) _ _ (undisturbed_calls s _) fun t ht e _ =>
      undisturbed_trans ht (undisturbed_of_keeps (keeps_removeEntry t e.key _))
  aside := by
    unfold State.freeCall
    exact List.foldlRecOn (motive := fun t => Aside s t) _ _ (aside_of_eq rfl rfl) fun t ht e _ => ht.trans (aside_removeEntry t e.key _)
  solid := by
    unfold State.freeCall
    exact List.foldlRecOn (motive := fun t : State => CallFrames.solid t.link.queue ≤ CallFrames.solid s.link.queue) _ _ le_rfl
      fun t ht e _ => (solid_removeEntry t e.key _).trans ht
  gone := call_freeCall_self s id
  others _ hj := call_freeCall_of_ne hj
  unbound e he hbound := by
    obtain ⟨hin, hkeys⟩ := entries_removeAll _ _ _ he
    exact hkeys e (List.mem_filter.mpr ⟨hin, decide_eq_true hbound⟩) rfl

/-! ### A CALL_HANDOVER taken (R52) -/

theorem offered_putAdopt {s : State} {h : Handover} {r : CallRecord} (hid : r.id = h.id) :
    Offered h.id s ((s.putCall r).sendAdopt h) r .callAdopt (word16 h.id ++ [byte h.target]) := by
  have hput : Edited h.id s (s.putCall r) r := edited_putCall hid
  exact Edited.offered hput rfl (fun _ hlt => hlt) (offered_offer hput.call rfl (adoptPayload h.id h.target))

/-- What a plan slot is after its comparison, seen from the record before (R56, R59). -/
structure Settled (c : NodeConfig) (r : CallRecord) (n : CueName) (x : CueSlot) : Prop where
  spent : (r.slot n).state.spent = true → x.state = (r.slot n).state ∧ x.firedBase = (r.slot n).firedBase
  unspent : (r.slot n).state.spent = false →
    x = { r.slot n with state := if (planCue c r n).used && insideOf c r n then .armed else .idle }

theorem settled_compared (c : NodeConfig) (r : CallRecord) {n : CueName} (h : n.isPlan = true) : Settled c r n (comparedSlot c r n) :=
  ⟨comparedSlot_of_spent, comparedSlot_of_unspent h⟩

theorem unspent_ite (p : Prop) [Decidable p] : (if p then SlotState.armed else .idle).spent = false := by
  split <;> rfl

/-- A second comparison changes nothing that matters. -/
theorem Settled.again {c : NodeConfig} {r q : CallRecord} {n : CueName} (h : Settled c r n (q.slot n)) (hplan : n.isPlan = true)
    (hq : SlotsAndDelay r q) : Settled c r n (comparedSlot c q n) where
  spent hspent := by
    obtain ⟨hstate, hbase⟩ := h.spent hspent
    obtain ⟨hstate', hbase'⟩ := comparedSlot_of_spent (c := c) (r := q) (n := n) (by rw [hstate, hspent])
    exact ⟨hstate'.trans hstate, hbase'.trans hbase⟩
  unspent hunspent := by
    have hx := h.unspent hunspent
    have hst : (q.slot n).state.spent = false := by
      rw [hx]
      exact unspent_ite _
    rw [comparedSlot_of_unspent hplan hst, hq.planCue, hq.insideOf, hx]

theorem adopt_of_none {s : State} {h : Handover} (hr : s.call h.id = none) : s.adopt h = s.adoptNew h := by
  unfold State.adopt
  rw [hr]

theorem callHandover_of_own {s : State} {h : Handover} (hown : s.cfg.ownPlatform h.target = true) (hst : h.state ≠ .cancelled) :
    s.callHandover h = s.adopt h := by
  unfold State.callHandover
  rw [if_pos hown, if_neg hst]

/-- A new record of a hand-over, where there is room for it (R52). -/
theorem offered_adoptNew {s u : State} {h : Handover} (hroom : s.makeRoom = (u, true)) :
    Offered h.id u (s.adoptNew h) (adoptNoticed u.cfg u.minuteNow true h.oldPlatform (h.blank.givePoints u.calls h.points h.posted)) .callAdopt
      (word16 h.id ++ [byte h.target]) := by
  have hput := offered_putAdopt (s := u) (h := h) (r := h.blank.givePoints u.calls h.points h.posted) rfl
  have hnotice := edited_noticeAdopted hput.call true h.oldPlatform
  rw [hput.cfg, hput.minuteNow] at hnotice
  unfold State.adoptNew
  rw [hroom]
  exact hput.edited rfl hnotice

theorem refuseCall_frame (s : State) (id platform : Nat) :
    s.refuseCall id platform = { s with
      link := (s.refuseCall id platform).link, faults := (s.refuseCall id platform).faults, counters := (s.refuseCall id platform).counters } :=
  by
  have hsends : Sends s (s.refuseCall id platform) := (tells_offer s _).sends.trans (sends_count _ _)
  unfold Sends at hsends
  generalize s.refuseCall id platform = t at hsends ⊢
  rw [hsends]

theorem refused_refuseCall (s : State) (id platform : Nat) :
    (s.refuseCall id platform).counters[(13 : Fin 16)] = min (s.counters[(13 : Fin 16)] + 1) 65535 := by
  have htells := tells_offer s (plainFrame 0 .callRefuse (refusePayload id platform) 2)
  have hcount := count_counter (s.offer (plainFrame 0 .callRefuse (refusePayload id platform) 2)) .callRefused
  refine Eq.trans hcount ?_
  unfold satInc
  rw [htells.counter Counter.callRefused.idx (by decide)]
  rfl

theorem queued_refuseCall {s : State} (hon : s.onLink = true) (hroom : s.link.queue.length < 8) (id platform : Nat) :
    s.Queued (s.refuseCall id platform) .callRefuse (word16 id ++ [byte platform, 1#8]) :=
  queued_offer hon (solid_lt_of_room hroom) rfl (refusePayload id platform)

theorem slot_blank (h : Handover) (calls : List CallRecord) (n : CueName) :
    (h.blank.givePoints calls h.points h.posted).slot n = (h.slots[n.idx]).adopted := Vector.getElem_map _ n.idx.isLt

theorem spent_iff {st : SlotState} : st.spent = true ↔ st = .fired ∨ st = .missed := by cases st <;> simp [SlotState.spent]

theorem unspent_iff {st : SlotState} : st.spent = false ↔ st = .idle ∨ st = .armed := by cases st <;> simp [SlotState.spent]

theorem adopted_of_spent {x : CueSlot} (h : x.state.spent = true) : x.adopted = { x with next := none } := if_pos h

theorem adopted_of_unspent {x : CueSlot} (h : x.state.spent = false) : x.adopted = CueSlot.clear := by
  unfold CueSlot.adopted
  rw [h]
  rfl

/-- A call that ends at the other node or here by a hand-over, and what is sent of it (R51, R54, R55). -/
theorem handover_ends {s : State} {h : Handover} {r : CallRecord} (hr : s.call h.id = some r)
    (hcase : (s.cfg.ownPlatform h.target = true ∧ h.state = .cancelled ∧ r.state.isLive = true)
      ∨ (s.cfg.ownPlatform h.target = false ∧ r.state.running = true)) :
    ∃ q q', Undisturbed s (s.callHandover h) ∧ OtherCallsKept h.id s (s.callHandover h) ∧ (s.callHandover h).call h.id = some q'
      ∧ SlotsOnly q q' ∧ q = { r.enterEnded (if s.cfg.ownPlatform h.target then .cancelled else .moved) s.lingerEnd with events := q.events }
      ∧ ∀ f ∈ (s.callHandover h).link.queue, f.kind = .callAdopt ∨ f.kind = .callRefuse → f ∈ s.link.queue := by
  have hkinds {f : TxFrame} (hf : f.kind = .callAdopt ∨ f.kind = .callRefuse) : callKind f.kind = true ∧ f.kind ≠ .callHandover := by
    obtain hf | hf := hf <;> rw [hf] <;> exact ⟨rfl, nofun⟩
  unfold State.callHandover
  obtain ⟨hown, hcancelled, hlive⟩ | ⟨hother, hrunning⟩ := hcase
  · rw [if_pos hown, if_pos hown, if_pos hcancelled, callCancel_of_live hr hlive]
    obtain hm | ⟨m, hm⟩ := Option.eq_none_or_eq_some r.moving
    · have hedit := edited_cancelCall hr hm
      exact ⟨_, _, hedit.undisturbed, hedit.others, hedit.call, slotsOnly_stateNoticed _ _ _ _ _, rfl,
        fun f hf hkind => hedit.aside.calls.fresh f hf (hkinds hkind).1⟩
    · have hsent := offered_cancelCall hr hm
      exact ⟨_, _, hsent.undisturbed, hsent.others, hsent.call, slotsOnly_stateNoticed _ _ _ _ _, rfl,
        fun f hf hkind => hsent.fresh f hf (hkinds hkind).1 (hkinds hkind).2⟩
  · have hnot : ¬s.cfg.ownPlatform h.target = true := by
      rw [hother]
      exact Bool.false_ne_true
    rw [if_neg hnot, if_neg hnot, hr]
    dsimp only
    rw [if_pos hrunning]
    have hedit := edited_endCall (s := s) (id_of_call hr) .moved none
    exact ⟨_, _, hedit.undisturbed, hedit.others, hedit.call, slotsOnly_stateNoticed _ _ _ _ _, rfl,
      fun f hf hkind => hedit.aside.calls.fresh f hf (hkinds hkind).1⟩

/-- Settles O29: room is made as for a post, the blank record put and answered, and its plan slots compared. -/
theorem handoverTaken : Obligations.HandoverTaken := by
  intro dst src payload s h hreach hread
  have hexec := exec_reaches hreach hread (y := exec (.callHandover dst src payload) s) rfl
  refine ⟨fun hown hst hr hroom => ?_, fun hown hst hr hfull hlive => ?_, fun v d hown hst hr hfull hfit hv hended hd hleast => ?_,
    fun hown hst hno => ?_, fun r hr hcase => ?_, fun hother hno => ?_⟩
  · rw [callHandover_of_own (s := s.taken) hown hst, adopt_of_none (s := s.taken) hr] at hexec
    have hsent := offered_adoptNew (h := h) (makeRoom_of_room (s := s.taken) hroom)
    have hframe := delay_adopted s.taken.cfg s.taken.minuteNow true h.oldPlatform (h.blank.givePoints s.taken.calls h.points h.posted)
    have hslot {n : CueName} (hn : n.isPlan = true) := slot_adopted_of_plan hn s.taken.cfg s.taken.minuteNow true h.oldPlatform
      (h.blank.givePoints s.taken.calls h.points h.posted)
    generalize adoptNoticed s.taken.cfg s.taken.minuteNow true h.oldPlatform (h.blank.givePoints s.taken.calls h.points h.posted) = q
      at hsent hframe hslot
    have hothers : othersOf h.id s.taken.calls = s.calls := othersOf_of_none (s := s.taken) hr
    refine ⟨_, q, hexec, hsent.call, ?_, hsent.others, hsent.undisturbed,
      fun hlen => hsent.queued hreach.linked (solid_lt_of_room hlen), fun n hn c hc => ⟨fun hspent => ?_, fun hunspent => ?_⟩⟩
    · rw [givePoints_eq, show h.blank.id = h.id from rfl, hothers] at hframe
      exact hframe
    · have hsettled := settled_compared s.taken.cfg (h.blank.givePoints s.taken.calls h.points h.posted) hn
      rw [← hslot hn] at hsettled
      have hkept := hsettled.spent
      rw [slot_blank, ← hc, adopted_of_spent (spent_iff.mpr hspent)] at hkept
      exact hkept (spent_iff.mpr hspent)
    · have hsettled := settled_compared s.taken.cfg (h.blank.givePoints s.taken.calls h.points h.posted) hn
      rw [← hslot hn] at hsettled
      have hfresh := hsettled.unspent
      rw [slot_blank, ← hc, adopted_of_unspent (unspent_iff.mpr hunspent), ← hframe.planCue, ← hframe.insideOf] at hfresh
      rw [hfresh rfl]
      exact ⟨rfl, rfl, rfl⟩
  · rw [callHandover_of_own (s := s.taken) hown hst, adopt_of_none (s := s.taken) hr] at hexec
    unfold State.adoptNew at hexec
    rw [makeRoom_of_live (s := s.taken) hfull hlive] at hexec
    refine ⟨_, hexec, ?_, fun hlen => queued_refuseCall (s := s.taken) hreach.linked hlen h.id h.target, ?_⟩
    · exact (refused_refuseCall s.taken h.id h.target).trans (by rw [counter_taken s (by decide)])
    · exact frame_of_taken ((tells_offer s.taken _).sends.trans (sends_count _ _))
  · rw [callHandover_of_own (s := s.taken) hown hst, adopt_of_none (s := s.taken) hr] at hexec
    have hroom := makeRoom_of_ended (s := s.taken) hfull ⟨hfit.count, hfit.ordered, hfit.cells⟩ hv hended hd hleast
    have hfreed := freed_freeCall s.taken v.id
    have hsent := offered_adoptNew (h := h) hroom
    have hframe := delay_adopted (s.taken.freeCall v.id).cfg (s.taken.freeCall v.id).minuteNow true h.oldPlatform
      (h.blank.givePoints (s.taken.freeCall v.id).calls h.points h.posted)
    generalize adoptNoticed (s.taken.freeCall v.id).cfg (s.taken.freeCall v.id).minuteNow true h.oldPlatform
      (h.blank.givePoints (s.taken.freeCall v.id).calls h.points h.posted) = q at hsent hframe
    have hne : v.id ≠ h.id := fun heq => by
      have hsome := call_of_mem hfit hv
      rw [heq, hr] at hsome
      cases hsome
    refine ⟨_, q, hexec, hsent.call, by rw [hframe]; rfl, by rw [hframe]; rfl, (hsent.others _ hne).trans hfreed.gone,
      fun j hjv hjh => (hsent.others j hjh).trans (hfreed.others j hjv), fun hlen => ?_⟩
    have hon : (s.taken.freeCall v.id).onLink = true := by
      unfold State.onLink
      rw [hfreed.undisturbed.startup]
      exact hreach.linked
    exact hfreed.aside.queued_left rfl (hsent.queued hon (hfreed.solid.trans_lt (solid_lt_of_room hlen)))
  · rw [hexec]
    unfold State.callHandover
    rw [if_pos (show s.taken.cfg.ownPlatform h.target = true from hown), if_pos hst, callCancel_of_ended (s := s.taken) hno]
  · obtain ⟨q, q', hundisturbed, hothers, hcall, hframe, hq, hfresh⟩ := handover_ends (s := s.taken) hr hcase
    refine ⟨_, q', hexec, hcall, ?_, ?_, ?_, ?_, ?_, hfresh, hothers, hundisturbed⟩
    all_goals
      rw [hframe, hq]
      rfl
  · have hnot : ¬s.taken.cfg.ownPlatform h.target = true := by
      rw [show s.taken.cfg.ownPlatform h.target = false from hother]
      exact Bool.false_ne_true
    rw [hexec]
    unfold State.callHandover
    rw [if_neg hnot]
    cases hr : s.call h.id with
    | none => rw [show s.taken.call h.id = none from hr]
    | some r =>
      rw [show s.taken.call h.id = some r from hr]
      exact congrArg Host.Outcome.next (if_neg (by rw [hno r hr]; exact Bool.false_ne_true))

end Sys2Proof.Proofs.RecordRules

end

section
/-! A CALL_HANDOVER of a call that the node holds (R53). -/

namespace Sys2Proof.Proofs.HandoverRules

open Sys2Proof.Machine
open Sys2Proof.Proofs.LiveClose Sys2Proof.Proofs.Faults Sys2Proof.Proofs.Upkeep Sys2Proof.Proofs.Uphold Sys2Proof.Proofs.CallRules
open Sys2Proof.Proofs.Commands Sys2Proof.Proofs.Steps Sys2Proof.Proofs.Reports Sys2Proof.Proofs.Starting Sys2Proof.Proofs.Transmit
open Sys2Proof.Proofs.LineRules Sys2Proof.Proofs.FaultRules Sys2Proof.Proofs.QueueRules Sys2Proof.Proofs.GroupRules
open Sys2Proof.Proofs.CallFrames Sys2Proof.Proofs.NoticeRules Sys2Proof.Proofs.CallOutcomes Sys2Proof.Proofs.RecordRules

/-- A hand-over's fields and points on a record, with the items that its state decides (R53). -/
def carried (r : CallRecord) (h : Handover) (calls : List CallRecord) (st : CallState) (slots : Vector CueSlot 7) (moving : Option Moving)
    (linger : Option Nat) : CallRecord :=
  { r.carry h calls with state := st, slots := slots, moving := moving, linger := linger }

/-- From `s` to `t` a hand-over was answered and its notices edited the record `b`, whose plan slots they compared. -/
def Answered (s t : State) (h : Handover) (b : CallRecord) : Prop :=
  ∃ q, Offered h.id s t q .callAdopt (word16 h.id ++ [byte h.target]) ∧ SlotsAndDelay b q
    ∧ ∀ n : CueName, n.isPlan = true → Settled s.cfg b n (q.slot n)

section
variable {s : State} {h : Handover} {b : CallRecord} (hid : b.id = h.id)
include hid

theorem answered_adopted (before : Nat) : Answered s (((s.putCall b).sendAdopt h).noticeAdopted h.id false before) h b := by
  have hput := offered_putAdopt (s := s) (h := h) hid
  have hnotice := edited_noticeAdopted hput.call false before
  rw [hput.cfg, hput.minuteNow] at hnotice
  refine ⟨_, hput.edited rfl hnotice, delay_adopted _ _ _ _ _, fun n hn => ?_⟩
  rw [slot_adopted_of_plan hn]
  exact settled_compared _ _ hn

theorem answered_stated (old : CallState) (before : Nat) :
    Answered s ((((s.putCall b).sendAdopt h).noticeState h.id old none).noticeAdopted h.id false before) h b := by
  have hput := offered_putAdopt (s := s) (h := h) hid
  have hstate := edited_noticeState hput.call old none
  rw [hput.cfg, hput.minuteNow] at hstate
  have hnotice := edited_noticeAdopted hstate.call false before
  rw [hstate.cfg, hstate.minuteNow, hput.cfg, hput.minuteNow] at hnotice
  have hframe := (slotsOnly_stateNoticed s.cfg s.minuteNow old none b).withDelay
  refine ⟨_, hput.edited rfl (hstate.trans hnotice), hframe.trans (delay_adopted _ _ _ _ _), fun n hn => ?_⟩
  have hsettled := settled_compared s.cfg b hn
  rw [← slot_stateNoticed_of_plan hn s.cfg s.minuteNow old b] at hsettled
  rw [slot_adopted_of_plan hn]
  exact hsettled.again hn hframe

end

theorem adoptLive_eq (s : State) (r : CallRecord) (h : Handover) :
    s.adoptLive r h =
      ((s.putCall (carried r h s.calls (if r.state.earlier h.state then h.state else r.state) (mergeSlots r.slots h.slots) r.moving
        r.linger)).sendAdopt h).noticeAdopted r.id false r.platform := rfl

theorem adoptMoving_eq (s : State) (r : CallRecord) (m : Moving) (h : Handover) :
    s.adoptMoving r m h =
      (((s.putCall (carried r h s.calls (if m.prior.earlier h.state then h.state else m.prior) (mergeSlots r.slots h.slots) none
        r.linger)).sendAdopt h).noticeState r.id .moving none).noticeAdopted r.id false r.platform := rfl

theorem adoptEnded_eq (s : State) (r : CallRecord) (h : Handover) :
    s.adoptEnded r h =
      (((s.putCall (carried r h s.calls h.state (h.slots.map CueSlot.adopted) r.moving none)).sendAdopt h).noticeState r.id r.state
        none).noticeAdopted r.id false r.platform := rfl

theorem id_carried {r : CallRecord} {h : Handover} (hid : r.id = h.id) (calls : List CallRecord) (st : CallState) (slots : Vector CueSlot 7)
    (moving : Option Moving) (linger : Option Nat) : (carried r h calls st slots moving linger).id = h.id := hid

theorem adopt_of_live {s : State} {h : Handover} {r : CallRecord} (hr : s.call h.id = some r) (hlive : r.state.isLive = true)
    (hnot : r.state = .moving → r.moving = none) :
    Answered s (s.adopt h) h
      (carried r h s.calls (if r.state.earlier h.state then h.state else r.state) (mergeSlots r.slots h.slots) r.moving r.linger) := by
  have hid : r.id = h.id := id_of_call hr
  have hadopt : s.adopt h = s.adoptLive r h := by
    unfold State.adopt
    rw [hr]
    dsimp only
    split
    next hst =>
      rw [hst] at hlive
      cases hlive
    next m hst hm =>
      rw [hnot hst] at hm
      cases hm
    · exact if_pos hlive
  rw [hadopt, adoptLive_eq, hid]
  exact answered_adopted (id_carried hid _ _ _ _ _) r.platform

theorem adopt_of_moving {s : State} {h : Handover} {r : CallRecord} {m : Moving} (hr : s.call h.id = some r) (hst : r.state = .moving)
    (hm : r.moving = some m) :
    Answered s (s.adopt h) h
      (carried r h s.calls (if m.prior.earlier h.state then h.state else m.prior) (mergeSlots r.slots h.slots) none r.linger) := by
  have hid : r.id = h.id := id_of_call hr
  have hadopt : s.adopt h = s.adoptMoving r m h := by
    unfold State.adopt
    simp only [hr, hst, hm]
  rw [hadopt, adoptMoving_eq, hid]
  exact answered_stated (id_carried hid _ _ _ _ _) .moving r.platform

theorem adopt_of_ended {s : State} {h : Handover} {r : CallRecord} (hr : s.call h.id = some r) (hended : r.state.isLive = false)
    (hst : r.state ≠ .cancelled) :
    Answered s (s.adopt h) h (carried r h s.calls h.state (h.slots.map CueSlot.adopted) r.moving none) := by
  have hid : r.id = h.id := id_of_call hr
  have hadopt : s.adopt h = s.adoptEnded r h := by
    unfold State.adopt
    rw [hr]
    dsimp only
    split
    next hcancelled => exact absurd hcancelled hst
    next hmoving _ =>
      rw [hmoving] at hended
      cases hended
    · exact if_neg (by rw [hended]; exact Bool.false_ne_true)
  rw [hadopt, adoptEnded_eq, hid]
  exact answered_stated (id_carried hid _ _ _ _ _) r.state r.platform

theorem adopt_of_cancelled {s : State} {h : Handover} {r : CallRecord} (hr : s.call h.id = some r) (hst : r.state = .cancelled) :
    s.adopt h = s := by
  unfold State.adopt
  simp only [hr, hst]

/-! ### Merged and carried slots (R52, R53) -/

theorem merged_of_own {own x : CueSlot} (h : own.state.spent = true) :
    (own.merged x).state = own.state ∧ (own.merged x).firedBase = own.firedBase.or x.firedBase := by
  unfold CueSlot.merged
  rw [if_pos h]
  exact ⟨rfl, rfl⟩

theorem merged_of_carried {own x : CueSlot} (h : own.state.spent = false) (hx : x.state.spent = true) : (own.merged x).state = x.state := by
  unfold CueSlot.merged
  rw [if_neg (by rw [h]; exact Bool.false_ne_true), if_pos hx]

theorem merged_of_neither {own x : CueSlot} (h : own.state.spent = false) (hx : x.state.spent = false) : own.merged x = own := by
  unfold CueSlot.merged
  rw [if_neg (by rw [h]; exact Bool.false_ne_true), if_neg (by rw [hx]; exact Bool.false_ne_true)]

/-- What a slot of the record put by a hand-over is, in a live record and in an ended one. -/
structure CarriedSlot (live : Bool) (own x y : CueSlot) : Prop where
  spent : own.state.spent = true ∧ live = true ∨ x.state.spent = true → y.state.spent = true
  base : live = true → own.state.spent = true → y.firedBase = if own.firedBase.isSome then own.firedBase else x.firedBase
  revived : live = false → x.state.spent = true → y.state = x.state ∧ y.firedBase = x.firedBase
  fresh : live = false ∨ own.state.spent = false → x.state.spent = false → y.state.spent = false

theorem carriedSlot_merged (own x : CueSlot) : CarriedSlot true own x (own.merged x) where
  spent h := by
    cases hown : own.state.spent with
    | true => rw [(merged_of_own hown).1, hown]
    | false =>
      obtain ⟨hspent, -⟩ | hx := h
      · rw [hown] at hspent
        cases hspent
      · rw [merged_of_carried hown hx, hx]
  base _ hown := by
    rw [(merged_of_own hown).2]
    cases own.firedBase <;> rfl
  revived h := nomatch h
  fresh h hx := by
    obtain h | hown := h
    · cases h
    · rw [merged_of_neither hown hx, hown]

theorem carriedSlot_adopted (own x : CueSlot) : CarriedSlot false own x x.adopted where
  spent h := by
    obtain ⟨-, h⟩ | hx := h
    · cases h
    · rw [adopted_of_spent hx]
      exact hx
  base h := nomatch h
  revived _ hx := by
    rw [adopted_of_spent hx]
    exact ⟨rfl, rfl⟩
  fresh _ hx := by
    rw [adopted_of_unspent hx]
    rfl

/-- The plan slots of the record after the notices, from those of the record put. -/
structure PlanSlots (c : NodeConfig) (r q : CallRecord) (h : Handover) : Prop where
  spent : ∀ n : CueName, n.isPlan = true → (r.slot n).state.spent = true ∧ r.state.isLive = true ∨ (h.slots[n.idx]).state.spent = true →
    (q.slot n).state.spent = true
  rest : ∀ n : CueName, n.isPlan = true → ∀ x, x = h.slots[n.idx] →
    (r.state.isLive = true → (r.slot n).state = .fired ∨ (r.slot n).state = .missed →
      (q.slot n).firedBase = if (r.slot n).firedBase.isSome then (r.slot n).firedBase else x.firedBase)
    ∧ (r.state.isLive = false → x.state = .fired ∨ x.state = .missed → (q.slot n).state = x.state ∧ (q.slot n).firedBase = x.firedBase)
    ∧ (r.state.isLive = false ∨ (r.slot n).state.spent = false → x.state = .idle ∨ x.state = .armed →
      (q.slot n).state = if (planCue c q n).used && insideOf c q n then .armed else .idle)

theorem planSlots_of_settled {c : NodeConfig} {r b q : CallRecord} {h : Handover} (hq : SlotsAndDelay b q)
    (hsettled : ∀ n : CueName, n.isPlan = true → Settled c b n (q.slot n))
    (hcarried : ∀ n : CueName, CarriedSlot r.state.isLive (r.slot n) (h.slots[n.idx]) (b.slot n)) : PlanSlots c r q h where
  spent n hn hspent := by
    have hb := (hcarried n).spent hspent
    rw [((hsettled n hn).spent hb).1, hb]
  rest n hn x hx := by
    subst hx
    have hslot := hsettled n hn
    have hcar := hcarried n
    refine ⟨fun hlive hown => ?_, fun hended hx => ?_, fun hcase hx => ?_⟩
    · have hown' := spent_iff.mpr hown
      rw [(hslot.spent (hcar.spent (.inl ⟨hown', hlive⟩))).2, hcar.base hlive hown']
    · have hx' := spent_iff.mpr hx
      obtain ⟨hstate, hbase⟩ := hslot.spent (hcar.spent (.inr hx'))
      obtain ⟨hstate', hbase'⟩ := hcar.revived hended hx'
      exact ⟨hstate.trans hstate', hbase.trans hbase'⟩
    · rw [hslot.unspent (hcar.fresh hcase (unspent_iff.mpr hx)), hq.planCue, hq.insideOf]

theorem slot_merged (r : CallRecord) (h : Handover) (calls : List CallRecord) (st : CallState) (moving : Option Moving) (linger : Option Nat)
    (n : CueName) : (carried r h calls st (mergeSlots r.slots h.slots) moving linger).slot n = (r.slot n).merged (h.slots[n.idx]) :=
  Vector.getElem_zipWith n.idx.isLt

theorem slot_revived (r : CallRecord) (h : Handover) (calls : List CallRecord) (st : CallState) (moving : Option Moving) (linger : Option Nat)
    (n : CueName) : (carried r h calls st (h.slots.map CueSlot.adopted) moving linger).slot n = (h.slots[n.idx]).adopted :=
  Vector.getElem_map _ n.idx.isLt

/-- The cases of a hand-over of a call held that is not CANCELLED, each with the record it puts. -/
theorem answered_adopt {s : State} {h : Handover} {r : CallRecord} (hr : s.call h.id = some r) (hst : r.state ≠ .cancelled) :
    ∃ st slots moving linger q, Offered h.id s (s.adopt h) q .callAdopt (word16 h.id ++ [byte h.target])
      ∧ SlotsAndDelay (carried r h s.calls st slots moving linger) q ∧ PlanSlots s.cfg r q h
      ∧ (r.state.running = true → st = (if r.state.earlier h.state then h.state else r.state) ∧ linger = r.linger)
      ∧ (∀ m, r.state = .moving → r.moving = some m → st = (if m.prior.earlier h.state then h.state else m.prior) ∧ moving = none)
      ∧ (r.state.isLive = false → st = h.state ∧ linger = none) := by
  cases hlive : r.state.isLive with
  | true =>
    have hmerged {st : CallState} {moving : Option Moving} {linger : Option Nat} (n : CueName) :
        CarriedSlot r.state.isLive (r.slot n) (h.slots[n.idx]) ((carried r h s.calls st (mergeSlots r.slots h.slots) moving linger).slot n) := by
      rw [slot_merged, hlive]
      exact carriedSlot_merged _ _
    by_cases hmoving : ∃ m, r.state = .moving ∧ r.moving = some m
    · obtain ⟨m, hmove, hm⟩ := hmoving
      obtain ⟨q, hsent, hframe, hsettled⟩ := adopt_of_moving hr hmove hm
      refine ⟨_, _, _, _, q, hsent, hframe, planSlots_of_settled hframe hsettled hmerged, fun hrunning => absurd hmove (running_ne_moving hrunning),
        fun m' _ hm' => ?_, (fun h => nomatch h)⟩
      obtain rfl : m = m' := Option.some.inj (hm.symm.trans hm')
      exact ⟨rfl, rfl⟩
    · have hnot (hmove : r.state = .moving) : r.moving = none := by
        obtain hm | ⟨m, hm⟩ := Option.eq_none_or_eq_some r.moving
        · exact hm
        · exact absurd ⟨m, hmove, hm⟩ hmoving
      obtain ⟨q, hsent, hframe, hsettled⟩ := adopt_of_live hr hlive hnot
      exact ⟨_, _, _, _, q, hsent, hframe, planSlots_of_settled hframe hsettled hmerged, fun _ => ⟨rfl, rfl⟩,
        fun m hmove hm => absurd ⟨m, hmove, hm⟩ hmoving, (fun h => nomatch h)⟩
  | false =>
    obtain ⟨q, hsent, hframe, hsettled⟩ := adopt_of_ended hr hlive hst
    refine ⟨_, _, _, _, q, hsent, hframe, planSlots_of_settled hframe hsettled fun n => ?_, fun hrunning => ?_, fun m hmove => ?_, fun _ => ⟨rfl, rfl⟩⟩
    · rw [slot_revived, hlive]
      exact carriedSlot_adopted _ _
    · rw [live_of_running hrunning] at hlive
      cases hlive
    · rw [hmove] at hlive
      cases hlive

/-- Settles O30: the three cases put a record with the carried fields and answer; the notices then compare its plan slots. -/
theorem handoverUpdates : Obligations.HandoverUpdates := by
  intro dst src payload s h r hreach hread hown hst hr
  have hexec := exec_reaches hreach hread (y := exec (.callHandover dst src payload) s) rfl
  rw [callHandover_of_own (s := s.taken) hown hst] at hexec
  refine ⟨fun hcancelled => by rw [hexec, adopt_of_cancelled (s := s.taken) hr hcancelled], fun hne => ?_⟩
  obtain ⟨st, slots, moving, linger, q, hsent, hframe, hslots, hrunning, hmoving, hended⟩ := answered_adopt (s := s.taken) hr hne
  have hid : r.id = h.id := id_of_call hr
  have hpoints : q.points = h.points.take (256 - ((s.calls.filter fun q => decide (q.id ≠ h.id)).map fun q => q.points.length).sum) := by
    rw [hframe, ← hid]
    rfl
  refine ⟨_, q, hexec, hsent.call, ?_, ?_, ?_, ?_, ?_, ?_, ?_, ?_, fun hrun => ?_, fun m hmove hm => ?_, fun hend => ?_, hslots.spent,
    hslots.rest, hpoints, ?_, fun hlen => hsent.queued hreach.linked (solid_lt_of_room hlen), hsent.others, hsent.undisturbed⟩
  case refine_9 =>
    rw [hframe]
    exact hrunning hrun
  case refine_10 =>
    rw [hframe]
    exact hmoving m hmove hm
  case refine_11 =>
    rw [hframe]
    exact hended hend
  all_goals
    rw [hframe]
    rfl

end Sys2Proof.Proofs.HandoverRules

end

section
/-! CALL_POST: a new record, a record in the place of an ended one, a reinstatement and a replacement (R37 to R40, R51). -/

namespace Sys2Proof.Proofs.PostRules

open Sys2Proof.Machine
open Sys2Proof.Proofs.LiveClose Sys2Proof.Proofs.Faults Sys2Proof.Proofs.Upkeep Sys2Proof.Proofs.Uphold Sys2Proof.Proofs.CallRules
open Sys2Proof.Proofs.Commands Sys2Proof.Proofs.Steps Sys2Proof.Proofs.Reports Sys2Proof.Proofs.Starting Sys2Proof.Proofs.Transmit
open Sys2Proof.Proofs.LineRules Sys2Proof.Proofs.FaultRules Sys2Proof.Proofs.QueueRules Sys2Proof.Proofs.GroupRules
open Sys2Proof.Proofs.CallFrames Sys2Proof.Proofs.NoticeRules Sys2Proof.Proofs.CallOutcomes Sys2Proof.Proofs.RecordRules

/-! ### Which entries a notice adds (R62) -/

/-- Every entry of `t` was waiting in `s` or is bound to the call. -/
def BoundTo (id : Nat) (s t : State) : Prop := ∀ e ∈ t.queue.entries, e ∈ s.queue.entries ∨ e.boundCall = some id

namespace BoundTo

variable {id : Nat}

theorem refl (s : State) : BoundTo id s s := fun _ he => .inl he

theorem trans {s t u : State} (h : BoundTo id s t) (k : BoundTo id t u) : BoundTo id s u := fun e he =>
  (k e he).elim (h e) .inr

theorem foldl {α : Type} (f : State → α → State) (hf : ∀ s a, BoundTo id s (f s a)) (l : List α) (s : State) : BoundTo id s (l.foldl f s) :=
  List.foldlRecOn (motive := fun t => BoundTo id s t) l _ (refl s) fun _ ht a _ => ht.trans (hf _ a)

end BoundTo

theorem boundTo_of_sublist {id : Nat} {s t : State} (h : t.queue.entries.Sublist s.queue.entries) : BoundTo id s t :=
  fun _ he => .inl (h.subset he)

theorem boundTo_of_queue {id : Nat} {s t : State} (h : t.queue = s.queue) : BoundTo id s t := fun e he => by
  rw [h] at he
  exact .inl he

/-- Every entry of `t` was waiting in `s`, in the same order. -/
def EntriesFrom (s t : State) : Prop := t.queue.entries.Sublist s.queue.entries

theorem entriesFrom_ends (s : State) : EntriesFrom s ({ s with queue := { s.queue with walkedAt := s.now } } : State).arbitrate.settleGates := by
  have hcalm := ((calm_walkedAt s s.now).trans (calm_arbitrate _)).trans (calm_settleGates _)
  generalize ({ s with queue := { s.queue with walkedAt := s.now } } : State).arbitrate.settleGates = t at hcalm ⊢
  exact hcalm.entries

/-- A walk adds no entry. -/
theorem walkStep_entries : WalkStep EntriesFrom where
  refl _ := List.Sublist.refl _
  trans h k := List.Sublist.trans k h
  removes s k r := (calm_removeEntry s k r).entries
  words hw := (calm_words hw).entries
  launches s e c zs words _ := (entries_launch s e c zs words).trans List.filter_sublist
  ends := entriesFrom_ends

theorem boundTo_insert {id : Nat} {s t : State} {e : Entry} {l : List Entry} (hl : l.Sublist s.queue.entries)
    (ht : t.queue.entries = insertEntry e l) (hbound : e.boundCall = some id) : BoundTo id s t.walk := fun f hf => by
  have hmem := (walkStep_entries.walk t).subset hf
  rw [ht] at hmem
  obtain rfl | hin := mem_insertEntry.mp hmem
  · exact .inr hbound
  · exact .inl (hl.subset hin)

theorem boundTo_offerEntry {id : Nat} (s : State) {e : Entry} (hbound : e.boundCall = some id) : BoundTo id s (s.offerEntry e) := by
  have hdrop (k : Key) : (s.dropEntry k).queue.entries.Sublist s.queue.entries := (calm_dropEntry s k).entries
  unfold State.offerEntry State.offerNew
  split
  · exact boundTo_insert (hdrop _) rfl hbound
  · split
    · split
      · exact boundTo_insert (t := s.insertNew e) (List.Sublist.refl _) (entries_insertNew s e) hbound
      · split
        · split
          · exact boundTo_insert (t := (s.removeEntry _ _).insertNew e) (calm_removeEntry s _ _).entries (entries_insertNew _ e) hbound
          · exact boundTo_of_sublist (calm_give s _ _).entries
        · exact boundTo_of_sublist (calm_give s _ _).entries
    · split
      · exact boundTo_of_sublist (walkStep_entries.walk (s.setCont _ _))
      · exact BoundTo.refl s
      · exact BoundTo.refl s

theorem calm_withdraw (s : State) (id : Nat) (n : CueName) : Calm s (s.withdraw id n) := by
  unfold State.withdraw State.stopKey
  split
  · exact calm_removeEntry s _ _
  · split
    · exact Calm.refl s
    · split
      · exact calm_setCont s _ _
      · exact calm_stopInstance s _ _

theorem boundTo_setSlot {id : Nat} (s : State) (j : Nat) (n : CueName) (f : CueSlot → CueSlot) : BoundTo id s (s.setSlot j n f) := by
  unfold State.setSlot
  split
  · exact BoundTo.refl s
  · exact boundTo_of_queue rfl

theorem boundTo_compare {id : Nat} (s : State) (n : CueName) : BoundTo id s (s.compare id n) := by
  unfold State.compare
  split
  · exact BoundTo.refl s
  · dsimp only
    split
    · split
      · exact boundTo_setSlot s id n _
      · exact BoundTo.refl s
    · split
      · split
        · exact boundTo_setSlot s id n _
        · exact BoundTo.refl s
      · exact boundTo_setSlot s id n _
      · exact (boundTo_setSlot s id n _).trans (boundTo_of_sublist (calm_withdraw _ id n).entries)
      · exact (boundTo_setSlot s id n _).trans (boundTo_of_sublist (calm_withdraw _ id n).entries)
      · exact BoundTo.refl s

theorem boundTo_fire {id : Nat} (s : State) (n : CueName) (platforms : List Nat) : BoundTo id s (s.fire id n platforms) := by
  unfold State.fire
  split
  · exact BoundTo.refl s
  next r _ =>
    dsimp only
    generalize r.setSlot n _ = q
    have hput : BoundTo id s (s.putCall q) := boundTo_of_queue rfl
    split
    · exact hput
    · exact hput.trans (boundTo_offerEntry _ rfl)

theorem boundTo_fireHere {id : Nat} (s : State) (n : CueName) : BoundTo id s (s.fireHere id n) := by
  unfold State.fireHere
  split
  · exact BoundTo.refl s
  · exact boundTo_fire s n _

theorem boundTo_delayTest {id : Nat} (s : State) : BoundTo id s (s.delayTest id) := by
  unfold State.delayTest
  split
  · exact BoundTo.refl s
  · split
    · exact BoundTo.refl s
    · dsimp only
      split
      · exact (boundTo_of_queue rfl).trans (boundTo_fireHere _ .delay)
      · exact BoundTo.refl s

theorem boundTo_delayEnd {id : Nat} (s : State) : BoundTo id s (s.delayEnd id) := by
  unfold State.delayEnd
  split
  · exact BoundTo.refl s
  · dsimp only
    split
    · exact (boundTo_of_queue rfl).trans (boundTo_of_sublist (calm_withdraw _ id .delay).entries)
    · exact BoundTo.refl s

theorem boundTo_noticeInserted {id : Nat} (s : State) : BoundTo id s (s.noticeInserted id) :=
  ((BoundTo.foldl _ (fun t n => boundTo_compare t n) allCues s).trans (boundTo_delayTest _)).trans (boundTo_delayEnd _)

/-! ### A new record (R37, R40) -/

/-- The record that a post makes (R37, R39). -/
def posted (p : PostFields) (calls : List CallRecord) : CallRecord := p.record.givePoints calls p.points p.points.length

theorem insertPost_of_room {s u : State} {p : PostFields} (hroom : s.makeRoom = (u, true)) :
    s.insertPost p = (u.putCall (posted p u.calls)).noticeInserted p.id := by
  unfold State.insertPost
  rw [hroom]
  rfl

theorem edited_inserted (u : State) (p : PostFields) :
    Edited p.id u ((u.putCall (posted p u.calls)).noticeInserted p.id) (delayRuled u.cfg u.minuteNow (comparedAll u.cfg (posted p u.calls))) := by
  have hput : Edited p.id u (u.putCall (posted p u.calls)) (posted p u.calls) := edited_putCall rfl
  exact hput.trans (edited_noticeInserted hput.call)

theorem undisturbed_makeRoom {s u : State} {b : Bool} (h : s.makeRoom = (u, b)) : Undisturbed s u := by
  unfold State.makeRoom at h
  split at h
  · cases h
    exact undisturbed_refl s
  · split at h
    · cases h
      exact (freed_freeCall s _).undisturbed
    · cases h
      exact undisturbed_refl s

theorem undisturbed_insertPost (s : State) (p : PostFields) : Undisturbed s (s.insertPost p) := by
  cases hroom : s.makeRoom with
  | mk u b =>
    have hu := undisturbed_makeRoom hroom
    cases b with
    | true =>
      rw [insertPost_of_room hroom]
      exact undisturbed_trans hu (edited_inserted u p).undisturbed
    | false =>
      unfold State.insertPost
      rw [hroom]
      exact undisturbed_trans hu (undisturbed_of_keeps ((keeps_offer u _ rfl).trans (keeps_count _ _)))

theorem callPost_of_own {s : State} {p : PostFields} (hown : s.cfg.ownPlatform p.platform = true) (hr : s.call p.id = none) :
    s.callPost p = s.insertPost p := by
  unfold State.callPost
  rw [if_pos hown, hr]

theorem slot_posted (p : PostFields) (calls : List CallRecord) (n : CueName) : (posted p calls).slot n = CueSlot.clear :=
  Vector.getElem_replicate n.idx.isLt

/-! ### A record posted again (R38, R39, R51) -/

/-- What a post leaves of a record that the table held: the posted fields, and the items that the record's state decides. -/
structure Reposted (s t : State) (p : PostFields) (b q : CallRecord) : Prop where
  undisturbed : Undisturbed s t
  others : OtherCallsKept p.id s t
  call : t.call p.id = some q
  frame : q = { b with slots := q.slots, lastDelay := q.lastDelay, events := q.events }

theorem Edited.reposted {s t : State} {p : PostFields} {b q : CallRecord} (h : Edited p.id s t q) (hq : SlotsAndDelay b q) : Reposted s t p b q where
  undisturbed := h.undisturbed
  others := h.others
  call := h.call
  frame := by
    have hevents : q.events = b.events := by rw [hq]
    rw [hevents]
    exact hq

theorem callPost_of_cancelled {s : State} {p : PostFields} {r : CallRecord} (hown : s.cfg.ownPlatform p.platform = true)
    (hr : s.call p.id = some r) (hst : r.state = .cancelled) :
    ∃ q, Edited p.id s (s.callPost p) q ∧ SlotsAndDelay (posted p s.calls) q := by
  have hact : s.callPost p = ((s.putCall (posted p s.calls)).noticeState p.id .cancelled none).noticeReinstated p.id := by
    unfold State.callPost
    rw [if_pos hown, hr]
    exact if_pos hst
  have hput : Edited p.id s (s.putCall (posted p s.calls)) (posted p s.calls) := edited_putCall rfl
  have hstate := hput.trans (edited_noticeState hput.call .cancelled none)
  have hall := hstate.trans (edited_noticeReinstated hstate.call)
  rw [hact]
  exact ⟨_, hall, (slotsOnly_stateNoticed _ _ _ _ _).withDelay.trans (delay_inserted _ _ _)⟩

/-- The record that a replacing post puts, after its notice (R38). -/
def replacedNow (s : State) (r : CallRecord) (p : PostFields) : CallRecord :=
  replaceNoticed s.cfg s.minuteNow (replacedNotice r (r.replaced p s.calls)) (r.replaced p s.calls)

theorem edited_replaced {s : State} {p : PostFields} {r : CallRecord} (hr : s.call p.id = some r) :
    Edited p.id s ((s.putCall (r.replaced p s.calls)).noticeReplaced p.id (replacedNotice r (r.replaced p s.calls))) (replacedNow s r p) := by
  have hid : (r.replaced p s.calls).id = p.id := id_of_call (s := s) (r := r) hr
  have hput : Edited p.id s (s.putCall (r.replaced p s.calls)) (r.replaced p s.calls) := edited_putCall hid
  exact hput.trans (edited_noticeReplaced hput.call _)

theorem callPost_of_held {s : State} {p : PostFields} {r : CallRecord} (hown : s.cfg.ownPlatform p.platform = true)
    (hr : s.call p.id = some r) (hst : r.state ≠ .cancelled) :
    s.callPost p =
      if r.state = .moving ∧ r.replaced p s.calls ≠ r then
        ((s.putCall (r.replaced p s.calls)).noticeReplaced p.id (replacedNotice r (r.replaced p s.calls))).resendHandover p.id
      else (s.putCall (r.replaced p s.calls)).noticeReplaced p.id (replacedNotice r (r.replaced p s.calls)) := by
  obtain hid : r.id = p.id := id_of_call hr
  unfold State.callPost
  rw [if_pos hown, hr]
  dsimp only
  rw [if_neg hst]
  unfold State.replacePost
  rw [hid]

theorem link_of_putCall (s : State) (r : CallRecord) : (s.putCall r).link = s.link := rfl

theorem solid_noticeReplaced_of_moving {id : Nat} {s : State} {r : CallRecord} {x : Replaced} (h : s.call id = some r) (hst : r.state = .moving)
    (hkind : x.kindChanged = false) : solid (s.noticeReplaced id x).link.queue ≤ solid s.link.queue + 1 := by
  have hbase (t : State) : solid (if x.baseChanged then t.rearmAll id else t).link.queue = solid t.link.queue := by
    split
    · rw [link_rearmAll]
    · rfl
  unfold State.noticeReplaced
  dsimp only
  rw [hkind, hbase]
  split
  · exact solid_delayRules_of_moving h hst
  · exact Nat.le_succ _

/-- What a post to a call in MOVING sends (R51). -/
structure Resent (s t : State) (p : PostFields) (r q : CallRecord) (m : Moving) : Prop where
  queued : s.onLink = true → s.link.queue.length ≤ 5 → r.replaced p s.calls ≠ r →
    s.Queued t .callHandover (handoverPayload (s.handing { q with events := r.events } m.target m.prior))
  quiet : r.replaced p s.calls = r → ∀ f ∈ t.link.queue, f.kind = .callHandover → f ∈ s.link.queue

theorem takesKind_iff {st : CallState} : st.takesKind = true ↔ st = .planned ∨ st = .approaching := by cases st <;> simp [CallState.takesKind]

theorem kind_replaced (r : CallRecord) (p : PostFields) (calls : List CallRecord) :
    (r.replaced p calls).kind = if r.state = .planned ∨ r.state = .approaching then p.kind else r.kind := by
  change (if r.state.takesKind then p.kind else r.kind) = _
  by_cases h : r.state = .planned ∨ r.state = .approaching
  · rw [if_pos h, if_pos (takesKind_iff.mpr h)]
  · rw [if_neg h, if_neg fun k => h (takesKind_iff.mp k)]

theorem kind_replaced_of_moving {r : CallRecord} (hst : r.state = .moving) (p : PostFields) (calls : List CallRecord) :
    (r.replaced p calls).kind = r.kind := by
  rw [kind_replaced, hst]
  exact if_neg (by simp)

theorem slots_replaced_of_moving {r : CallRecord} (hst : r.state = .moving) (p : PostFields) (calls : List CallRecord) :
    (r.replaced p calls).slots = r.slots := if_pos (kind_replaced_of_moving hst p calls)

theorem callPost_replaces {s : State} {p : PostFields} {r : CallRecord} (hown : s.cfg.ownPlatform p.platform = true)
    (hr : s.call p.id = some r) (hst : r.state ≠ .cancelled) :
    ∃ q, Reposted s (s.callPost p) p (r.replaced p s.calls) q ∧ (r.state ≠ .moving → q.events = r.events)
      ∧ ∀ m, r.state = .moving → r.moving = some m → Resent s (s.callPost p) p r q m := by
  have hedit := edited_replaced hr
  have hframe : SlotsAndDelay (r.replaced p s.calls) (replacedNow s r p) := delay_replaced _ _ _ _
  have hevents : (replacedNow s r p).events = r.events := by
    rw [hframe]
    rfl
  rw [callPost_of_held hown hr hst]
  by_cases hresend : (r.state = .moving ∧ r.replaced p s.calls ≠ r) ∧ ∃ m, r.moving = some m
  · obtain ⟨⟨hmove, hne⟩, m, hm⟩ := hresend
    have hput : (s.putCall (r.replaced p s.calls)).call p.id = some (r.replaced p s.calls) := call_putCall (r := r.replaced p s.calls)
      (id_of_call (s := s) (r := r) hr)
    have hkind : (replacedNotice r (r.replaced p s.calls)).kindChanged = false :=
      decide_eq_false (not_not.mpr (kind_replaced_of_moving hmove p s.calls).symm)
    have hsolid := solid_noticeReplaced_of_moving hput hmove hkind
    rw [if_pos ⟨hmove, hne⟩]
    rw [link_of_putCall] at hsolid
    generalize (s.putCall (r.replaced p s.calls)).noticeReplaced p.id (replacedNotice r (r.replaced p s.calls)) = u at hedit hsolid ⊢
    generalize replacedNow s r p = q at hedit hframe hevents
    have hmoving : q.moving = some m := by
      rw [hframe]
      exact hm
    have hsend := offered_sendHandover (s := u) (id_of_call hedit.call) m.target m.prior
    rw [readMinute_congr hedit.now hedit.minuteNow, handing_congr hedit.now hedit.minuteNow] at hsend
    rw [resendHandover_of_moving hedit.call hmoving]
    refine ⟨_, ⟨undisturbed_trans hedit.undisturbed hsend.undisturbed, fun j hj => (hsend.others j hj).trans (hedit.others j hj), hsend.call,
      congrArg (fun v : CallRecord => { v with events := q.events.map s.readMinute }) hframe⟩, fun hnot => absurd hmove hnot,
      fun m' _ hm' => ⟨fun hon hroom _ => ?_, fun heq => absurd heq hne⟩⟩
    obtain rfl : m = m' := Option.some.inj (hm.symm.trans hm')
    have hback : ({ { q with events := q.events.map s.readMinute } with events := r.events } : CallRecord) = q := by rw [← hevents]
    have hle := solid_le s.link.queue
    rw [hback]
    exact hedit.aside.queued_left rfl (hsend.queued (hedit.onLink.trans hon) (hsolid.trans_lt (by omega)))
  · have hact : (if r.state = .moving ∧ r.replaced p s.calls ≠ r then
        ((s.putCall (r.replaced p s.calls)).noticeReplaced p.id (replacedNotice r (r.replaced p s.calls))).resendHandover p.id
      else (s.putCall (r.replaced p s.calls)).noticeReplaced p.id (replacedNotice r (r.replaced p s.calls)))
        = (s.putCall (r.replaced p s.calls)).noticeReplaced p.id (replacedNotice r (r.replaced p s.calls)) := by
      split
      next hcond =>
        have hnone : (replacedNow s r p).moving = none := by
          rw [hframe]
          exact Option.eq_none_iff_forall_ne_some.mpr fun m hm => hresend ⟨hcond, m, hm⟩
        unfold State.resendHandover
        simp only [hedit.call, hnone]
      next => rfl
    rw [hact]
    exact ⟨_, Edited.reposted hedit hframe, fun _ => hevents, fun m hmove hm =>
      ⟨fun _ _ hne => absurd ⟨⟨hmove, hne⟩, m, hm⟩ hresend, fun _ => hedit.aside.no_new rfl⟩⟩

theorem undisturbed_callPost (s : State) (p : PostFields) : Undisturbed s (s.callPost p) := by
  cases hown : s.cfg.ownPlatform p.platform with
  | false =>
    have hact : s.callPost p = s := if_neg (by rw [hown]; exact Bool.false_ne_true)
    rw [hact]
    exact undisturbed_refl s
  | true =>
    cases hr : s.call p.id with
    | none =>
      rw [callPost_of_own hown hr]
      exact undisturbed_insertPost s p
    | some r =>
      by_cases hst : r.state = .cancelled
      · obtain ⟨q, hedit, -⟩ := callPost_of_cancelled hown hr hst
        exact hedit.undisturbed
      · obtain ⟨q, hposted, -, -⟩ := callPost_replaces hown hr hst
        exact hposted.undisturbed

/-- A CALL_POST to a call held, in either way (R38, R39). -/
theorem callPost_of_some {s : State} {p : PostFields} {r : CallRecord} (hown : s.cfg.ownPlatform p.platform = true) (hr : s.call p.id = some r) :
    ∃ b q, Reposted s (s.callPost p) p b q
      ∧ (r.state = .cancelled → b = posted p s.calls ∧ q.events = b.events)
      ∧ (r.state ≠ .cancelled → b = r.replaced p s.calls ∧ (r.state ≠ .moving → q.events = r.events)
        ∧ ∀ m, r.state = .moving → r.moving = some m → Resent s (s.callPost p) p r q m) := by
  by_cases hst : r.state = .cancelled
  · obtain ⟨q, hedit, hframe⟩ := callPost_of_cancelled hown hr hst
    exact ⟨_, q, Edited.reposted hedit hframe, fun _ => ⟨rfl, by rw [hframe]⟩, fun hne => absurd hst hne⟩
  · obtain ⟨q, hposted, hevents, hresent⟩ := callPost_replaces hown hr hst
    exact ⟨_, q, hposted, fun h => absurd h hst, fun _ => ⟨rfl, hevents, hresent⟩⟩

/-- The fields that a post writes whatever the record's state (R38, R39). -/
structure Written (p : PostFields) (calls : List CallRecord) (b : CallRecord) : Prop where
  scheduled : b.scheduled = p.scheduled
  expected : b.expected = p.expected
  destination : b.destination = p.destination
  origin : b.origin = p.origin
  carriages : b.carriages = p.carriages
  posted : b.posted = p.points.length
  points : b.points = p.points.take (poolFree (othersOf p.id calls))
  truncated : b.truncated = decide (b.points.length < p.points.length)

theorem written_posted (p : PostFields) (calls : List CallRecord) : Written p calls (posted p calls) := ⟨rfl, rfl, rfl, rfl, rfl, rfl, rfl, rfl⟩

theorem written_replaced {r : CallRecord} {p : PostFields} (hid : r.id = p.id) (calls : List CallRecord) : Written p calls (r.replaced p calls) :=
  ⟨rfl, rfl, rfl, rfl, rfl, rfl, by rw [← hid]; rfl, rfl⟩

/-- In MOVING a post that leaves the record as it was changed none of the posted fields. -/
theorem replaced_of_final {s : State} {p : PostFields} {r q : CallRecord} (hst : r.state = .moving)
    (hframe : q = { r.replaced p s.calls with slots := q.slots, lastDelay := q.lastDelay, events := q.events }) (hq : q = r) :
    r.replaced p s.calls = r := by
  have hslots := slots_replaced_of_moving hst p s.calls
  obtain ⟨b, hb⟩ : ∃ b, b = r.replaced p s.calls := ⟨_, rfl⟩
  have hdelay : b.lastDelay = r.lastDelay := by
    rw [hb]
    rfl
  have hevents : b.events = r.events := by
    rw [hb]
    rfl
  rw [← hb] at hframe hslots ⊢
  rw [hq, ← hslots, ← hdelay, ← hevents] at hframe
  exact hframe.symm

/-- A post takes the place of the record that was freed for it (R40). -/
theorem insertPost_evicting {s : State} {p : PostFields} {id : Nat} (hr : s.call p.id = none) (hne : id ≠ p.id)
    (hroom : s.makeRoom = (s.freeCall id, true)) :
    (s.insertPost p).call id = none ∧ (∀ j, j ≠ id → j ≠ p.id → (s.insertPost p).call j = s.call j)
      ∧ (∀ e ∈ (s.insertPost p).queue.entries, e.boundCall ≠ some id)
      ∧ ∃ q, (s.insertPost p).call p.id = some q ∧ q.state = .planned ∧ q.points = p.points.take (poolFree (othersOf id s.calls))
        ∧ (s.insertPost p).counters[(13 : Fin 16)] = s.counters[(13 : Fin 16)] := by
  have hfreed := freed_freeCall s id
  have hothers : othersOf p.id (s.freeCall id).calls = othersOf id s.calls := othersOf_freeCall hr
  rw [insertPost_of_room hroom]
  generalize s.freeCall id = u at hfreed hothers ⊢
  have hedit := edited_inserted u p
  have hput : BoundTo p.id u (u.putCall (posted p u.calls)) := boundTo_of_queue rfl
  have hbound := hput.trans (boundTo_noticeInserted _)
  have hframe := delay_inserted u.cfg u.minuteNow (posted p u.calls)
  generalize delayRuled u.cfg u.minuteNow (comparedAll u.cfg (posted p u.calls)) = q at hedit hframe
  refine ⟨(hedit.others _ hne).trans hfreed.gone, fun j hjv hjp => (hedit.others j hjp).trans (hfreed.others j hjv), fun e he hbad => ?_,
    q, hedit.call, by rw [hframe]; rfl, ?_, ?_⟩
  · obtain hin | hnew := hbound e he
    · exact hfreed.unbound e hin hbad
    · rw [hnew] at hbad
      exact hne (Option.some.inj hbad).symm
  · have hpoints : q.points = (posted p u.calls).points := by rw [hframe]
    rw [hpoints, (written_posted p u.calls).points, hothers]
  · rw [hedit.aside.refused, hfreed.aside.refused]

/-- Settles O24: a new record is put with room or in the place of the evicted one, a held one is put again; the notices edit slots and the
delay announced, and in MOVING the changed record is handed on. -/
theorem callPosted : Obligations.CallPosted := by
  intro dst src payload s p hreach hread
  have hexec := exec_reaches hreach hread (y := exec (.callPost dst src payload) s) rfl
  refine ⟨fun hother => ?_, fun hown => ⟨_, hexec, undisturbed_callPost s.taken p, fun hr hroom => ?_, fun hr hfull hlive => ?_,
    fun v d hr hfull hfit hv hended hd hleast => ?_, fun r hr => ?_⟩⟩
  · rw [hexec]
    exact congrArg Host.Outcome.next (if_neg (by
      rw [show s.taken.cfg.ownPlatform p.platform = false from hother]
      exact Bool.false_ne_true))
  · rw [callPost_of_own (s := s.taken) hown hr, insertPost_of_room (makeRoom_of_room (s := s.taken) hroom)]
    have hedit := edited_inserted s.taken p
    have hframe := delay_inserted s.taken.cfg s.taken.minuteNow (posted p s.taken.calls)
    have hslot {n : CueName} (hn : n.isPlan = true) := slot_inserted_of_plan hn s.taken.cfg s.taken.minuteNow (posted p s.taken.calls)
    generalize delayRuled s.taken.cfg s.taken.minuteNow (comparedAll s.taken.cfg (posted p s.taken.calls)) = q at hedit hframe hslot
    have hothers : othersOf p.id s.taken.calls = s.calls := othersOf_of_none (s := s.taken) hr
    refine ⟨hedit.others, q, hedit.call, ?_, fun n hn => ?_⟩
    · rw [← length_take_lt, ← hothers]
      exact hframe
    · have hfresh := (settled_compared s.taken.cfg (posted p s.taken.calls) hn).unspent (by rw [slot_posted]; rfl)
      rw [hslot hn, hfresh]
      change (if (planCue s.taken.cfg (posted p s.taken.calls) n).used && insideOf s.taken.cfg (posted p s.taken.calls) n then SlotState.armed
        else .idle) = _
      rw [← hframe.planCue, ← hframe.insideOf]
      rfl
  · rw [callPost_of_own (s := s.taken) hown hr]
    have hinsert : s.taken.insertPost p = s.taken.refuseCall p.id p.platform := by
      unfold State.insertPost
      rw [makeRoom_of_live (s := s.taken) hfull hlive]
    rw [hinsert]
    refine ⟨(keeps_offer s.taken _ rfl).calls, ?_, fun hlen => queued_refuseCall (s := s.taken) hreach.linked hlen p.id p.platform⟩
    exact (refused_refuseCall s.taken p.id p.platform).trans (by rw [counter_taken s (by decide)])
  · have hne : v.id ≠ p.id := fun heq => by
      have hsome := call_of_mem hfit hv
      rw [heq, hr] at hsome
      cases hsome
    have hroom := makeRoom_of_ended (s := s.taken) hfull ⟨hfit.count, hfit.ordered, hfit.cells⟩ hv hended hd hleast
    obtain ⟨hgone, hothers, hunbound, q, hcall, hstate, hpoints, hrefused⟩ := insertPost_evicting (s := s.taken) hr hne hroom
    rw [callPost_of_own (s := s.taken) hown hr]
    exact ⟨hgone, hothers, hunbound, q, hcall, hstate, hpoints, by rw [hrefused, counter_taken s (by decide)]⟩
  · obtain ⟨b, q, hposted, hcancelled, hheld⟩ := callPost_of_some (s := s.taken) hown hr
    have hid : r.id = p.id := id_of_call hr
    have hframe := hposted.frame
    have hwritten : Written p s.calls b := by
      by_cases hst : r.state = .cancelled
      · rw [(hcancelled hst).1]
        exact written_posted p s.calls
      · rw [(hheld hst).1]
        exact written_replaced hid s.calls
    have hpoints : q.points = b.points := by rw [hframe]
    refine ⟨hposted.others, q, hposted.call, ?_, ?_, ?_, ?_, ?_, ?_, ?_, ?_, fun hst e => ?_, fun hst hmove => (hheld hst).2.1 hmove,
      fun m hmove hm => ?_, fun hst => ?_, fun hst => ?_⟩
    · rw [hframe]; exact hwritten.scheduled
    · rw [hframe]; exact hwritten.expected
    · rw [hframe]; exact hwritten.destination
    · rw [hframe]; exact hwritten.origin
    · rw [hframe]; exact hwritten.carriages
    · rw [hframe]; exact hwritten.posted
    · rw [hpoints]; exact hwritten.points
    · rw [hpoints, ← hwritten.truncated, hframe]
    · obtain ⟨hb, hevents⟩ := hcancelled hst
      rw [hevents, hb]
      exact Vector.getElem_replicate e.isLt
    · have hst : r.state ≠ .cancelled := fun h => by
        rw [hmove] at h
        cases h
      obtain ⟨hb, -, hresent⟩ := hheld hst
      have hres := hresent m hmove hm
      rw [hb] at hframe
      refine ⟨by rw [hframe]; exact hm, fun hlen => ⟨fun hdiff => hres.queued hreach.linked hlen fun heq => ?_, fun hq =>
        hres.quiet (replaced_of_final (s := s.taken) hmove hframe hq)⟩⟩
      rw [heq] at hframe
      rw [hframe] at hdiff
      simp at hdiff
    · obtain ⟨hb, -⟩ := hcancelled hst
      rw [hframe, hb]
      exact ⟨rfl, rfl, rfl, rfl⟩
    · obtain ⟨hb, -⟩ := hheld hst
      rw [hframe, hb]
      exact ⟨rfl, rfl, rfl, kind_replaced r p s.calls⟩

end Sys2Proof.Proofs.PostRules

end

section
/-! Firings and second events: the entry that a firing offers, and the examination of a table of one record (R57, R60 to R64). -/

namespace Sys2Proof.Proofs.SecondRules

open Sys2Proof.Machine
open Sys2Proof.Proofs.LiveClose Sys2Proof.Proofs.Faults Sys2Proof.Proofs.Upkeep Sys2Proof.Proofs.Uphold Sys2Proof.Proofs.CallRules
open Sys2Proof.Proofs.Commands Sys2Proof.Proofs.Steps Sys2Proof.Proofs.Reports Sys2Proof.Proofs.Starting Sys2Proof.Proofs.Transmit
open Sys2Proof.Proofs.LineRules Sys2Proof.Proofs.FaultRules Sys2Proof.Proofs.QueueRules Sys2Proof.Proofs.GroupRules
open Sys2Proof.Proofs.CallFrames Sys2Proof.Proofs.NoticeRules Sys2Proof.Proofs.CallOutcomes Sys2Proof.Proofs.RecordRules
open Sys2Proof.Proofs.PostRules

/-! ### The entry of a firing (R57, R62) -/

theorem mem_platformZones {c : NodeConfig} {p : Nat} {z : ZoneId} :
    z ∈ c.platformZones p ↔ (c.zones[z]).present = true ∧ p ≠ 0 ∧ ∃ k, (c.zones[z]).slot = some k ∧ c.platforms.toList.getD k 0 = p := by
  unfold NodeConfig.platformZones
  rw [List.mem_filter, and_iff_right (mem_allZones z), Bool.and_eq_true, Bool.and_eq_true, decide_eq_true_iff, Option.any_eq_true, and_assoc]
  simp only [decide_eq_true_iff]

theorem mem_cueMask {c : NodeConfig} {q : Cue} {platforms : List Nat} {z : ZoneId} :
    z ∈ c.cueMask q platforms ↔ (c.zones[z]).present = true
      ∧ (z ∈ q.concourse ∨ q.platformZones = true
        ∧ ∃ k, (c.zones[z]).slot = some k ∧ c.platforms.toList.getD k 0 ≠ 0 ∧ c.platforms.toList.getD k 0 ∈ platforms) := by
  have hplatforms : z ∈ (if q.platformZones then platforms.flatMap c.platformZones else []) ↔ (c.zones[z]).present = true
      ∧ q.platformZones = true
      ∧ ∃ k, (c.zones[z]).slot = some k ∧ c.platforms.toList.getD k 0 ≠ 0 ∧ c.platforms.toList.getD k 0 ∈ platforms := by
    cases q.platformZones with
    | false => simp
    | true =>
      rw [if_pos rfl, List.mem_flatMap]
      constructor
      · rintro ⟨p, hp, hz⟩
        obtain ⟨hpresent, hne, k, hk, rfl⟩ := mem_platformZones.mp hz
        exact ⟨hpresent, rfl, k, hk, hne, hp⟩
      · rintro ⟨hpresent, -, k, hk, hne, hp⟩
        exact ⟨_, hp, mem_platformZones.mpr ⟨hpresent, hne, k, hk, rfl⟩⟩
  unfold NodeConfig.cueMask zoneUnion
  rw [List.mem_filter, and_iff_right (mem_allZones z), Bool.or_eq_true, List.contains_iff_mem, List.contains_iff_mem, hplatforms, List.mem_filter,
    and_comm (a := z ∈ q.concourse), ← and_or_left, or_comm]

/-- With room the entry offered joins the queue before the walk, beside those of other keys. -/
theorem offered_before_walk {u : State} {e : Entry} (hplaying : u.chanOfKey e.key = none) (hattempts : e.attempts = 0)
    (hroom : u.queue.entries.length < 24) :
    ∃ (v : State) (f : Entry), u.offerEntry e = v.walk ∧ v = { u with queue := { v.queue with continuations := u.queue.continuations } }
      ∧ f ∈ v.queue.entries ∧ f = { e with tag := f.tag, seq := f.seq } ∧ ∀ g ∈ u.queue.entries, g.key ≠ e.key → g ∈ v.queue.entries := by
  cases hwaiting : u.entryOf e.key with
  | some f =>
    refine ⟨replacing u e f, _, offerEntry_of_waiting hwaiting, rfl, mem_replacing.mpr (.inl rfl), ?_, fun g hg hne => mem_replacing.mpr (.inr ⟨hg, hne⟩)⟩
    rw [← hattempts]
  | none =>
    exact ⟨u.insertNew e, _, (offerEntry_of_new hwaiting hplaying).trans (offerNew_of_room e hroom), rfl, mem_insertNew_self u e, rfl,
      fun g hg _ => mem_insertNew e hg⟩

/-- A cue that is on no channel offers its entry. -/
theorem fires_offerEntry {t u : State} {id : Nat} {n : CueName} {q : Cue} {platforms : List Nat} (hplaying : u.chanOfKey (.cue id n) = none)
    (ht : t = { u.offerEntry (cueEntry id n q (u.cfg.cueMask q platforms) u.now) with calls := t.calls }) : t.Fires u u.cfg id n q platforms :=
  ⟨_, ht, rfl, rfl, rfl, rfl, rfl, rfl, rfl, rfl, rfl, fun _ => mem_cueMask,
    fun hroom => offered_before_walk (e := cueEntry id n q (u.cfg.cueMask q platforms) u.now) hplaying rfl hroom⟩

/-- The record that a firing puts (R62). -/
def firedRecord (s : State) (r : CallRecord) (n : CueName) : CallRecord := r.setSlot n (firedSlot s.cfg s.minuteNow r n)

theorem fire_of_call {id : Nat} {s : State} {r : CallRecord} (h : s.call id = some r) (n : CueName) (platforms : List Nat) :
    s.fire id n platforms =
      if (s.chanOfKey (.cue id n)).isSome then s.putCall (firedRecord s r n)
      else (s.putCall (firedRecord s r n)).offerEntry (cueEntry id n (s.cue r n) (s.cfg.cueMask (s.cue r n) platforms) s.now) := by
  unfold State.fire
  rw [h]
  rfl

theorem fireHere_of_call {id : Nat} {s : State} {r : CallRecord} (h : s.call id = some r) (n : CueName) :
    s.fireHere id n = s.fire id n [r.platform] := by
  unfold State.fireHere
  rw [h]

theorem fire_of_playing {id : Nat} {s : State} {r : CallRecord} (h : s.call id = some r) {n : CueName} (hplaying : s.chanOfKey (.cue id n) ≠ none)
    (platforms : List Nat) : s.fire id n platforms = s.putCall (firedRecord s r n) := by
  rw [fire_of_call h, if_pos (Option.isSome_iff_ne_none.mpr hplaying)]

/-- The firing of a cue on no channel, from the state with the record put. -/
theorem fires_fire {id : Nat} {s : State} {r : CallRecord} (h : s.call id = some r) {n : CueName} (hplaying : s.chanOfKey (.cue id n) = none)
    (platforms : List Nat) : (s.fire id n platforms).Fires (s.putCall (firedRecord s r n)) s.cfg id n (s.cue r n) platforms := by
  rw [fire_of_call h, hplaying]
  exact fires_offerEntry (u := s.putCall (firedRecord s r n)) hplaying rfl

/-! ### The call ids that an edit keeps (R32) -/

theorem ids_insertCall {r q : CallRecord} {l : List CallRecord} (hordered : l.Pairwise fun a b => a.id < b.id) (hq : q ∈ l) (hid : r.id = q.id) :
    (insertCall r l).map CallRecord.id = l.map CallRecord.id := by
  induction l with
  | nil => cases hq
  | cons a rest ih =>
    obtain ⟨hfirst, hrest⟩ := List.pairwise_cons.mp hordered
    unfold insertCall
    obtain rfl | hin := List.mem_cons.mp hq
    · rw [if_neg (by omega), if_pos hid, List.map_cons, List.map_cons, hid]
    · have hlt := hfirst q hin
      rw [if_neg (by omega), if_neg (by omega), List.map_cons, List.map_cons, ih hrest hin]

/-- From `s` to `t` the table keeps its call ids, if they stand in order. -/
def SameIds (s t : State) : Prop :=
  s.calls.Pairwise (fun a b => a.id < b.id) → t.calls.map CallRecord.id = s.calls.map CallRecord.id

theorem ordered_of_ids {l m : List CallRecord} (h : m.map CallRecord.id = l.map CallRecord.id) (hl : l.Pairwise fun a b => a.id < b.id) :
    m.Pairwise fun a b => a.id < b.id := by
  rw [← List.pairwise_map (f := CallRecord.id) (R := (· < ·))] at hl ⊢
  rwa [h]

namespace SameIds

theorem refl (s : State) : SameIds s s := fun _ => rfl

theorem trans {s t u : State} (h : SameIds s t) (k : SameIds t u) : SameIds s u := fun hs =>
  (k (ordered_of_ids (h hs) hs)).trans (h hs)

theorem foldl {α : Type} (f : State → α → State) (hf : ∀ s a, SameIds s (f s a)) (l : List α) (s : State) : SameIds s (l.foldl f s) :=
  List.foldlRecOn (motive := fun t => SameIds s t) l _ (refl s) fun _ ht a _ => ht.trans (hf _ a)

end SameIds

theorem sameIds_of_calls {s t : State} (h : t.calls = s.calls) : SameIds s t := fun _ => by rw [h]

theorem sameIds_putCall {s : State} {id : Nat} {q r : CallRecord} (hq : s.call id = some q) (hid : r.id = id) : SameIds s (s.putCall r) := fun hs =>
  ids_insertCall hs (mem_of_call hq) (hid.trans (id_of_call hq).symm)

theorem sameIds_setSlot (s : State) (id : Nat) (n : CueName) (f : CueSlot → CueSlot) : SameIds s (s.setSlot id n f) := by
  unfold State.setSlot
  split
  · exact SameIds.refl s
  next r hr =>
    have hid : r.id = id := id_of_call hr
    exact sameIds_putCall hr hid

theorem sameIds_fire (s : State) (id : Nat) (n : CueName) (platforms : List Nat) : SameIds s (s.fire id n platforms) := by
  cases hr : s.call id with
  | none =>
    unfold State.fire
    rw [hr]
    exact SameIds.refl s
  | some r =>
    have hid : (firedRecord s r n).id = id := id_of_call (s := s) (r := r) hr
    have hput := sameIds_putCall hr hid
    rw [fire_of_call hr]
    split
    · exact hput
    · exact hput.trans (sameIds_of_calls (keeps_offerEntry _ _).calls)

theorem sameIds_fireHere (s : State) (id : Nat) (n : CueName) : SameIds s (s.fireHere id n) := by
  unfold State.fireHere
  split
  · exact SameIds.refl s
  · exact sameIds_fire s id n _

theorem sameIds_readFor (s : State) (id : Nat) (n : CueName) (q : Cue) : SameIds s (s.readFor id n q) := by
  unfold State.readFor State.readEvent
  split
  · split
    · exact SameIds.refl s
    next r hr =>
      have hid : r.id = id := id_of_call hr
      exact sameIds_putCall hr hid
  · exact SameIds.refl s

theorem sameIds_missed (s : State) (id : Nat) (n : CueName) (f : CueSlot → CueSlot) : SameIds s ((s.setSlot id n f).count .cuesMissed) :=
  (sameIds_setSlot s id n f).trans (sameIds_of_calls rfl)

theorem sameIds_examine (s : State) (m id : Nat) (n : CueName) : SameIds s (s.examine m id n) := by
  unfold State.examine
  split
  · exact SameIds.refl s
  · dsimp only
    split
    · split
      · unfold State.examineArmed
        dsimp only
        split
        · exact sameIds_readFor s id n _
        · split
          · exact sameIds_readFor s id n _
          · split
            · exact (sameIds_readFor s id n _).trans (sameIds_fireHere _ id n)
            · exact (sameIds_readFor s id n _).trans (sameIds_missed _ id n _)
      · split
        · unfold State.examineFired
          split
          · exact sameIds_setSlot s id n _
          · split
            · exact SameIds.refl s
            · split
              · exact sameIds_fireHere s id n
              · exact sameIds_missed s id n _
        · exact SameIds.refl s
      · exact SameIds.refl s
      · exact SameIds.refl s
    · exact SameIds.refl s

/-- A second event keeps the call ids. -/
theorem sameIds_secondEvent (s : State) : SameIds s s.secondEvent := by
  unfold State.secondEvent
  split
  · exact SameIds.refl s
  · exact SameIds.foldl _ (fun t id => SameIds.foldl _ (fun u n => sameIds_examine u _ id n) allCues t) _ s

/-! ### The examination of one slot (R61, R64) -/

/-- At most a record's event minutes and one of its slots differ. -/
structure OneSlot (n : CueName) (r r' : CallRecord) : Prop where
  frame : r' = { r with slots := r'.slots, events := r'.events }
  others : ∀ k : CueName, k ≠ n → r'.slot k = r.slot k

theorem OneSlot.refl (n : CueName) (r : CallRecord) : OneSlot n r r := ⟨rfl, fun _ _ => rfl⟩

theorem OneSlot.trans {n : CueName} {r q p : CallRecord} (h : OneSlot n r q) (k : OneSlot n q p) : OneSlot n r p where
  frame := by
    have hk := k.frame
    rw [h.frame] at hk
    exact hk
  others j hj := (k.others j hj).trans (h.others j hj)

theorem oneSlot_setSlot (r : CallRecord) (n : CueName) (x : CueSlot) : OneSlot n r (r.setSlot n x) :=
  ⟨rfl, fun _ hk => slot_setSlot_of_ne r x hk⟩

section
variable {id : Nat} {s : State} {r : CallRecord} (h : s.call id = some r)
include h

theorem edited_readFor (n : CueName) (q : Cue) : ∃ r', Edited id s (s.readFor id n q) r' ∧ OneSlot n r r' := by
  unfold State.readFor
  split
  next e _ _ _ =>
    have hid : (r.readEvent e s.now s.minuteNow).id = id := id_of_call (s := s) (r := r) h
    unfold State.readEvent
    rw [h]
    exact ⟨_, edited_putCall hid, rfl, fun _ _ => rfl⟩
  · exact ⟨r, edited_refl h, OneSlot.refl n r⟩

theorem edited_count (k : Counter) (hk : k ≠ .callRefused) : Edited id s (s.count k) r :=
  edited_of_keeps h (keeps_count s k) (aside_count s hk)

theorem edited_missed (n : CueName) (f : CueSlot → CueSlot) :
    Edited id s ((s.setSlot id n f).count .cuesMissed) (r.setSlot n (f (r.slot n))) := by
  have hset := edited_setSlot h n f
  exact hset.trans (edited_count hset.call .cuesMissed (by decide))

theorem edited_examineArmed (n : CueName) (q : Cue) (m : Nat) : ∃ r', Edited id s (s.examineArmed id n q m) r' ∧ OneSlot n r r' := by
  obtain ⟨p, hread, hone⟩ := edited_readFor h n q
  unfold State.examineArmed
  dsimp only
  split
  · exact ⟨p, hread, hone⟩
  · split
    · exact ⟨p, hread, hone⟩
    · split
      · exact ⟨_, hread.trans (edited_fireHere hread.call n), hone.trans (oneSlot_setSlot p n _)⟩
      · exact ⟨_, hread.trans (edited_missed hread.call n _), hone.trans (oneSlot_setSlot p n _)⟩

theorem edited_examineFired (n : CueName) (q : Cue) (m : Nat) (next : Option Nat) :
    ∃ r', Edited id s (s.examineFired id n q m next) r' ∧ OneSlot n r r' := by
  unfold State.examineFired
  split
  · exact ⟨_, edited_setSlot h n _, oneSlot_setSlot r n _⟩
  · split
    · exact ⟨r, edited_refl h, OneSlot.refl n r⟩
    · split
      · exact ⟨_, edited_fireHere h n, oneSlot_setSlot r n _⟩
      · exact ⟨_, edited_missed h n _, oneSlot_setSlot r n _⟩

theorem edited_examine (m : Nat) (n : CueName) : ∃ r', Edited id s (s.examine m id n) r' ∧ OneSlot n r r' := by
  have hsame : ∃ r', Edited id s s r' ∧ OneSlot n r r' := ⟨r, edited_refl h, OneSlot.refl n r⟩
  unfold State.examine
  rw [h]
  dsimp only
  split
  · split
    · exact edited_examineArmed h n _ m
    · split
      · exact edited_examineFired h n _ m _
      · exact hsame
    · exact hsame
    · exact hsame
  · exact hsame

theorem examine_of_quiet {n : CueName} (hquiet : (r.slot n).state = .idle ∨ (r.slot n).state = .missed) (m : Nat) : s.examine m id n = s := by
  unfold State.examine
  rw [h]
  dsimp only
  split
  · obtain hst | hst := hquiet <;> rw [hst]
  · rfl

end

/-- An examination leaves all but the calls and what firings touch undisturbed. -/
theorem undisturbed_examine (s : State) (m id : Nat) (n : CueName) : Undisturbed s (s.examine m id n) := by
  cases hr : s.call id with
  | none =>
    unfold State.examine
    rw [hr]
    exact undisturbed_refl s
  | some r =>
    obtain ⟨_, hedit, -⟩ := edited_examine hr m n
    exact hedit.undisturbed

theorem undisturbed_secondEvent (s : State) : Undisturbed s s.secondEvent := by
  unfold State.secondEvent
  split
  · exact undisturbed_refl s
  · refine List.foldlRecOn (motive := fun t => Undisturbed s t) _ _ (undisturbed_refl s) fun t ht id _ => undisturbed_trans ht ?_
    exact List.foldlRecOn (motive := fun u => Undisturbed t u) _ _ (undisturbed_refl t) fun u hu n _ =>
      undisturbed_trans hu (undisturbed_examine u _ id n)

/-! ### A table of one record in which one cue may act -/

theorem examine_quietList {id m : Nat} {s : State} {r : CallRecord} (h : s.call id = some r) {l : List CueName}
    (hquiet : ∀ k ∈ l, (r.slot k).state = .idle ∨ (r.slot k).state = .missed) : l.foldl (fun t k => t.examine m id k) s = s := by
  induction l with
  | nil => rfl
  | cons k rest ih =>
    obtain ⟨hk, hrest⟩ := List.forall_mem_cons.mp hquiet
    rw [List.foldl_cons, examine_of_quiet h hk]
    exact ih hrest

theorem secondEvent_of_one {s : State} {r : CallRecord} {m : Nat} {n : CueName} (hcalls : s.calls = [r]) (hm : s.minuteNow = some m)
    (hquiet : ∀ k : CueName, k ≠ n → (r.slot k).state = .idle ∨ (r.slot k).state = .missed) : s.secondEvent = s.examine m r.id n := by
  have hcall : s.call r.id = some r := by
    unfold State.call
    rw [hcalls]
    simp
  obtain ⟨before, after, hsplit⟩ := List.append_of_mem (mem_allCues n)
  have hnodup : (before ++ n :: after).Nodup := by
    rw [← hsplit]
    decide
  obtain ⟨-, hafter, hcross⟩ := List.nodup_append.mp hnodup
  obtain ⟨r', hedit, hone⟩ := edited_examine hcall m n
  have hevent : s.secondEvent = allCues.foldl (fun t k => t.examine m r.id k) s := by
    unfold State.secondEvent
    rw [hm, hcalls]
    rfl
  rw [hevent, hsplit, List.foldl_append, List.foldl_cons,
    examine_quietList hcall fun k hk => hquiet k fun heq => hcross k hk n (List.mem_cons_self ..) heq]
  refine examine_quietList hedit.call fun k hk => ?_
  have hne : k ≠ n := fun heq => (List.nodup_cons.mp hafter).1 (heq ▸ hk)
  rw [hone.others k hne]
  exact hquiet k hne

/-! ### When one cue acts (R60, R61, R64) -/

theorem periodAfter_eq (q : Cue) (m : Nat) : periodAfter q (some m) = nextInstant q m := by
  unfold periodAfter nextInstant
  cases q.repeatEvery <;> rfl

theorem call_of_one {v : State} {r : CallRecord} (hcalls : v.calls = [r]) : v.call r.id = some r := by
  unfold State.call
  rw [hcalls]
  simp

/-- What an instant `i` makes of a slot at a minute: it waits, fires, or is given up for `f`. -/
def actAt (v : State) (r : CallRecord) (n : CueName) (m i : Nat) (f : CueSlot → CueSlot) : State :=
  if m < i then v else if m - i ≤ v.cfg.lateLimit then v.fireHere r.id n else (v.setSlot r.id n f).count .cuesMissed

theorem actAt_waits {v t : State} {r r' : CallRecord} {n : CueName} {m i : Nat} {f : CueSlot → CueSlot} (hcall : v.call r.id = some r)
    (ht : actAt v r n m i f = t) (hr' : t.call r.id = some r') (h : m < i) : r' = r ∧ t = v := by
  have hsame : t = v := by
    rw [← ht]
    exact if_pos h
  refine ⟨?_, hsame⟩
  rw [hsame, hcall] at hr'
  exact (Option.some.inj hr').symm

theorem actAt_fires {v t : State} {r r' : CallRecord} {n : CueName} {m i : Nat} {f : CueSlot → CueSlot} (hcall : v.call r.id = some r)
    (hm : v.minuteNow = some m) (ht : actAt v r n m i f = t) (hr' : t.call r.id = some r') (hge : i ≤ m) (hle : m ≤ i + v.cfg.lateLimit) :
    r'.slot n = { state := .fired, next := nextInstant (v.cue r n) m, firedBase := some r.base }
      ∧ (v.chanOfKey (.cue r.id n) = none → t.Fires { v with calls := t.calls } v.cfg r.id n (v.cue r n) [r.platform])
      ∧ (v.chanOfKey (.cue r.id n) ≠ none → t.queue = v.queue) := by
  have hact : t = v.fire r.id n [r.platform] := by
    rw [← ht, ← fireHere_of_call hcall]
    unfold actAt
    rw [if_neg (by omega), if_pos (by omega)]
  have hedit := edited_fire hcall n [r.platform]
  rw [← hact] at hedit
  have hrecord : r' = firedRecord v r n := Option.some.inj (hr'.symm.trans hedit.call)
  refine ⟨?_, fun hplaying => ?_, fun hplaying => ?_⟩
  · rw [hrecord, ← periodAfter_eq, ← hm]
    exact slot_setSlot_self r n _
  · have hfires := fires_fire hcall hplaying [r.platform]
    have hcalls : t.calls = (v.putCall (firedRecord v r n)).calls := by
      rw [hact, fire_of_call hcall, hplaying]
      exact (keeps_offerEntry _ _).calls
    rw [hcalls]
    rw [← hact] at hfires
    exact hfires
  · rw [hact, fire_of_playing hcall hplaying]
    rfl

theorem actAt_skips {v t : State} {r r' : CallRecord} {n : CueName} {m i : Nat} {f : CueSlot → CueSlot} (hcall : v.call r.id = some r)
    (ht : actAt v r n m i f = t) (hr' : t.call r.id = some r') (h : i + v.cfg.lateLimit < m) :
    r'.slot n = f (r.slot n) ∧ t.queue = v.queue ∧ t.counters[(11 : Fin 16)] = min (v.counters[(11 : Fin 16)] + 1) 65535 := by
  have hact : t = (v.setSlot r.id n f).count .cuesMissed := by
    rw [← ht]
    unfold actAt
    rw [if_neg (by omega), if_neg (by omega)]
  have hset : v.setSlot r.id n f = v.putCall (r.setSlot n (f (r.slot n))) := by
    unfold State.setSlot
    rw [hcall]
  have hedit := edited_missed hcall n f
  rw [← hact] at hedit
  have hrecord : r' = r.setSlot n (f (r.slot n)) := Option.some.inj (hr'.symm.trans hedit.call)
  refine ⟨?_, ?_, ?_⟩
  · rw [hrecord]
    exact slot_setSlot_self r n _
  · rw [hact, hset]
    rfl
  · rw [hact, hset]
    exact count_counter (v.putCall _) .cuesMissed

section
variable {v : State} {r : CallRecord} {n : CueName} (hcalls : v.calls = [r]) (hused : (v.cue r n).used = true)
include hcalls hused

theorem examine_armed (harmed : (r.slot n).state = .armed) (m : Nat) : v.examine m r.id n = v.examineArmed r.id n (v.cue r n) m := by
  unfold State.examine
  rw [call_of_one hcalls]
  dsimp only
  rw [if_pos hused, harmed]

theorem examine_fired (hfired : (r.slot n).state = .fired) (m : Nat) :
    v.examine m r.id n =
      if (v.cue r n).repeatEvery.isSome && v.inside r n then v.examineFired r.id n (v.cue r n) m (r.slot n).next else v := by
  unfold State.examine
  rw [call_of_one hcalls]
  dsimp only
  rw [if_pos hused, hfired]

omit hused in
/-- An event minute that is set, or absent, is read as it stands. -/
theorem readFor_of_known (hknown : ∀ e o, (v.cue r n).trigger = .afterEvent e o → ∀ stamp, r.events[e.idx] ≠ .untimed stamp) :
    v.readFor r.id n (v.cue r n) = v := by
  unfold State.readFor
  split
  next e o _ htrigger =>
    have hread : r.readEvent e v.now v.minuteNow = r := by
      have hsame : (r.events[e.idx]).read v.now v.minuteNow = r.events[e.idx] := by
        have hnot := hknown e o htrigger
        unfold EventMinute.read
        split
        next stamp _ heq _ => exact absurd heq (hnot stamp)
        · rfl
      have hset : r.events.set e.idx (r.events[e.idx]) = r.events := Vector.set_getElem_self e.idx.isLt
      unfold CallRecord.readEvent
      rw [hsame, hset]
    have hput : v.putCall r = v := by
      have hinsert : insertCall r v.calls = v.calls := by
        rw [hcalls]
        unfold insertCall
        rw [if_neg (lt_irrefl _), if_pos rfl]
      unfold State.putCall
      rw [hinsert]
    unfold State.readEvent
    rw [call_of_one hcalls]
    dsimp only
    rw [hread, hput]
  · rfl

theorem examine_at_instant (harmed : (r.slot n).state = .armed)
    (hknown : ∀ e o, (v.cue r n).trigger = .afterEvent e o → ∀ stamp, r.events[e.idx] ≠ .untimed stamp) (m : Nat) :
    (∀ i, r.instant n (v.cue r n) = some i → v.examine m r.id n = actAt v r n m i fun x => { x with state := .missed })
      ∧ (r.instant n (v.cue r n) = none → v.examine m r.id n = v) := by
  rw [examine_armed hcalls hused harmed]
  unfold State.examineArmed
  dsimp only
  rw [readFor_of_known hcalls hknown, call_of_one hcalls, Option.bind_some]
  refine ⟨fun i hi => ?_, fun hnone => ?_⟩
  · rw [hi]
    rfl
  · rw [hnone]

end

theorem instant_beforeTime {r : CallRecord} {n : CueName} {q : Cue} (hplan : n.isPlan = true) {o : Nat} (h : q.trigger = .beforeTime o) :
    r.instant n q = some (r.base - o) := by
  unfold CallRecord.instant
  rw [if_pos hplan, h]

theorem instant_afterEvent {r : CallRecord} {n : CueName} {q : Cue} (hplan : n.isPlan = true) {e : TrainEvent} {o x : Nat}
    (h : q.trigger = .afterEvent e o) (hx : r.events[e.idx] = .minute x) : r.instant n q = some (min (x + o) 1439) := by
  unfold CallRecord.instant
  rw [if_pos hplan, h]
  dsimp only
  rw [hx]

theorem instant_none {r : CallRecord} {n : CueName} {q : Cue}
    (h : (∃ e, q.trigger = .onEvent e) ∨ ∃ e o, q.trigger = .afterEvent e o ∧ r.events[e.idx] = .absent) : r.instant n q = none := by
  unfold CallRecord.instant
  split
  · obtain ⟨e, he⟩ | ⟨e, o, he, hx⟩ := h
    · rw [he]
    · rw [he]
      dsimp only
      rw [hx]
  · rfl

/-! ### The second that the clock advances (R24) -/

/-- The clock advanced by a second. -/
def ticked (s : State) : State := (s.advanceTo (s.clock.secondStart + 1000)).tickClock

theorem exec_secondAdvance {s : State} (hawake : s.Awake) (hknown : s.clock.timeState ≠ .unset) :
    exec .secondAdvance s = .next
      (if serviceSecond s.cfg.h0 ((s.clock.clockSecond + 1) % 86400) = 0 then (ticked s).purge else ticked s).secondEvent := by
  refine (exec_awake hawake rfl).trans ?_
  unfold State.secondAdvance
  rw [if_neg hknown]
  rfl

theorem minuteNow_ticked {s : State} (hknown : s.clock.timeState ≠ .unset) :
    (ticked s).minuteNow = some (serviceMinute s.cfg.h0 ((s.clock.clockSecond + 1) % 86400)) := if_neg hknown

theorem singleton_of_ids {t : State} {r r' : CallRecord} (hids : t.calls.map CallRecord.id = [r.id]) (hcall : t.call r.id = some r') :
    t.calls = [r'] := by
  obtain ⟨x, hx⟩ : ∃ x, t.calls = [x] := by
    have hlen := congrArg List.length hids
    rw [List.length_map] at hlen
    exact List.length_eq_one_iff.mp hlen
  have hmem := mem_of_call hcall
  rw [hx] at hmem ⊢
  rw [List.mem_singleton.mp hmem]

/-- A second event on a table of one record, in which one cue may act. -/
theorem secondEvent_one {v : State} {r : CallRecord} {m : Nat} {n : CueName} (hcalls : v.calls = [r]) (hm : v.minuteNow = some m)
    (hquiet : ∀ k : CueName, k ≠ n → (r.slot k).state = .idle ∨ (r.slot k).state = .missed) :
    ∃ t r', v.secondEvent = t ∧ v.examine m r.id n = t ∧ t.calls = [r'] ∧ t.call r.id = some r' ∧ Undisturbed v t ∧ OneSlot n r r' := by
  obtain ⟨r', hedit, hone⟩ := edited_examine (call_of_one hcalls) m n
  have hids := sameIds_examine v m r.id n (by rw [hcalls]; exact List.pairwise_singleton _ _)
  rw [hcalls] at hids
  exact ⟨_, r', secondEvent_of_one hcalls hm hquiet, rfl, singleton_of_ids hids hedit.call, hedit.call, hedit.undisturbed, hone⟩

/-- Settles O32: the second event examines the one slot that may act, and what it does there is what its instant says. -/
theorem cuesExamined : Obligations.CuesExamined := by
  intro s r n q m hawake hknown hcalls hq hused hquiet hday hm
  subst hq
  have hexec := exec_secondAdvance hawake hknown
  rw [if_neg hday] at hexec
  have hminute := minuteNow_ticked hknown
  rw [← hm] at hminute
  obtain ⟨t, r', hevent, hexam, htcalls, htcall, hundisturbed, hone⟩ := secondEvent_one (v := ticked s) hcalls hminute hquiet
  have hcall : (ticked s).call r.id = some r := call_of_one hcalls
  have hclock : t.clock = (ticked s).clock := hundisturbed.clock
  have hview (l : List CallRecord) : { ticked s with calls := l } = { s with clock := t.clock, calls := l } := by
    rw [hclock]
    rfl
  have hwait (hsame : t = ticked s) : r' = r ∧ t.queue = s.queue := by
    rw [hsame, hcall] at htcall
    exact ⟨(Option.some.inj htcall).symm, by rw [hsame]; rfl⟩
  rw [hevent] at hexec
  refine ⟨t, r', hexec, htcalls, ?_, hone.frame, hone.others, fun i hplan harmed htrigger => ?_, fun harmed htrigger => ?_,
    fun hfired hno => ?_, fun hfired hrepeat hin => ?_⟩
  · refine ⟨hundisturbed.pending, hundisturbed.startup, rfl, hundisturbed.store, hundisturbed.evac, hundisturbed.occupancy,
      hundisturbed.joinTimer, hundisturbed.handedOver, hundisturbed.contacts, hundisturbed.pins, hundisturbed.sampleAt, hundisturbed.roundAt,
      hundisturbed.budget, hundisturbed.monitor, hundisturbed.testStep⟩
  · have hinstant : r.instant n (s.cue r n) = some i := by
      obtain ⟨o, ho, rfl⟩ | ⟨e, o, x, he, hx, rfl⟩ := htrigger
      · exact instant_beforeTime hplan ho
      · exact instant_afterEvent hplan he hx
    have hminutes (e : TrainEvent) (o : Nat) (he : (s.cue r n).trigger = .afterEvent e o) (stamp : Nat) : r.events[e.idx] ≠ .untimed stamp := by
      obtain ⟨o', ho', -⟩ | ⟨e', o', x, he', hx, -⟩ := htrigger
      · rw [ho'] at he
        cases he
      · rw [he'] at he
        cases he
        rw [hx]
        nofun
    have hact := (examine_at_instant (v := ticked s) hcalls hused harmed hminutes m).1 i hinstant
    rw [hexam] at hact
    refine ⟨fun hlt => ?_, fun hge hle => ?_, fun hlt => ?_⟩
    · exact hwait (actAt_waits hcall hact.symm htcall hlt).2
    · obtain ⟨hslot, hfires, hqueue⟩ := actAt_fires hcall hminute hact.symm htcall hge hle
      rw [hview] at hfires
      exact ⟨hslot, hfires, hqueue⟩
    · exact actAt_skips hcall hact.symm htcall hlt
  · refine hwait ?_
    rw [← hexam]
    refine (examine_at_instant (v := ticked s) hcalls hused harmed (fun e o he stamp => ?_) m).2 (instant_none htrigger)
    obtain ⟨e', he'⟩ | ⟨e', o', he', hx⟩ := htrigger
    · rw [show ((ticked s).cue r n).trigger = .onEvent e' from he'] at he
      cases he
    · rw [show ((ticked s).cue r n).trigger = .afterEvent e' o' from he'] at he
      cases he
      rw [hx]
      nofun
  · refine hwait ?_
    rw [← hexam, examine_fired (v := ticked s) hcalls hused hfired]
    refine if_neg fun hcond => ?_
    obtain ⟨hsome, hin⟩ := Bool.and_eq_true_iff.mp hcond
    obtain hnone | hout := hno
    · rw [show ((ticked s).cue r n).repeatEvery = none from hnone] at hsome
      cases hsome
    · exact hout (List.contains_iff_mem.mp hin)
  · have hcond : (((ticked s).cue r n).repeatEvery.isSome && (ticked s).inside r n) = true :=
      Bool.and_eq_true_iff.mpr ⟨hrepeat, List.contains_iff_mem.mpr hin⟩
    rw [examine_fired (v := ticked s) hcalls hused hfired, if_pos hcond] at hexam
    refine ⟨fun hnone => ?_, fun i hi => ?_⟩
    · rw [hnone] at hexam
      have hset : (ticked s).setSlot r.id n (fun x => { x with next := periodAfter (s.cue r n) (some m) }) = t := hexam
      have hedit := edited_setSlot hcall n fun x => { x with next := periodAfter (s.cue r n) (some m) }
      rw [hset] at hedit
      have hrecord := Option.some.inj (htcall.symm.trans hedit.call)
      refine ⟨?_, ?_⟩
      · rw [hrecord, slot_setSlot_self, periodAfter_eq]
      · rw [← hset]
        unfold State.setSlot
        rw [hcall]
        rfl
    · rw [hi] at hexam
      have hact : actAt (ticked s) r n m i (fun x => { x with next := periodAfter (s.cue r n) (some m) }) = t := hexam
      refine ⟨fun hlt => hwait (actAt_waits hcall hact htcall hlt).2, fun hge hle => ?_, fun hlt => ?_⟩
      · obtain ⟨hslot, hfires, -⟩ := actAt_fires hcall hminute hact htcall hge hle
        rw [hview] at hfires
        exact ⟨hslot, hfires⟩
      · obtain ⟨hslot, hqueue, hcount⟩ := actAt_skips hcall hact htcall hlt
        rw [periodAfter_eq] at hslot
        exact ⟨hslot, hqueue, hcount⟩

/-! ### The rollover purge (R29, R30) -/

theorem secondEvent_of_empty {s : State} (h : s.calls = []) : s.secondEvent = s := by
  unfold State.secondEvent
  split
  · rfl
  · rw [h]
    rfl

/-- The state of a purge before its walk. -/
def purging (s : State) : State :=
  (({ s with calls := [] } : State).queue.entries.filter fun e => e.key.isCue).foldl (fun t e => t.removeEntry e.key .purged) { s with calls := [] }

theorem purge_eq (s : State) : s.purge = (purging s).walk := rfl

theorem undisturbed_purging (s : State) : Undisturbed s (purging s) ∧ (purging s).calls = [] := by
  unfold purging
  exact List.foldlRecOn (motive := fun t : State => Undisturbed s t ∧ t.calls = []) _ _ ⟨undisturbed_calls s [], rfl⟩ fun t ht e _ =>
    ⟨undisturbed_trans ht.1 (undisturbed_of_keeps (keeps_removeEntry t e.key _)), (calls_removeEntry t e.key _).trans ht.2⟩

theorem purged (s : State) : Undisturbed s s.purge ∧ s.purge.calls = [] ∧ ∀ e ∈ s.purge.queue.entries, e.key.isCue = false := by
  obtain ⟨hundisturbed, hcalls⟩ := undisturbed_purging s
  have hkeeps := keeps_walk (purging s)
  have hentries := walkStep_entries.walk (purging s)
  rw [purge_eq]
  refine ⟨undisturbed_trans hundisturbed (undisturbed_of_keeps hkeeps), hkeeps.calls.trans hcalls, fun e he => ?_⟩
  obtain ⟨hin, hkeys⟩ := entries_removeAll _ _ _ (hentries.subset he)
  cases hcue : e.key.isCue with
  | false => rfl
  | true => exact absurd rfl (hkeys e (List.mem_filter.mpr ⟨hin, hcue⟩))

theorem faults_purge_of_empty {s : State} (h : s.queue.entries = []) : s.purge.faults = s.faults := by
  have hpurging : purging s = { s with calls := [] } := by
    unfold purging
    rw [show ({ s with calls := [] } : State).queue.entries = [] from h]
    rfl
  rw [purge_eq, faults_walk_of_empty (by rw [hpurging]; exact h), hpurging]

/-! ### TIME (R25 to R27, R29, R30) -/

/-- The state in which a TIME frame's clock is set and its doubt cleared. -/
def timed (s : State) (x : TimeFields) : State := (s.setClock x).clear .timeDoubtful none

theorem time_eq (s : State) (x : TimeFields) : s.time x = (if s.newDay x then (timed s x).purge else timed s x).secondEvent := rfl

theorem timed_frame (s : State) (x : TimeFields) :
    timed s x = { s with
      clock := (s.setClock x).clock, link := (timed s x).link, faults := (timed s x).faults, counters := (timed s x).counters } := by
  have hsends : Sends (s.setClock x) (timed s x) := sends_clear _ _ _
  unfold Sends at hsends
  generalize timed s x = v at hsends ⊢
  rw [hsends]
  rfl

theorem undisturbed_timed (s : State) (x : TimeFields) : Undisturbed (s.setClock x) (timed s x) := undisturbed_of_keeps (keeps_clear _ _ _)

theorem undisturbed_newDay (v : State) (p : Bool) : Undisturbed v (if p then v.purge else v) := by
  cases p
  · exact undisturbed_refl v
  · exact (purged v).1

theorem minuteNow_timed (s : State) (x : TimeFields) : (timed s x).minuteNow = some (serviceMinute s.cfg.h0 x.second) := by
  have hundisturbed := undisturbed_timed s x
  unfold State.minuteNow State.cfg
  rw [hundisturbed.clock, hundisturbed.startup]
  exact if_neg nofun

theorem newDay_iff {s : State} {x : TimeFields} : s.newDay x = true ↔ s.clock.timeState ≠ .unset ∧ x.day ≠ s.clock.serviceDay := by
  unfold State.newDay
  rw [Bool.and_eq_true, decide_eq_true_iff, decide_eq_true_iff]

theorem not_newDay {s : State} {x : TimeFields} (h : s.clock.timeState = .unset ∨ x.day = s.clock.serviceDay) : ¬s.newDay x = true := fun hnew => by
  obtain ⟨hknown, hday⟩ := newDay_iff.mp hnew
  exact h.elim hknown hday

/-- A TIME frame on empty tables clears the doubt, and nothing after it touches the fault table. -/
theorem cleared_time {s : State} {x : TimeFields} (hcalls : s.calls = []) (hentries : s.queue.entries = []) :
    (s.time x).faults.hasActive .timeDoubtful none = false ∧ s.Cleared (s.time x) .timeDoubtful none := by
  have hframe := timed_frame s x
  have hvcalls : (timed s x).calls = [] := by
    rw [hframe]
    exact hcalls
  have hventries : (timed s x).queue.entries = [] := by
    rw [hframe]
    exact hentries
  have hundisturbed := undisturbed_newDay (timed s x) (s.newDay x)
  have hfaults : (if s.newDay x then (timed s x).purge else timed s x).faults = (timed s x).faults := by
    split
    · exact faults_purge_of_empty hventries
    · rfl
  have hempty : (if s.newDay x then (timed s x).purge else timed s x).calls = [] := by
    split
    · exact (purged _).2.1
    · exact hvcalls
  rw [time_eq, secondEvent_of_empty hempty]
  generalize (if s.newDay x then (timed s x).purge else timed s x) = t at hundisturbed hfaults
  have hnow : t.now = (timed s x).now := congrArg Clock.now hundisturbed.clock
  have hstamp : t.stampNow = (timed s x).stampNow := by
    unfold State.stampNow State.minuteNow State.cfg
    rw [hundisturbed.clock, hundisturbed.startup]
  rw [hfaults]
  exact ⟨hasActive_clear_self (s.setClock x) _ _, cleared_congr (cleared_clear (s.setClock x) .timeDoubtful none) (fun _ => rfl)
    (fun _ => by rw [hfaults]; rfl) hstamp hnow⟩

/-! ### Service-time figures (R23) -/

theorem serviceFigures (h0 c : Nat) (_ : h0 ≤ 23) (hc : c < 86400) :
    (serviceSecond h0 c : Int) = ((c : Int) - h0 * 3600) % 86400 ∧ serviceMinute h0 c ≤ 1439 ∧ clockMinute h0 (serviceMinute h0 c) = c / 60 := by
  unfold clockMinute serviceMinute serviceSecond
  refine ⟨?_, ?_, ?_⟩ <;> omega

/-! ### Doubt (R28) -/

/-- The state in which the doubt timer has expired. -/
def doubted (s : State) (d : Nat) : State :=
  { s.advanceTo d with clock := { (s.advanceTo d).clock with timeState := .doubtful, doubtTimer := none } }

theorem exec_doubt {s : State} {d : Nat} (hawake : s.Awake) (hset : s.clock.timeState = .set) (hd : s.clock.doubtTimer = some d) :
    exec .doubtTimerExpiry s = .next ((doubted s d).raise .timeDoubtful none) := by
  refine (exec_awake hawake rfl).trans ?_
  unfold State.doubt
  rw [hd]
  dsimp only
  rw [if_pos hset]
  rfl

/-- A BEFORE_TIME cue, alone ARMED, at the second event of a TIME frame. -/
theorem time_examines {s : State} {x : TimeFields} {r : CallRecord} {n : CueName} {o : Nat}
    (hday : s.clock.timeState = .unset ∨ x.day = s.clock.serviceDay) (hcalls : s.calls = [r]) (hplan : n.isPlan = true)
    (hused : (s.cue r n).used = true) (htrigger : (s.cue r n).trigger = .beforeTime o) (harmed : (r.slot n).state = .armed)
    (hquiet : ∀ k : CueName, k ≠ n → (r.slot k).state = .idle ∨ (r.slot k).state = .missed) {m : Nat}
    (hm : m = serviceMinute s.cfg.h0 x.second) :
    ∃ r', (s.time x).calls = [r'] ∧ (s.time x).call r.id = some r' ∧ OneSlot n r r'
      ∧ actAt (timed s x) r n m (r.base - o) (fun y => { y with state := .missed }) = s.time x := by
  have hframe := timed_frame s x
  have hvcalls : (timed s x).calls = [r] := by
    rw [hframe]
    exact hcalls
  have hcue : (timed s x).cue r n = s.cue r n := by
    rw [cue_eq, cue_eq]
    unfold State.cfg
    rw [(undisturbed_timed s x).startup]
    rfl
  have hminute := minuteNow_timed s x
  rw [← hm] at hminute
  obtain ⟨t, r', hevent, hexam, htcalls, htcall, -, hone⟩ := secondEvent_one hvcalls hminute hquiet
  have htime : s.time x = t := by
    rw [time_eq, if_neg (not_newDay hday), hevent]
  have hact := (examine_at_instant (v := timed s x) hvcalls (by rw [hcue]; exact hused) harmed (fun e o' he stamp => by
    rw [hcue, htrigger] at he
    cases he) m).1 (r.base - o) (instant_beforeTime hplan (by rw [hcue]; exact htrigger))
  rw [htime]
  exact ⟨r', htcalls, htcall, hone, hact.symm.trans hexam⟩

/-- Settles O23: the TIME frame's clock, purge and second event in turn; the service figures; the second that passes; the doubt. -/
theorem timeFrameSetsClock : Obligations.TimeFrameSetsClock := by
  refine ⟨fun dst src payload s x hreach hread => ?_, serviceFigures, fun s hawake => ⟨fun hunset => ?_, fun hknown => ?_⟩,
    fun s d hawake hset hd => ?_⟩
  · have hexec := exec_reaches hreach hread (y := exec (.time dst src payload) s) rfl
    have hday := undisturbed_newDay (timed s.taken x) (s.taken.newDay x)
    have hbefore := undisturbed_trans (undisturbed_timed s.taken x) hday
    have hundisturbed : Undisturbed (s.taken.setClock x) (s.taken.time x) := undisturbed_trans hbefore (undisturbed_secondEvent _)
    refine ⟨_, hexec, hundisturbed.clock, fun hknown hne => ?_, fun hfit hsame => ?_, fun hcalls hentries => ?_,
      fun r n o hsame hcalls hplan hused htrigger harmed hquiet m hm i hi => ?_, ?_⟩
    · obtain ⟨-, hcalls, hcues⟩ := purged (timed s.taken x)
      rw [time_eq, if_pos (newDay_iff (s := s.taken).mpr ⟨hknown, hne⟩), secondEvent_of_empty hcalls]
      exact ⟨hcalls, hcues⟩
    · have hcalls : (timed s.taken x).calls = s.calls := by
        rw [timed_frame]
        rfl
      have hids := sameIds_secondEvent (timed s.taken x) (by rw [hcalls]; exact hfit.ordered)
      rw [hcalls] at hids
      rw [time_eq, if_neg (not_newDay (s := s.taken) hsame)]
      exact hids
    · obtain ⟨hinactive, hcleared⟩ := cleared_time (s := s.taken) (x := x) hcalls hentries
      exact ⟨hinactive, cleared_congr hcleared (fun _ => rfl) (fun _ => rfl) rfl rfl⟩
    · subst hi
      obtain ⟨r', htcalls, htcall, hone, hact⟩ := time_examines (s := s.taken) hsame hcalls hplan hused htrigger harmed hquiet hm
      have hframe := timed_frame s.taken x
      have hminute := minuteNow_timed s.taken x
      have hcount : (timed s.taken x).counters[(11 : Fin 16)] = s.counters[(11 : Fin 16)] := by
        rw [← counter_taken s (i := 11) (by decide)]
        exact (tells_pump { s.taken.setClock x with faults := _ }).counter 11 (by decide)
      have hclock := hundisturbed.clock
      rw [show serviceMinute s.taken.cfg.h0 x.second = m from hm.symm] at hminute
      generalize s.taken.time x = t at htcalls htcall hact hclock
      generalize timed s.taken x = v at hframe hminute hact hcount
      have hcall : v.call r.id = some r := by
        refine call_of_one ?_
        rw [hframe]
        exact hcalls
      have hcfg : v.cfg = s.cfg := by
        rw [hframe]
        rfl
      have hevents : r'.events = r.events := by
        by_cases hlt : m < r.base - o
        · rw [(actAt_waits hcall hact htcall hlt).1]
        · have hput {y : CueSlot} {u : State} (hu : u.call r.id = some (r.setSlot n y)) (ht : t = u) : r'.events = r.events := by
            rw [ht, hu] at htcall
            rw [← Option.some.inj htcall]
            rfl
          unfold actAt at hact
          rw [if_neg hlt] at hact
          split at hact
          · exact hput (edited_fireHere hcall n).call hact.symm
          · exact hput (edited_missed hcall n _).call hact.symm
      have honly := hone.frame
      rw [hevents] at honly
      refine ⟨r', htcalls, honly, hone.others, fun hlt => ?_, fun hge hle => ?_, fun hlt => ?_⟩
      · obtain ⟨hr, ht⟩ := actAt_waits hcall hact htcall hlt
        refine ⟨hr, ?_⟩
        rw [ht, hframe]
        rfl
      · obtain ⟨hslot, hfires, -⟩ := actAt_fires hcall hminute hact htcall hge (by rw [hcfg]; exact hle)
        rw [cue_eq, hcfg] at hslot hfires
        refine ⟨hslot, fun hplaying => ⟨{ v with calls := t.calls }, ?_, hfires ?_⟩⟩
        · rw [hclock]
          exact congrArg (fun w : State => { w with calls := t.calls }) hframe
        · rw [hframe]
          exact hplaying
      · obtain ⟨hslot, hqueue, hmissed⟩ := actAt_skips hcall hact htcall (by rw [hcfg]; exact hlt)
        rw [hcount] at hmissed
        refine ⟨hslot, ?_, hmissed⟩
        rw [hqueue, hframe]
        rfl
    · refine ⟨hundisturbed.pending, hundisturbed.startup, rfl, hundisturbed.store, hundisturbed.evac, hundisturbed.occupancy,
        hundisturbed.joinTimer, hundisturbed.handedOver, hundisturbed.contacts, hundisturbed.pins, hundisturbed.sampleAt, hundisturbed.roundAt,
        hundisturbed.budget, hundisturbed.monitor, hundisturbed.testStep⟩
  · exact (exec_awake (t := s) hawake (by
      unfold exec execSecondAdvance State.run State.secondAdvance
      rw [if_pos hunset]))
  · have hexec := exec_secondAdvance hawake hknown
    obtain ⟨u, hu⟩ : ∃ u, u = if serviceSecond s.cfg.h0 ((s.clock.clockSecond + 1) % 86400) = 0 then (ticked s).purge else ticked s := ⟨_, rfl⟩
    have hday : Undisturbed (ticked s) u := by
      rw [hu]
      split
      · exact (purged _).1
      · exact undisturbed_refl _
    have hundisturbed := undisturbed_trans hday (undisturbed_secondEvent u)
    rw [← hu] at hexec
    refine ⟨_, hexec, hundisturbed.clock, fun hzero => ?_, ?_⟩
    · rw [if_pos hzero] at hu
      obtain ⟨-, hcalls, hcues⟩ := purged (ticked s)
      rw [← hu] at hcalls hcues
      rw [secondEvent_of_empty hcalls]
      exact ⟨hcalls, hcues⟩
    · refine ⟨hundisturbed.pending, hundisturbed.startup, rfl, hundisturbed.store, hundisturbed.evac, hundisturbed.occupancy,
        hundisturbed.joinTimer, hundisturbed.handedOver, hundisturbed.contacts, hundisturbed.pins, hundisturbed.sampleAt, hundisturbed.roundAt,
        hundisturbed.budget, hundisturbed.monitor, hundisturbed.testStep⟩
  · have hexec := exec_doubt hawake hset hd
    have hsends := sends_raise (doubted s d) .timeDoubtful none
    refine ⟨_, hexec, hsends.clock, raised_congr (s' := s) (raised_raise (doubted s d) .timeDoubtful none) (fun _ => rfl) (fun _ => rfl) rfl rfl
      rfl rfl, ?_, ?_⟩
    · refine (hasActive_raise rfl none).imp_right fun h => ?_
      rw [h]
      rfl
    · unfold Sends at hsends
      generalize (doubted s d).raise .timeDoubtful none = t at hsends ⊢
      rw [hsends]
      rfl

end Sys2Proof.Proofs.SecondRules

end

section
/-! The cues of a call that leaves their windows: what withdraws an announcement, and what keeps it withdrawn (R47, R59, R65 to R67). -/

namespace Sys2Proof.Proofs.WindowRules

open Sys2Proof.Machine
open Sys2Proof.Proofs.LiveClose Sys2Proof.Proofs.Faults Sys2Proof.Proofs.Upkeep Sys2Proof.Proofs.Uphold Sys2Proof.Proofs.CallRules
open Sys2Proof.Proofs.Commands Sys2Proof.Proofs.Steps Sys2Proof.Proofs.Reports Sys2Proof.Proofs.Starting Sys2Proof.Proofs.Transmit
open Sys2Proof.Proofs.LineRules Sys2Proof.Proofs.FaultRules Sys2Proof.Proofs.QueueRules Sys2Proof.Proofs.GroupRules
open Sys2Proof.Proofs.CallFrames Sys2Proof.Proofs.NoticeRules Sys2Proof.Proofs.CallOutcomes Sys2Proof.Proofs.RecordRules
open Sys2Proof.Proofs.PostRules Sys2Proof.Proofs.SecondRules Sys2Proof.Proofs.EvacRules Sys2Proof.Proofs.LeadRules Sys2Proof.Proofs.ChannelRules
open Sys2Proof.Proofs.TestRules

/-! ### A key stopped (R65, R131) -/

/-- No entry of a key waits, and every instance of it that is before TAIL, or live, has its outcome fixed. -/
def Stilled (k : Key) (s : State) : Prop :=
  s.entryOf k = none
    ∧ ∀ (c : ChanId) (i : ChanInst), s.chan c = some i → i.key = some k →
      i.state = .claiming ∨ i.state = .leadIn ∨ i.state = .speaking → i.outcome.isSome = true

/-- From `s` to `t` no instance begins, and one that goes on as it was keeps a fixed outcome. -/
def Fades (s t : State) : Prop :=
  ∀ (c : ChanId) (j : ChanInst), t.chan c = some j →
    j.state = .tail ∨ ∃ i, s.chan c = some i ∧ i.key = j.key ∧ i.state = j.state ∧ (i.outcome.isSome = true → j.outcome.isSome = true)

theorem fades_of_chans {s t : State} (h : t.chans = s.chans) : Fades s t := fun c j hj => by
  rw [State.chan, h] at hj
  exact .inr ⟨j, hj, rfl, rfl, id⟩

theorem Fades.trans {s t u : State} (h : Fades s t) (k : Fades t u) : Fades s u := fun c j hj => by
  obtain htail | ⟨i, hi, hkey, hstate, hout⟩ := k c j hj
  · exact .inl htail
  · obtain htail | ⟨p, hp, hkey', hstate', hout'⟩ := h c i hi
    · exact .inl (hstate.symm.trans htail)
    · exact .inr ⟨p, hp, hkey'.trans hkey, hstate'.trans hstate, hout ∘ hout'⟩

theorem fades_setChan {s : State} {c : ChanId} {i q : ChanInst} (hchan : s.chan c = some i) (hkey : i.key = q.key) (hstate : i.state = q.state)
    (hout : i.outcome.isSome = true → q.outcome.isSome = true) : Fades s (s.setChan c (some q)) := fun d j hj => by
  obtain rfl | hne := eq_or_ne c d
  · rw [chan_setChan_self] at hj
    obtain rfl := Option.some.inj hj
    exact .inr ⟨i, hchan, hkey, hstate, hout⟩
  · rw [chan_setChan_of_ne s c d _ hne] at hj
    exact .inr ⟨j, hj, rfl, rfl, id⟩

theorem fades_enterTail (s : State) (c : ChanId) (o : Ending) : Fades s (s.enterTail c o) := fun d j hj => by
  obtain rfl | hne := eq_or_ne d c
  · exact .inl (state_enterTail o hj)
  · rw [(within_enterTail c s o).chan d hne] at hj
    exact .inr ⟨j, hj, rfl, rfl, id⟩

theorem fades_stopInstance (s : State) (c : ChanId) (o : Ending) : Fades s (s.stopInstance c o) := by
  unfold State.stopInstance
  split
  · exact fades_of_chans rfl
  next i hi =>
    have hset : Fades s (s.setChan c (some { i with outcome := some o, stopPending := true })) := fades_setChan hi rfl rfl fun _ => rfl
    split
    · exact fades_of_chans rfl
    · split
      · exact fades_enterTail s c o
      · exact hset
      · exact fades_enterTail s c o
      · exact hset
      · exact fades_of_chans rfl
      · exact fades_of_chans rfl

theorem fades_stopKey (s : State) (k : Key) (m : StopMark) : Fades s (s.stopKey k m) := by
  unfold State.stopKey
  split
  · exact fades_of_chans (chans_removeEntry s k _)
  · split
    · exact fades_of_chans rfl
    · split
      · exact fades_of_chans rfl
      · exact fades_stopInstance s _ _

section
variable {k : Key} {s t : State}

theorem Stilled.fades (h : Stilled k s) (hentries : t.queue.entries.Sublist s.queue.entries) (hfades : Fades s t) : Stilled k t := by
  obtain ⟨hwaiting, hplaying⟩ := h
  rw [entryOf_eq_none_iff] at hwaiting
  refine ⟨entryOf_eq_none_iff.mpr fun e he => hwaiting e (hentries.subset he), fun c j hj hkey hactive => ?_⟩
  obtain htail | ⟨i, hi, hkey', hstate, hout⟩ := hfades c j hj
  · rw [htail] at hactive
    obtain h | h | h := hactive <;> cases h
  · exact hout (hplaying c i hi (hkey'.trans hkey) (by rwa [hstate]))

theorem Stilled.of_eq (h : Stilled k s) (hqueue : t.queue = s.queue) (hchans : t.chans = s.chans) : Stilled k t :=
  h.fades (by rw [hqueue]) (fades_of_chans hchans)

theorem Stilled.withdraw (h : Stilled k s) (id : Nat) (n : CueName) : Stilled k (s.withdraw id n) :=
  h.fades (calm_withdraw s id n).entries (fades_stopKey s _ _)

theorem Stilled.putCall (h : Stilled k s) (r : CallRecord) : Stilled k (s.putCall r) := h.of_eq rfl rfl

theorem Stilled.setSlot (h : Stilled k s) (id : Nat) (n : CueName) (f : CueSlot → CueSlot) : Stilled k (s.setSlot id n f) := by
  unfold State.setSlot
  split
  · exact h
  · exact h.putCall _

end

/-- An instance that a stop reached and that goes on before TAIL has its outcome fixed (R131). -/
theorem outcome_stopInstance {s : State} {c : ChanId} {o : Ending} {j : ChanInst} (hj : (s.stopInstance c o).chan c = some j)
    (hactive : j.state = .claiming ∨ j.state = .leadIn ∨ j.state = .speaking) : j.outcome.isSome = true := by
  have htail (h : j.state = .tail) : j.outcome.isSome = true := by
    rw [h] at hactive
    obtain h | h | h := hactive <;> cases h
  have hset {q : ChanInst} (hq : q.outcome.isSome = true) (h : (s.setChan c (some q)).chan c = some j) : j.outcome.isSome = true := by
    rw [chan_setChan_self] at h
    rwa [← Option.some.inj h]
  unfold State.stopInstance at hj
  split at hj
  next hfree =>
    rw [hfree] at hj
    cases hj
  next i hi =>
    split at hj
    next hfixed =>
      rw [hi] at hj
      rwa [← Option.some.inj hj]
    next =>
      have hsame {st : ChanState} (hst : i.state = st) (hno : st ≠ .claiming ∧ st ≠ .leadIn ∧ st ≠ .speaking) (h : s.chan c = some j) :
          j.outcome.isSome = true := by
        rw [hi] at h
        rw [← Option.some.inj h, hst] at hactive
        obtain ⟨hclaiming, hlead, hspeaking⟩ := hno
        exact hactive.elim (absurd · hclaiming) fun h => h.elim (absurd · hlead) (absurd · hspeaking)
      split at hj
      · exact htail (state_enterTail o hj)
      · exact hset rfl hj
      · exact htail (state_enterTail o hj)
      · exact hset rfl hj
      next hlive => exact hsame hlive (by decide) hj
      next hended => exact hsame hended (by decide) hj

theorem key_chanOfKey {s : State} {k : Key} {c : ChanId} (h : s.chanOfKey k = some c) : ∃ i, s.chan c = some i ∧ i.key = some k :=
  Option.bind_eq_some_iff.mp (by simpa using List.find?_some h)

/-- A withdrawal reaches the entry or the instance of its key: with the keys apart there is one or the other. -/
theorem stilled_withdraw {s : State} (h : s.KeysApart) (id : Nat) (n : CueName) : Stilled (.cue id n) (s.withdraw id n) := by
  have hcalm := calm_withdraw s id n
  have hback {c : ChanId} {j : ChanInst} (hj : (s.withdraw id n).chan c = some j) (hkey : j.key = some (.cue id n)) :
      ∃ i, s.chan c = some i ∧ i.key = some (.cue id n) :=
    keyOn_eq_some_iff.mp ((hcalm.key c).symm.trans (keyOn_eq_some_iff.mpr ⟨j, hj, hkey⟩))
  cases hw : s.entryOf (.cue id n) with
  | some e =>
    have hmem : e ∈ s.queue.entries := List.mem_of_find?_eq_some hw
    have hkey : e.key = .cue id n := by simpa using List.find?_some hw
    refine ⟨entryOf_eq_none_iff.mpr fun f hf => ?_, fun c j hj hjk => ?_⟩
    · rw [State.withdraw, stopKey_of_waiting (by rw [hw]; rfl), entries_removeEntry] at hf
      exact of_decide_eq_true (List.mem_filter.mp hf).2
    · obtain ⟨i, hi, hik⟩ := hback hj hjk
      exact absurd (hik.trans (congrArg some hkey.symm)) (h.both e hmem c i hi)
  | none =>
    refine ⟨entryOf_eq_none_iff.mpr fun e he => entryOf_eq_none_iff.mp hw e (hcalm.entries.subset he), fun c j hj hjk hactive => ?_⟩
    obtain ⟨i, hi, hik⟩ := hback hj hjk
    cases hplaying : s.chanOfKey (.cue id n) with
    | none => exact absurd (keyOn_eq_some_iff.mpr ⟨i, hi, hik⟩) (chanOfKey_eq_none_iff.mp hplaying c)
    | some d =>
      obtain ⟨p, hp, hpk⟩ := key_chanOfKey hplaying
      obtain rfl : c = d := h.playing c d i p hi hp (by rw [hik]; rfl) (hik.trans hpk.symm)
      rw [State.withdraw, stopKey_of_chan hw hplaying hi] at hj
      split at hj
      next htail =>
        have hsame : i = j := Option.some.inj (hi.symm.trans hj)
        rw [← hsame, htail] at hactive
        obtain h | h | h := hactive <;> cases h
      next => exact outcome_stopInstance hj hactive

/-! ### Other keys offered and dispatched (R91, R96, R100) -/

theorem fades_cleared (s : State) (cls : Nat) (zs : ZoneSet) : Fades s (cleared s cls zs) := by
  have hpreempt : Fades s ((s.preempted cls zs).foldl (fun t d => t.enterTail d .preempted) s) :=
    List.foldlRecOn (motive := fun t => Fades s t) _ _ (fades_of_chans rfl) fun t ht d _ => ht.trans (fades_enterTail t d _)
  exact hpreempt.trans (fades_of_chans (Testing.foldl testing_abortTest _ _).chans)

section
variable {k : Key} {s : State}

theorem Stilled.launch (h : Stilled k s) {e : Entry} (hne : e.key ≠ k) (c : ChanId) (zs : ZoneSet) (words : List Nat) :
    Stilled k (s.launch e c zs words) := by
  have hentries := (entries_launch s e c zs words).trans List.filter_sublist
  obtain ⟨hwaiting, hplaying⟩ := h.fades (t := cleared s e.cls zs) (calm_cleared s e.cls zs).entries (fades_cleared s e.cls zs)
  refine ⟨entryOf_eq_none_iff.mpr fun f hf => entryOf_eq_none_iff.mp h.1 f (hentries.subset hf), fun d j hj hkey => ?_⟩
  obtain rfl | hcd := eq_or_ne c d
  · rw [chan_launch] at hj
    rw [← Option.some.inj hj] at hkey
    exact absurd (Option.some.inj hkey) hne
  · have hlast : (s.launch e c zs words).chan d = (seated s e c zs words).chan d := by
      rw [launch_eq, chan_makeClaim]
      rfl
    have hseated : (seated s e c zs words).chan d = ((cleared s e.cls zs).hold c zs).groupEnded.chan d := chan_setChan_of_ne _ c d _ hcd
    rw [hlast, hseated, State.chan, chans_groupEnded] at hj
    exact hplaying d j ((chan_hold _ c d zs).symm.trans hj) hkey

theorem Stilled.removeEntry (h : Stilled k s) (j : Key) (r : Result) : Stilled k (s.removeEntry j r) :=
  h.fades (calm_removeEntry s j r).entries (fades_of_chans (chans_removeEntry s j r))

theorem Stilled.words {t : State} {e : Entry} {l : Option (List Nat)} (h : Stilled k s) (hw : s.words e = (t, l)) : Stilled k t :=
  h.fades (calm_words hw).entries (fades_of_chans (chans_words hw))

theorem Stilled.dispatch (h : Stilled k s) {e : Entry} (hne : e.key ≠ k) (c : ChanId) (zs : ZoneSet) : Stilled k (s.dispatch e c zs) := by
  unfold State.dispatch
  split
  next hw => exact (h.words hw).removeEntry _ _
  next hw => exact (h.words hw).launch hne c zs _

theorem Stilled.pass {l : List Entry} (h : Stilled k s) (hl : ∀ e ∈ l, e.key ≠ k) : Stilled k (State.pass l s).1 := by
  induction l generalizing s with
  | nil => exact h
  | cons e rest ih =>
    obtain ⟨he, hrest⟩ := List.forall_mem_cons.mp hl
    unfold State.pass
    split
    · exact ih h hrest
    · exact ih (h.removeEntry _ _) hrest
    · exact h.dispatch he _ _

theorem Stilled.walkN (n : Nat) (h : Stilled k s) : Stilled k (State.walkN n s) := by
  induction n generalizing s with
  | zero => exact h
  | succ n ih =>
    have hpass := h.pass (entryOf_eq_none_iff.mp h.1)
    unfold State.walkN
    split
    next heq =>
      rw [heq] at hpass
      exact ih hpass
    next heq =>
      rw [heq] at hpass
      exact hpass

theorem Stilled.walk (h : Stilled k s) : Stilled k s.walk := by
  have hwalked := h.walkN (s.queue.entries.length + 1)
  unfold State.walk
  generalize State.walkN (s.queue.entries.length + 1) s = t at hwalked ⊢
  have hlast := ((waits_queue t { t.queue with walkedAt := t.now }).trans (waits_arbitrate _)).trans (waits_settleGates _)
  have hentries := entriesFrom_ends t
  dsimp only
  generalize ({ t with queue := { t.queue with walkedAt := t.now } } : State).arbitrate.settleGates = u at hlast hentries ⊢
  exact hwalked.fades hentries (fades_of_chans (by rw [hlast]))

theorem Stilled.inserted {t : State} {e : Entry} (h : Stilled k s) (hne : e.key ≠ k)
    (ht : ∀ f ∈ t.queue.entries, f.key = e.key ∨ f ∈ s.queue.entries) (hchans : t.chans = s.chans) : Stilled k t.walk := by
  obtain ⟨hwaiting, hplaying⟩ := h
  refine Stilled.walk ⟨entryOf_eq_none_iff.mpr fun f hf => ?_, fun c i hi => hplaying c i (by rwa [State.chan, hchans] at hi)⟩
  obtain hkey | hold := ht f hf
  · rwa [hkey]
  · exact entryOf_eq_none_iff.mp hwaiting f hold

theorem Stilled.insertNew (h : Stilled k s) {e : Entry} (hne : e.key ≠ k) : Stilled k (s.insertNew e).walk :=
  h.inserted hne (fun f hf => (mem_insertEntry.mp hf).imp_left fun heq => by rw [heq]) rfl

theorem Stilled.give (h : Stilled k s) (j : Key) (r : Result) : Stilled k (s.give j r) :=
  h.fades (calm_give s j r).entries (fades_of_chans (by rw [waits_give s j r]))

theorem Stilled.offerNew (h : Stilled k s) {e : Entry} (hne : e.key ≠ k) : Stilled k (s.offerNew e) := by
  unfold State.offerNew
  split
  · exact h.insertNew hne
  · split
    · split
      · exact (h.removeEntry _ _).insertNew hne
      · exact h.give _ _
    · exact h.give _ _

/-- An offer of another key leaves a stopped key stopped. -/
theorem Stilled.offerEntry (h : Stilled k s) {e : Entry} (hne : e.key ≠ k) : Stilled k (s.offerEntry e) := by
  cases hw : s.entryOf e.key with
  | some f =>
    rw [offerEntry_of_waiting hw]
    exact h.inserted (e := e) hne (fun g hg => (mem_replacing.mp hg).imp (fun heq => by rw [heq]) And.left) rfl
  | none =>
    unfold State.offerEntry
    rw [hw]
    dsimp only
    split
    · exact h.offerNew hne
    · split
      · exact Stilled.walk h
      · exact h
      · exact h

theorem Stilled.fire (h : Stilled k s) {id : Nat} {n : CueName} (hne : Key.cue id n ≠ k) (platforms : List Nat) :
    Stilled k (s.fire id n platforms) := by
  cases hr : s.call id with
  | none =>
    unfold State.fire
    rw [hr]
    exact h
  | some r =>
    rw [fire_of_call hr]
    split
    · exact h.putCall _
    · exact (h.putCall _).offerEntry hne

end


/-! ### Windows compared and events taken (R59, R65, R67) -/

section
variable {k : Key} {s : State}

theorem Stilled.compare (h : Stilled k s) (id : Nat) (n : CueName) : Stilled k (s.compare id n) := by
  unfold State.compare
  split
  · exact h
  · dsimp only
    split
    · split
      · exact h.setSlot id n _
      · exact h
    · split
      · split
        · exact h.setSlot id n _
        · exact h
      · exact h.setSlot id n _
      · exact (h.setSlot id n _).withdraw id n
      · exact (h.setSlot id n _).withdraw id n
      · exact h

theorem Stilled.compareList (h : Stilled k s) (id : Nat) (l : List CueName) : Stilled k (l.foldl (fun t n => t.compare id n) s) :=
  List.foldlRecOn (motive := fun t => Stilled k t) l _ h fun _ ht n _ => ht.compare id n

theorem Stilled.withdrawList (h : Stilled k s) (id : Nat) (l : List CueName) : Stilled k (l.foldl (fun t n => t.withdraw id n) s) :=
  List.foldlRecOn (motive := fun t => Stilled k t) l _ h fun _ ht n _ => ht.withdraw id n

theorem Stilled.withdrawMoved (h : Stilled k s) (id : Nat) : Stilled k (s.withdrawMoved id) := by
  unfold State.withdrawMoved
  split
  · exact h.withdrawList id _
  · exact h.withdrawList id _
  · exact h.withdrawList id _
  · exact h

end

theorem compare_of_spent_out {id : Nat} {s : State} {r : CallRecord} {n : CueName} (h : s.call id = some r)
    (hused : ¬(n.isPlan && !(planCue s.cfg r n).used) = true) (hspent : (r.slot n).state = .fired ∨ (r.slot n).state = .missed)
    (hout : insideOf s.cfg r n = false) : s.compare id n = (s.setSlot id n fun x => { x with next := none }).withdraw id n := by
  unfold State.compare
  rw [h]
  dsimp only
  rw [cue_eq, inside_eq, if_neg hused, hout]
  obtain hst | hst := hspent <;> rw [hst]

/-- A cue that has fired or was missed, outside its window, is withdrawn wherever it stands in the order of comparison. -/
theorem stilled_compareList {id : Nat} {n : CueName} {l : List CueName} (hmem : n ∈ l) {s : State} {r : CallRecord} (h : s.call id = some r)
    (hused : ¬(n.isPlan && !(planCue s.cfg r n).used) = true) (hspent : (r.slot n).state = .fired ∨ (r.slot n).state = .missed)
    (hout : insideOf s.cfg r n = false) (hkeys : s.KeysApart) : Stilled (.cue id n) (l.foldl (fun t m => t.compare id m) s) := by
  induction l generalizing s r with
  | nil => cases hmem
  | cons m rest ih =>
    obtain rfl | hne := eq_or_ne m n
    · have hstep : Stilled (.cue id m) (s.compare id m) := by
        rw [compare_of_spent_out h hused hspent hout]
        exact stilled_withdraw ((upholds_setSlot s id m _).keys hkeys) id m
      exact hstep.compareList id rest
    · have hrest : n ∈ rest := (List.mem_cons.mp hmem).resolve_left hne.symm
      have hedit := edited_compare h m
      have hslot := slot_setSlot_of_ne r (comparedSlot s.cfg r m) hne.symm
      refine ih hrest hedit.call ?_ (by rwa [hslot]) ?_ ((upholds_compare s id m).keys hkeys)
      · rw [hedit.cfg]
        exact hused
      · rw [hedit.cfg]
        exact hout

theorem stilled_withdrawList {id : Nat} {n : CueName} {l : List CueName} (hmem : n ∈ l) {s : State} (hkeys : s.KeysApart) :
    Stilled (.cue id n) (l.foldl (fun t m => t.withdraw id m) s) := by
  induction l generalizing s with
  | nil => cases hmem
  | cons m rest ih =>
    obtain rfl | hne := eq_or_ne m n
    · exact (stilled_withdraw hkeys id m).withdrawList id rest
    · exact ih ((List.mem_cons.mp hmem).resolve_left hne.symm) ((upholds_withdraw s id m).keys hkeys)

/-- A slot that is not ARMED does not fire on an event, and a stopped cue stays stopped. -/
theorem Stilled.eventsTaken {id : Nat} {n : CueName} {s : State} {r : CallRecord} (h : Stilled (.cue id n) s) (hr : s.call id = some r)
    (hslot : (r.slot n).state ≠ .armed) (event : Option TrainEvent) : Stilled (.cue id n) (eventsTaken id event s) := by
  cases event with
  | none => exact h
  | some e =>
    have hfold : ∃ q, (allCues.foldl (fun t m => t.onEvent id e m) s).call id = some q ∧ (q.slot n).state ≠ .armed
        ∧ Stilled (.cue id n) (allCues.foldl (fun t m => t.onEvent id e m) s) := by
      refine List.foldlRecOn (motive := fun t : State => ∃ q, t.call id = some q ∧ (q.slot n).state ≠ .armed ∧ Stilled (.cue id n) t) allCues _
        ⟨r, hr, hslot, h⟩ fun t ⟨q, hq, harmed, hstill⟩ m _ => ?_
      obtain rfl | hne := eq_or_ne m n
      · have hsame : t.onEvent id e m = t := by
          unfold State.onEvent
          rw [hq]
          exact if_neg (by simp [harmed])
        rw [hsame]
        exact ⟨q, hq, harmed, hstill⟩
      · refine ⟨_, (edited_onEvent hq e m).call, by rwa [slot_setSlot_of_ne _ _ hne.symm], ?_⟩
        unfold State.onEvent
        rw [hq]
        dsimp only
        split
        · rw [fireHere_of_call hq]
          exact hstill.fire (fun heq => hne (by injection heq)) _
        · exact hstill
    exact hfold.choose_spec.2.2


/-! ### The notice of a change of state (R59, R66, R67) -/

theorem Stilled.occasionTaken {id : Nat} {n : CueName} {s : State} {r : CallRecord} (h : Stilled (.cue id n) s) (hr : s.call id = some r)
    (hcancel : n ≠ .cancel) (halteration : n ≠ .alteration) (old : CallState) : Stilled (.cue id n) (occasionTaken id old r s) := by
  have halter (platforms : List Nat) : Stilled (.cue id n) (s.alterationOccasion id platforms) := by
    unfold State.alterationOccasion
    rw [hr]
    dsimp only
    split
    · exact h.fire (fun heq => halteration (by injection heq with _ heq; exact heq.symm)) _
    · exact h
  have hend : Stilled (.cue id n) (s.cancelOccasion id) := by
    unfold State.cancelOccasion
    rw [hr]
    dsimp only
    split
    · rw [fireHere_of_call hr]
      exact h.fire (fun heq => hcancel (by injection heq with _ heq; exact heq.symm)) _
    · exact h
  unfold NoticeRules.occasionTaken
  cases r.state with
  | cancelled => exact hend
  | moving => exact halter _
  | moved =>
    dsimp only
    split
    · exact h
    · exact halter _
  | planned | approaching | atPlatform | closing | departed | terminated | moveFailed => exact h

section
variable {id : Nat} {n : CueName} {s : State} {r : CallRecord} (h : s.call id = some r) (hkeys : s.KeysApart) (hcancel : n ≠ .cancel)
  (halteration : n ≠ .alteration)
include h hkeys hcancel halteration

/-- A spent cue outside its window is withdrawn by the notice (R65). -/
theorem stilled_noticeState (hused : ¬(n.isPlan && !(planCue s.cfg r n).used) = true)
    (hspent : (r.slot n).state = .fired ∨ (r.slot n).state = .missed) (hout : insideOf s.cfg r n = false) (old : CallState)
    (event : Option TrainEvent) : Stilled (.cue id n) (s.noticeState id old event) := by
  have hcompared := edited_compareAll h
  have hmoved := hcompared.trans (edited_withdrawMoved hcompared.call)
  have hstilled : Stilled (.cue id n) (s.compareAll id) := stilled_compareList (mem_allCues n) h hused hspent hout hkeys
  have hslot : ((comparedAll s.cfg r).slot n).state ≠ .armed := by
    rw [comparedAll, slot_editAll (slotwise_compared s.cfg), comparedSlot_spent_out hused hspent hout]
    obtain hst | hst := hspent <;> simp [hst]
  have hevents := (hstilled.withdrawMoved id).eventsTaken hmoved.call hslot event
  have hcall := (edited_eventsTaken hmoved.call event).call
  rw [noticeState_of_call hcall]
  exact hevents.occasionTaken hcall hcancel halteration old

/-- In MOVING every cue but ALTERATION and CANCEL is withdrawn, whatever its slot holds (R66). -/
theorem stilled_noticeMoving (hst : r.state = .moving) (old : CallState) : Stilled (.cue id n) (s.noticeState id old none) := by
  have hcompared := edited_compareAll h
  have hmoved := hcompared.trans (edited_withdrawMoved hcompared.call)
  have hstate : (comparedAll s.cfg r).state = .moving := by
    rw [slotsOnly_compared s.cfg r]
    exact hst
  have hstilled : Stilled (.cue id n) ((s.compareAll id).withdrawMoved id) := by
    unfold State.withdrawMoved
    rw [hcompared.call, Option.map_some, hstate]
    exact stilled_withdrawList (List.mem_filter.mpr ⟨mem_allCues n, by simp [hcancel, halteration]⟩) ((upholds_compareAll s id).keys hkeys)
  rw [noticeState_of_call (event := none) hmoved.call]
  exact hstilled.occasionTaken hmoved.call hcancel halteration old

end

section
variable {c : NodeConfig} {m : Option Nat} {e : TrainEvent} {r : CallRecord} {n : CueName}

theorem slot_evented_of_plan (h : n.isPlan = true) (old : CallState) :
    (stateNoticed c m old (some e) r).slot n = eventSlot c m e (comparedAll c r) n :=
  (slot_stateOccasion_of_plan h c m old _).trans (slot_editAll (slotwise_event c m e) (comparedAll c r) n)

theorem eventSlot_kept (h : (planCue c r n).trigger ≠ .onEvent e ∨ (r.slot n).state ≠ .armed) : eventSlot c m e r n = r.slot n := by
  refine if_neg ?_
  obtain h | h := h <;> simp [h]

theorem eventSlot_fired (hplan : n.isPlan = true) (hused : (planCue c r n).used = true) (htrigger : (planCue c r n).trigger = .onEvent e)
    (harmed : (r.slot n).state = .armed) : eventSlot c m e r n = firedSlot c m r n :=
  if_pos (by simp [hplan, hused, htrigger, harmed])

theorem insideOf_of_plan (h : n.isPlan = true) : insideOf c r n = (planCue c r n).window.contains r.state := by
  unfold insideOf Cue.windowOf
  cases n <;> first | rfl | cases h

end

theorem compared_of_used {c : NodeConfig} {r : CallRecord} {n : CueName} (hused : (planCue c r n).used = true) :
    ¬(n.isPlan && !(planCue c r n).used) = true := by simp [hused]

/-- The slot of a used plan cue compared with its window (R59). -/
theorem comparedSlot_of_plan {c : NodeConfig} {r : CallRecord} {n : CueName} (hplan : n.isPlan = true) (hused : (planCue c r n).used = true) :
    comparedSlot c r n = match (r.slot n).state with
      | .idle => if r.state ∈ (planCue c r n).window then { r.slot n with state := .armed } else r.slot n
      | .armed => if r.state ∈ (planCue c r n).window then r.slot n else { r.slot n with state := .idle }
      | .fired | .missed => if r.state ∈ (planCue c r n).window then r.slot n else { r.slot n with next := none } := by
  have hcompare := compared_of_used (n := n) hused
  have hinside := insideOf_of_plan (c := c) (r := r) hplan
  have hspent (hst : (r.slot n).state = .fired ∨ (r.slot n).state = .missed) :
      comparedSlot c r n = if r.state ∈ (planCue c r n).window then r.slot n else { r.slot n with next := none } := by
    split
    next hin => exact comparedSlot_spent_in hcompare hst (by rw [hinside, List.contains_iff_mem]; exact hin)
    next hout => exact comparedSlot_spent_out hcompare hst (by rw [hinside, ← Bool.not_eq_true, List.contains_iff_mem]; exact hout)
  cases hst : (r.slot n).state with
  | idle =>
    rw [comparedSlot_idle hcompare hst, hinside, hplan]
    simp only [List.contains_iff_mem, Bool.and_true]
  | armed =>
    rw [comparedSlot_armed hcompare hst, hinside]
    simp only [List.contains_iff_mem]
  | fired => exact hspent (.inl hst)
  | missed => exact hspent (.inr hst)


/-! ### A train event and its cues (R59, R65, R67) -/

/-- The slot of a used plan cue after a train event to a live state, by what it held (R59, R67). -/
theorem slot_after_event {c : NodeConfig} {m : Option Nat} {e : TrainEvent} {r : CallRecord} {n : CueName} (hplan : n.isPlan = true)
    (hused : (planCue c r n).used = true) (old : CallState) {x : CueSlot} (hx : x = (stateNoticed c m old (some e) r).slot n) :
    ((r.slot n).state = .idle → r.state ∈ (planCue c r n).window → (planCue c r n).trigger ≠ .onEvent e →
        x = { r.slot n with state := .armed })
      ∧ ((r.slot n).state = .idle ∨ (r.slot n).state = .armed → r.state ∈ (planCue c r n).window → (planCue c r n).trigger = .onEvent e →
        x.state = .fired ∧ x.firedBase = some r.base)
      ∧ ((r.slot n).state = .idle → r.state ∉ (planCue c r n).window → x = r.slot n)
      ∧ ((r.slot n).state = .armed → r.state ∉ (planCue c r n).window → x = { r.slot n with state := .idle })
      ∧ ((r.slot n).state = .fired ∨ (r.slot n).state = .missed → r.state ∈ (planCue c r n).window → x = r.slot n)
      ∧ ((r.slot n).state = .fired ∨ (r.slot n).state = .missed → r.state ∉ (planCue c r n).window → x = { r.slot n with next := none }) := by
  have hframe : SlotsAndDelay r (comparedAll c r) := (slotsOnly_compared c r).withDelay
  have hslot : (comparedAll c r).slot n = comparedSlot c r n := slot_editAll (slotwise_compared c) r n
  have hcue := hframe.planCue c n
  have hbase := hframe.base
  rw [slot_evented_of_plan hplan old] at hx
  generalize comparedAll c r = q at hslot hcue hbase hx
  rw [comparedSlot_of_plan hplan hused] at hslot
  have hkept {y : CueSlot} (hy : q.slot n = y) (hno : (planCue c r n).trigger ≠ .onEvent e ∨ y.state ≠ .armed) : x = y := by
    rw [hx, eventSlot_kept (by rwa [hcue, hy]), hy]
  refine ⟨fun hst hin hno => ?_, fun hst hin htrigger => ?_, fun hst hout => ?_, fun hst hout => ?_, fun hst hin => ?_, fun hst hout => ?_⟩
  · simp only [hst, hin, if_true] at hslot
    exact hkept hslot (.inl hno)
  · have harmed : (q.slot n).state = .armed := by
      obtain hst | hst := hst <;> simp only [hst, hin, if_true] at hslot <;> simp [hslot, hst]
    rw [hx, eventSlot_fired hplan (by rwa [hcue]) (by rwa [hcue]) harmed]
    exact ⟨rfl, congrArg some hbase⟩
  · simp only [hst, hout, if_false] at hslot
    exact hkept hslot (.inr (by simp [hst]))
  · simp only [hst, hout, if_false] at hslot
    exact hkept hslot (.inr (by simp))
  · obtain hst | hst := hst <;> simp only [hst, hin, if_true] at hslot <;> exact hkept hslot (.inr (by simp [hst]))
  · have hnext : q.slot n = { r.slot n with next := none } := by
      obtain hst | hst := hst <;> simp [hslot, hst, hout]
    exact hkept hnext (.inr (by obtain hst | hst := hst <;> simp [hst]))

theorem trainEvent_of_live {s : State} {x : EventFields} {r : CallRecord} {st : CallState} (hr : s.call x.id = some r)
    (hrunning : r.state.running = true) (htarget : eventTarget r.kind x.event = some st) (hearlier : r.state.earlier st = true)
    (hlive : st.isLive = true) : s.trainEvent x = (s.putCall (eventRecord s x r st)).noticeState x.id r.state (some x.event) := by
  unfold State.trainEvent eventRecord
  simp only [hr, hrunning, htarget, hearlier, hlive, if_true]

theorem keysApart_of_eq {s t : State} (h : s.KeysApart) (hqueue : t.queue = s.queue) (hchans : t.chans = s.chans) : t.KeysApart :=
  keysApart_of_sublist (s := s) (by rw [hqueue]) (fun c => by rw [keyOn, State.chan, hchans]; rfl) h

theorem keysApart_taken {s : State} (h : s.KeysApart) : s.taken.KeysApart := keysApart_of_eq h rfl rfl

theorem keysApart_putCall {s : State} (h : s.KeysApart) (r : CallRecord) : (s.putCall r).KeysApart := keysApart_of_eq h rfl rfl

/-- The slots and the withdrawal of a train event to a live state. -/
theorem cuesFollowWindows_event {dst src : Byte} {payload : List Byte} {s : State} {x : EventFields} {r : CallRecord} {st : CallState}
    {n : CueName} (hreach : s.Reaches .trainEvent dst src) (hread : readEvent payload = some x) (hr : s.call x.id = some r)
    (hrunning : r.state.running = true) (htarget : eventTarget r.kind x.event = some st) (hearlier : r.state.earlier st = true)
    (hlive : st.isLive = true) (hplan : n.isPlan = true) (hused : (s.cue r n).used = true) (hkeys : s.KeysApart) :
    ∃ t r', exec (.trainEvent dst src payload) s = .next t ∧ t.call x.id = some r'
      ∧ (r'.state = st ∧ r'.slot n = (stateNoticed s.cfg s.minuteNow r.state (some x.event) (eventRecord s.taken x r st)).slot n)
      ∧ ((r.slot n).state = .fired ∨ (r.slot n).state = .missed → st ∉ (s.cue r n).window → Stilled (.cue x.id n) t) := by
  have hexec := exec_reaches hreach hread (y := exec (.trainEvent dst src payload) s) rfl
  have hid : r.id = x.id := id_of_call hr
  have hedit := edited_trainEvent (s := s.taken) hr hrunning htarget hearlier
  have hact := trainEvent_of_live (s := s.taken) hr hrunning htarget hearlier hlive
  have hframe := slotsOnly_stateNoticed s.taken.cfg s.taken.minuteNow r.state (some x.event) (eventRecord s.taken x r st)
  obtain ⟨q, hq⟩ : ∃ q, q = eventRecord s.taken x r st := ⟨_, rfl⟩
  have hrecord : q = { r with events := r.events.set x.event.idx s.taken.eventMinute, state := st } := hq.trans (if_pos hlive)
  have hqid : q.id = x.id := by rw [hrecord]; exact hid
  rw [← hq] at hedit hact hframe
  rw [hact] at hedit hexec
  refine ⟨_, _, hexec, hedit.call, ⟨?_, by rw [← hq]; rfl⟩, fun hspent hout => ?_⟩
  · rw [hframe, hrecord]
  · obtain ⟨-, hcancel, halteration⟩ := ne_of_isPlan hplan
    have hused' : (planCue s.taken.cfg q n).used = true := by rw [hrecord]; exact hused
    refine stilled_noticeState (call_putCall hqid) (keysApart_putCall (keysApart_taken hkeys) q) hcancel halteration (compared_of_used hused')
      (by rw [hrecord]; exact hspent) ?_ r.state (some x.event)
    rw [insideOf_of_plan hplan, ← Bool.not_eq_true, List.contains_iff_mem, hrecord]
    exact hout

/-- A record in MOVING as its hand-over begins (R47). -/
def leaving (s : State) (r : CallRecord) (target : Nat) : CallRecord :=
  movingRecord r { prior := r.state, target := target, deadline := s.now + 10000 }

/-- The state in which a hand-over has begun and its CALL_HANDOVER has been offered, before its notice (R47). -/
def handedOff (s : State) (r : CallRecord) (target : Nat) : State := (s.putCall (leaving s r target)).sendHandover (leaving s r target) target r.state

theorem beginHandover_eq (s : State) (r : CallRecord) (target : Nat) :
    s.beginHandover r target = (handedOff s r target).noticeState r.id r.state none := rfl

theorem stilled_beginHandover {id : Nat} {s : State} {r : CallRecord} {n : CueName} (hr : s.call id = some r) (hkeys : s.KeysApart)
    (target : Nat) (hcancel : n ≠ .cancel) (halteration : n ≠ .alteration) : Stilled (.cue id n) (s.beginHandover r target) := by
  obtain rfl : r.id = id := id_of_call hr
  have hput := offered_putHandover (s := s) (id := r.id) (r := leaving s r target) rfl target r.state
  have hsend : (handedOff s r target).KeysApart := (upholds_offer _ _ rfl).keys (keysApart_putCall (keysApart_putCall hkeys _) _)
  rw [beginHandover_eq]
  exact stilled_noticeMoving hput.call hsend hcancel halteration rfl r.state

/-- A move to another node: the slots and the withdrawal. -/
theorem cuesFollowWindows_move {dst src : Byte} {payload : List Byte} {s : State} {x : CallPlatform} {r : CallRecord} {n : CueName}
    (hreach : s.Reaches .callMove dst src) (hread : readCallPlatform payload = some x) (hr : s.call x.id = some r)
    (hrunning : r.state.running = true) (hne : x.platform ≠ r.platform) (hother : s.cfg.ownPlatform x.platform = false) (hkeys : s.KeysApart)
    (halteration : n ≠ .alteration) (hcancel : n ≠ .cancel) :
    ∃ t r' q, exec (.callMove dst src payload) s = .next t ∧ t.call x.id = some r' ∧ Stilled (.cue x.id n) t
      ∧ q = { r with state := .moving, moving := q.moving, events := q.events } ∧ r' = stateNoticed s.cfg s.minuteNow r.state none q := by
  have hexec := exec_reaches hreach hread (y := exec (.callMove dst src payload) s) rfl
  rw [callMove_of_running (s := s.taken) hr hrunning, if_neg hne,
    if_neg (by rw [show s.taken.cfg.ownPlatform x.platform = false from hother]; exact Bool.false_ne_true)] at hexec
  have hsent := offered_beginHandover (s := s.taken) hr x.platform
  refine ⟨_, _, _, hexec, hsent.call, ?_, ?_, rfl⟩
  · exact stilled_beginHandover (s := s.taken) hr (keysApart_taken hkeys) x.platform hcancel halteration
  · rfl


/-- Settles O33: the slots by the comparison and the event of the notice, the withdrawals by the keys apart; what fires after them has other
keys. -/
theorem cuesFollowWindows : Obligations.CuesFollowWindows := by
  refine ⟨fun dst src payload s x r st n q hreach hread hr hrunning htarget hearlier hlive hplan hq hused hkeys => ?_,
    fun dst src payload s x r n hreach hread hr hrunning hne hother hkeys halteration hcancel => ?_⟩
  · rw [hq] at hused
    obtain ⟨t, r', hexec, hcall, ⟨hstate, hslot⟩, hstilled⟩ :=
      cuesFollowWindows_event hreach hread hr hrunning htarget hearlier hlive hplan hused hkeys
    obtain ⟨b, hb⟩ : ∃ b, b = eventRecord s.taken x r st := ⟨_, rfl⟩
    have hrecord : b = { r with events := r.events.set x.event.idx s.taken.eventMinute, state := st } := hb.trans (if_pos hlive)
    have hst : b.state = st := by rw [hrecord]
    have hsame : b.slot n = r.slot n := by rw [hrecord]; rfl
    have hbase : b.base = r.base := by rw [hrecord]; rfl
    have hcue : planCue s.cfg b n = q := by rw [hrecord, hq]; rfl
    rw [← hb] at hslot
    obtain ⟨harm, hfire, hidle, hdisarm, hspent, hleave⟩ := slot_after_event (c := s.cfg) hplan (by rw [hcue, hq]; exact hused) r.state hslot
    rw [hcue, hst, hsame] at harm hfire hidle hdisarm hspent hleave
    rw [hbase] at hfire
    refine ⟨t, r', hexec, hcall, hstate, harm, hfire, hidle, hdisarm, hspent, fun hs hout => ?_⟩
    obtain ⟨hwaiting, hplaying⟩ := hstilled hs (by rwa [← hq])
    exact ⟨hleave hs hout, hwaiting, hplaying⟩
  · obtain ⟨t, r', b, hexec, hcall, ⟨hwaiting, hplaying⟩, hrecord, hr'⟩ :=
      cuesFollowWindows_move hreach hread hr hrunning hne hother hkeys halteration hcancel
    refine ⟨t, r', hexec, hcall, hwaiting, hplaying, fun hplan ⟨hused, hout⟩ => ?_⟩
    have hslot : r'.slot n = comparedSlot s.cfg b n := by rw [hr', slot_stateNoticed_of_plan hplan]
    have hst : b.state = .moving := by rw [hrecord]
    have hsame : b.slot n = r.slot n := by rw [hrecord]; rfl
    have hcue : planCue s.cfg b n = s.cue r n := by rw [hrecord]; rfl
    rw [comparedSlot_of_plan hplan (by rw [hcue]; exact hused), hcue, hst, hsame] at hslot
    cases hs : (r.slot n).state <;> simp [hslot, hs, hout]

end Sys2Proof.Proofs.WindowRules

end

section
/-! The occasions of the special cues and re-arming: what is withdrawn before a firing, and what fires (R68 to R72). -/

namespace Sys2Proof.Proofs.OccasionRules

open Sys2Proof.Machine
open Sys2Proof.Proofs.LiveClose Sys2Proof.Proofs.Faults Sys2Proof.Proofs.Upkeep Sys2Proof.Proofs.Uphold Sys2Proof.Proofs.CallRules
open Sys2Proof.Proofs.Commands Sys2Proof.Proofs.Steps Sys2Proof.Proofs.Reports Sys2Proof.Proofs.Starting Sys2Proof.Proofs.Transmit
open Sys2Proof.Proofs.LineRules Sys2Proof.Proofs.FaultRules Sys2Proof.Proofs.QueueRules Sys2Proof.Proofs.GroupRules
open Sys2Proof.Proofs.CallFrames Sys2Proof.Proofs.NoticeRules Sys2Proof.Proofs.CallOutcomes Sys2Proof.Proofs.RecordRules
open Sys2Proof.Proofs.PostRules Sys2Proof.Proofs.SecondRules Sys2Proof.Proofs.EvacRules Sys2Proof.Proofs.LeadRules Sys2Proof.Proofs.ChannelRules
open Sys2Proof.Proofs.TestRules Sys2Proof.Proofs.WindowRules

/-! ### Withdrawals before a firing (R59, R65, R66) -/

/-- From `s` to `t` only entries of the call's cues but `n` left the queue, and only instances of such cues were told to stop. -/
structure Withdraws (id : Nat) (n : CueName) (s t : State) : Prop where
  zones : t.zones = s.zones
  levels : t.levels = s.levels
  sup : t.sup = s.sup
  tag : t.queue.tagCounter = s.queue.tagCounter
  number : t.queue.seqCounter = s.queue.seqCounter
  dropped : ∀ e ∈ s.queue.entries, e ∈ t.queue.entries ∨ ∃ k, k ≠ n ∧ e.key = .cue id k
  kept : ∀ e ∈ t.queue.entries, e ∈ s.queue.entries
  keys : ∀ c, keyOn t c = keyOn s c
  playing : ∀ (c : ChanId) (i : ChanInst), s.chan c = some i → (∀ k, k ≠ n → i.key ≠ some (.cue id k)) →
    t.chan c = some i ∧ t.claimOf c = s.claimOf c ∧ t.cont c = s.cont c

namespace Withdraws

variable {id : Nat} {n : CueName} {s t u : State}

theorem of_eq (hzones : t.zones = s.zones) (hlevels : t.levels = s.levels) (hsup : t.sup = s.sup) (hqueue : t.queue = s.queue)
    (hchans : t.chans = s.chans) (hclaims : t.claims = s.claims) : Withdraws id n s t where
  zones := hzones
  levels := hlevels
  sup := hsup
  tag := by rw [hqueue]
  number := by rw [hqueue]
  dropped e he := .inl (by rwa [hqueue])
  kept e he := by rwa [hqueue] at he
  keys c := by
    rw [keyOn, State.chan, hchans]
    rfl
  playing c i hi _ := ⟨by rwa [State.chan, hchans], by rw [State.claimOf, hclaims]; rfl, by rw [State.cont, hqueue]; rfl⟩

theorem refl (s : State) : Withdraws id n s s := of_eq rfl rfl rfl rfl rfl rfl

theorem of_sends (h : Sends s t) : Withdraws id n s t := of_eq h.zones h.levels h.sup h.queue h.chans h.claims

theorem trans (h : Withdraws id n s t) (k : Withdraws id n t u) : Withdraws id n s u where
  zones := k.zones.trans h.zones
  levels := k.levels.trans h.levels
  sup := k.sup.trans h.sup
  tag := k.tag.trans h.tag
  number := k.number.trans h.number
  dropped e he := (h.dropped e he).elim (k.dropped e) .inr
  kept e he := h.kept e (k.kept e he)
  keys c := (k.keys c).trans (h.keys c)
  playing c i hi hkey := by
    obtain ⟨hi', hclaim, hcont⟩ := h.playing c i hi hkey
    obtain ⟨hi'', hclaim', hcont'⟩ := k.playing c i hi' hkey
    exact ⟨hi'', hclaim'.trans hclaim, hcont'.trans hcont⟩

end Withdraws

section
variable {id : Nat} {n m : CueName} (s : State) (hne : m ≠ n)
include hne

theorem withdraws_removeEntry (r : Result) : Withdraws id n s (s.removeEntry (.cue id m) r) := by
  have hdrop : Withdraws id n s (s.dropEntry (.cue id m)) :=
    { Withdraws.refl s with
      dropped := fun e he => by
        by_cases hkey : e.key = .cue id m
        · exact .inr ⟨m, hne, hkey⟩
        · exact .inl (mem_dropEntry.mpr ⟨he, hkey⟩)
      kept := fun e he => (mem_dropEntry.mp he).1 }
  exact hdrop.trans ((Withdraws.of_sends (sends_count _ _)).trans (Withdraws.of_sends (tells_give _ _ r).sends))

/-- What changes on the channel of a cue's instance alone. -/
theorem withdraws_at {c : ChanId} {i : ChanInst} {t : State} (hi : s.chan c = some i) (hkey : i.key = some (.cue id m)) (hzones : t.zones = s.zones)
    (hlevels : t.levels = s.levels) (hsup : t.sup = s.sup) (hentries : t.queue.entries = s.queue.entries)
    (htag : t.queue.tagCounter = s.queue.tagCounter) (hnumber : t.queue.seqCounter = s.queue.seqCounter) (hkeys : ∀ c, keyOn t c = keyOn s c)
    (hother : ∀ d, d ≠ c → t.chan d = s.chan d ∧ t.claimOf d = s.claimOf d ∧ t.cont d = s.cont d) : Withdraws id n s t where
  zones := hzones
  levels := hlevels
  sup := hsup
  tag := htag
  number := hnumber
  dropped e he := .inl (by rwa [hentries])
  kept e he := by rwa [hentries] at he
  keys := hkeys
  playing d j hj hno := by
    have hdc : d ≠ c := by
      rintro rfl
      obtain rfl := Option.some.inj (hi.symm.trans hj)
      exact hno m hne hkey
    obtain ⟨hchan, hclaim, hcont⟩ := hother d hdc
    exact ⟨hchan.trans hj, hclaim, hcont⟩

theorem withdraws_withdraw : Withdraws id n s (s.withdraw id m) := by
  have hkeys (c : ChanId) : keyOn (s.withdraw id m) c = keyOn s c := (calm_withdraw s id m).key c
  unfold State.withdraw at hkeys ⊢
  cases hw : s.entryOf (.cue id m) with
  | some e =>
    rw [stopKey_of_waiting (by rw [hw]; rfl)]
    exact withdraws_removeEntry s hne _
  | none =>
    cases hplaying : s.chanOfKey (.cue id m) with
    | none =>
      rw [stopKey_of_unknown hw hplaying]
      exact Withdraws.refl s
    | some c =>
      obtain ⟨i, hi, hik⟩ := key_chanOfKey hplaying
      rw [stopKey_of_chan hw hplaying hi] at hkeys ⊢
      split at hkeys
      next htail =>
        rw [if_pos htail]
        exact withdraws_at s hne hi hik rfl rfl rfl rfl rfl rfl hkeys fun d hd => ⟨rfl, rfl, cont_setCont_of_ne _ hd⟩
      next htail =>
        rw [if_neg htail]
        have hset {q : ChanInst} (h : ∀ d, keyOn (s.setChan c (some q)) d = keyOn s d) : Withdraws id n s (s.setChan c (some q)) :=
          withdraws_at s hne hi hik rfl rfl rfl rfl rfl rfl h fun d hd => ⟨chan_setChan_of_ne s c d _ hd.symm, rfl, rfl⟩
        have hended (o : Ending) (h : ∀ d, keyOn (s.enterTail c o) d = keyOn s d) : Withdraws id n s (s.enterTail c o) := by
          have hframe := (offersOnly_enterTail o hi htail).frame
          have hqueue := queue_enterTail o hi htail
          refine withdraws_at s hne hi hik (zones_enterTail o hi htail) (levels_enterTail o hi htail) ?_ (by rw [hqueue]) (by rw [hqueue])
            (by rw [hqueue]) h fun d hd => ⟨chan_enterTail_of_ne o hi htail hd, claimOf_enterTail_of_ne o hi htail hd, cont_enterTail o hi htail d⟩
          rw [hframe]
          rfl
        unfold State.stopInstance at hkeys ⊢
        rw [hi] at hkeys ⊢
        dsimp only at hkeys ⊢
        split at hkeys
        next hfixed =>
          rw [if_pos hfixed]
          exact Withdraws.refl s
        next hfixed =>
          rw [if_neg hfixed]
          split at hkeys
          · exact hended _ hkeys
          · exact hset hkeys
          · exact hended _ hkeys
          · exact hset hkeys
          · exact Withdraws.refl s
          · exact Withdraws.refl s

end

theorem withdraws_calls {id : Nat} {n : CueName} (s : State) (l : List CallRecord) : Withdraws id n s { s with calls := l } :=
  Withdraws.of_eq rfl rfl rfl rfl rfl rfl

theorem withdraws_putCall {id : Nat} {n : CueName} (s : State) (r : CallRecord) : Withdraws id n s (s.putCall r) := withdraws_calls s _

theorem withdraws_setSlot {id : Nat} {n : CueName} (s : State) (j : Nat) (k : CueName) (f : CueSlot → CueSlot) :
    Withdraws id n s (s.setSlot j k f) := by
  unfold State.setSlot
  split
  · exact Withdraws.refl s
  · exact withdraws_putCall s _


/-- A comparison withdraws no announcement of a cue whose window holds the record's state. -/
theorem withdraws_compare {id : Nat} {n m : CueName} {s : State} {r : CallRecord} (h : s.call id = some r) (hin : insideOf s.cfg r n = true) :
    Withdraws id n s (s.compare id m) := by
  have hleave (hout : insideOf s.cfg r m = false) :
      Withdraws id n s ((s.setSlot id m fun x => { x with next := none }).withdraw id m) := by
    have hne : m ≠ n := by
      rintro rfl
      rw [hin] at hout
      cases hout
    exact (withdraws_setSlot s id m _).trans (withdraws_withdraw _ hne)
  unfold State.compare
  rw [h]
  dsimp only
  rw [cue_eq, inside_eq]
  split
  · split
    · exact withdraws_setSlot s id m _
    · exact Withdraws.refl s
  · split
    · split
      · exact withdraws_setSlot s id m _
      · exact Withdraws.refl s
    · exact withdraws_setSlot s id m _
    next _ hout => exact hleave hout
    next _ hout => exact hleave hout
    · exact Withdraws.refl s

theorem withdraws_compareAll {id : Nat} {n : CueName} {s : State} {r : CallRecord} (h : s.call id = some r) (hin : insideOf s.cfg r n = true) :
    Withdraws id n s (s.compareAll id) := by
  have hfold : ∃ q, (s.compareAll id).call id = some q ∧ insideOf (s.compareAll id).cfg q n = true ∧ Withdraws id n s (s.compareAll id) := by
    refine List.foldlRecOn (motive := fun t : State => ∃ q, t.call id = some q ∧ insideOf t.cfg q n = true ∧ Withdraws id n s t) allCues _
      ⟨r, h, hin, Withdraws.refl s⟩ fun t ⟨q, hq, hqin, hw⟩ m _ => ?_
    have hedit := edited_compare hq m
    exact ⟨_, hedit.call, by rw [hedit.cfg]; exact hqin, hw.trans (withdraws_compare hq hqin)⟩
  exact hfold.choose_spec.2.2

theorem withdraws_withdrawMoved {id : Nat} {n : CueName} (hn : n = .cancel ∨ n = .alteration) (s : State) :
    Withdraws id n s (s.withdrawMoved id) := by
  have hfold : Withdraws id n s
      ((allCues.filter fun n => decide (n ≠ .alteration) && decide (n ≠ .cancel)).foldl (fun s n => s.withdraw id n) s) := by
    refine List.foldlRecOn (motive := fun t => Withdraws id n s t) _ _ (Withdraws.refl s) fun t ht m hm => ht.trans (withdraws_withdraw t ?_)
    obtain ⟨halteration, hcancel⟩ : m ≠ .alteration ∧ m ≠ .cancel := by simpa using (List.mem_filter.mp hm).2
    obtain rfl | rfl := hn
    · exact hcancel
    · exact halteration
  unfold State.withdrawMoved
  split
  · exact hfold
  · exact hfold
  · exact hfold
  · exact Withdraws.refl s

theorem withdraws_sendHandover {id : Nat} {n : CueName} (s : State) (r : CallRecord) (target : Nat) (st : CallState) :
    Withdraws id n s (s.sendHandover r target st) :=
  (withdraws_putCall s _).trans (Withdraws.of_sends (tells_offer _ _).sends)

/-! ### A call ready for a firing (R62) -/

/-- From `s` to `t` the record of a call became `r`, and no announcement was withdrawn but those of its cues other than `n`. -/
structure Readied (id : Nat) (n : CueName) (s t : State) (r : CallRecord) : Prop where
  undisturbed : Undisturbed s t
  others : OtherCallsKept id s t
  call : t.call id = some r
  withdraws : Withdraws id n s t

theorem readied_of_edited {id : Nat} {n : CueName} {s t : State} {r : CallRecord} (h : Edited id s t r) (hw : Withdraws id n s t) :
    Readied id n s t r := ⟨h.undisturbed, h.others, h.call, hw⟩

theorem readied_of_offered {id : Nat} {n : CueName} {s t : State} {r : CallRecord} {k : FrameKind} {payload : List Byte}
    (h : Offered id s t r k payload) (hw : Withdraws id n s t) : Readied id n s t r := ⟨h.undisturbed, h.others, h.call, hw⟩

namespace Readied

variable {id : Nat} {n : CueName} {s t u : State} {r r' : CallRecord}

theorem trans (h : Readied id n s t r) (k : Readied id n t u r') : Readied id n s u r' where
  undisturbed := undisturbed_trans h.undisturbed k.undisturbed
  others j hj := (k.others j hj).trans (h.others j hj)
  call := k.call
  withdraws := h.withdraws.trans k.withdraws

theorem cfg (h : Readied id n s t r) : t.cfg = s.cfg := by
  unfold State.cfg
  rw [h.undisturbed.startup]

theorem minuteNow (h : Readied id n s t r) : t.minuteNow = s.minuteNow := by
  unfold State.minuteNow
  rw [h.cfg, h.undisturbed.clock]

theorem putCall (h : Readied id n s t r) (hid : r'.id = id) : Readied id n s (t.putCall r') r' :=
  h.trans (readied_of_edited (edited_putCall hid) (withdraws_putCall t r'))

theorem chanOfKey (h : Readied id n s t r) {k : Key} (hk : s.chanOfKey k = none) : t.chanOfKey k = none :=
  chanOfKey_eq_none_iff.mpr fun c => by
    rw [h.withdraws.keys]
    exact chanOfKey_eq_none_iff.mp hk c

/-- The state before a firing, seen from a state with the same record but for its slots. -/
theorem withdrawn (h : Readied id n s u r) (ht : t.call id = some r') (hslots : SlotsOnly r r') : Withdrawn s u t id n where
  frame := h.undisturbed
  others := h.others
  record := ⟨r, r', h.call, ht, by rw [hslots]⟩
  zones := h.withdraws.zones
  levels := h.withdraws.levels
  sup := h.withdraws.sup
  tag := h.withdraws.tag
  number := h.withdraws.number
  dropped := h.withdraws.dropped
  kept := h.withdraws.kept
  free c hc := by
    have hkey := h.withdraws.keys c
    unfold keyOn at hkey
    rwa [hc, Option.map_none, Option.map_eq_none_iff] at hkey
  playing := h.withdraws.playing

/-- A firing from such a state, by the record it leaves and, where the cue is on no channel, its entry. -/
theorem fires (h : Readied id n s t r) (platforms : List Nat) :
    (t.fire id n platforms).call id = some (r.setSlot n (firedSlot s.cfg s.minuteNow r n))
      ∧ (s.chanOfKey (.cue id n) = none → ∃ u, Readied id n s u (r.setSlot n (firedSlot s.cfg s.minuteNow r n))
        ∧ u.queue = t.queue ∧ u.chans = t.chans ∧ (t.fire id n platforms).Fires u s.cfg id n (planCue s.cfg r n) platforms) := by
  have hid : (firedRecord t r n).id = id := id_of_call (s := t) (r := r) h.call
  have hrecord : firedRecord t r n = r.setSlot n (firedSlot s.cfg s.minuteNow r n) := by rw [firedRecord, h.cfg, h.minuteNow]
  have hedit := edited_fire h.call n platforms
  have hfires (hnone : s.chanOfKey (.cue id n) = none) := fires_fire h.call (h.chanOfKey hnone) platforms
  rw [cue_eq, h.cfg] at hfires
  rw [h.cfg, h.minuteNow] at hedit
  exact ⟨hedit.call, fun hnone => ⟨t.putCall (firedRecord t r n), by rw [← hrecord]; exact h.putCall hid, rfl, rfl, hfires hnone⟩⟩

/-- A record put in such a state and the comparison that its notice makes. -/
theorem compared (h : Readied id n s t r) (hn : n = .cancel ∨ n = .alteration) (hin : insideOf s.cfg r n = true) :
    ∃ u, Readied id n s u (comparedAll s.cfg r) ∧ ∀ old, t.noticeState id old none = occasionTaken id old (comparedAll s.cfg r) u := by
  have hin' : insideOf t.cfg r n = true := by rwa [h.cfg]
  have hcompared := edited_compareAll h.call
  have hmoved := hcompared.trans (edited_withdrawMoved hcompared.call)
  have hready := h.trans (readied_of_edited hmoved ((withdraws_compareAll h.call hin').trans (withdraws_withdrawMoved hn _)))
  rw [h.cfg] at hmoved hready
  exact ⟨_, hready, fun old => noticeState_of_call (event := none) hmoved.call old⟩

end Readied


/-! ### CANCEL and ALTERATION (R71, R72) -/

/-- A special cue whose window holds the state is left as it was by a comparison. -/
theorem comparedSlot_of_special {c : NodeConfig} {r : CallRecord} {n : CueName} (hspecial : n.isPlan = false) (hin : insideOf c r n = true) :
    comparedSlot c r n = r.slot n := by
  have hused : ¬(n.isPlan && !(planCue c r n).used) = true := by simp [hspecial]
  cases hst : (r.slot n).state with
  | idle => rw [comparedSlot_idle hused hst, if_neg (by simp [hspecial])]
  | armed => rw [comparedSlot_armed hused hst, if_pos hin]
  | fired => exact comparedSlot_spent_in hused (.inl hst) hin
  | missed => exact comparedSlot_spent_in hused (.inr hst) hin

theorem slot_comparedAll (c : NodeConfig) (r : CallRecord) (n : CueName) : (comparedAll c r).slot n = comparedSlot c r n :=
  slot_editAll (slotwise_compared c) r n

section
variable {id : Nat} {n : CueName} {s v t : State} {r : CallRecord} {q : Cue} {platforms : List Nat} (h : Readied id n s v r)
include h

/-- The occasion of a special cue: it fires where it is used, and its slot is as it was where it is not. -/
theorem occasioned (hq : planCue s.cfg r n = q) (ht : (if q.used then v.fire id n platforms else v) = t) :
    ∃ r', t.call id = some r'
      ∧ (q.used = true → (r'.slot n).state = .fired ∧ (r'.slot n).firedBase = some r.base
        ∧ (s.chanOfKey (.cue id n) = none → ∃ u, Withdrawn s u t id n ∧ u.queue = v.queue ∧ u.chans = v.chans
          ∧ t.Fires u s.cfg id n q platforms))
      ∧ (q.used = false → r'.slot n = r.slot n) := by
  cases hused : q.used with
  | true =>
    rw [if_pos hused] at ht
    obtain ⟨hcall, hfires⟩ := h.fires platforms
    rw [ht, hq] at hfires
    rw [ht] at hcall
    refine ⟨_, hcall, fun _ => ?_, (fun hno => nomatch hno)⟩
    rw [slot_setSlot_self]
    refine ⟨rfl, rfl, fun hnone => ?_⟩
    obtain ⟨u, hready, hqueue, hchans, hfire⟩ := hfires hnone
    exact ⟨u, hready.withdrawn hcall rfl, hqueue, hchans, hfire⟩
  | false =>
    rw [if_neg (by rw [hused]; exact Bool.false_ne_true)] at ht
    exact ⟨r, by rw [← ht]; exact h.call, (fun hyes => nomatch hyes), fun _ => rfl⟩

end

theorem cancelOccasion_of_ready {id : Nat} {s v : State} {r : CallRecord} {q : Cue} (h : Readied id .cancel s v r)
    (hq : planCue s.cfg r .cancel = q) : v.cancelOccasion id = if q.used then v.fire id .cancel [r.platform] else v := by
  unfold State.cancelOccasion
  rw [h.call]
  dsimp only
  rw [cue_eq, h.cfg, fireHere_of_call h.call, hq]

theorem alterationOccasion_of_ready {id : Nat} {s v : State} {r : CallRecord} {q : Cue} (h : Readied id .alteration s v r)
    (hq : planCue s.cfg r .alteration = q) (platforms : List Nat) :
    v.alterationOccasion id platforms = if q.used then v.fire id .alteration platforms else v := by
  unfold State.alterationOccasion
  rw [h.call]
  dsimp only
  rw [cue_eq, h.cfg, hq]

/-- A cancellation up to its notice: the record, whose CALL_HANDOVER may have been offered, is put as CANCELLED (R42, R51). -/
theorem readied_cancelCall {s : State} {id : Nat} {r : CallRecord} (hr : s.call id = some r) :
    ∃ v b, Readied id .cancel s v b ∧ s.cancelCall r = v.noticeState id r.state none ∧ b.state = .cancelled
      ∧ b = { r with state := b.state, linger := b.linger, moving := b.moving, events := b.events } := by
  obtain rfl : r.id = id := id_of_call hr
  have hend {w : State} {q : CallRecord} (hw : Readied r.id .cancel s w q) (hq : q = { r with events := q.events })
      (hact : s.cancelCall r = w.endCall q .cancelled none) :
      ∃ v b, Readied r.id .cancel s v b ∧ s.cancelCall r = v.noticeState r.id r.state none ∧ b.state = .cancelled
        ∧ b = { r with state := b.state, linger := b.linger, moving := b.moving, events := b.events } := by
    have hid : q.id = r.id := by rw [hq]
    have hst : q.state = r.state := by rw [hq]
    refine ⟨_, _, hw.putCall (r' := q.enterEnded .cancelled w.lingerEnd) hid, ?_, rfl, ?_⟩
    · rw [hact, State.endCall, hid, hst]
    · rw [hq]
      rfl
  cases hm : r.moving with
  | none =>
    refine hend ⟨undisturbed_refl s, fun _ _ => rfl, hr, Withdraws.refl s⟩ rfl ?_
    unfold State.cancelCall
    simp only [hm, hr]
  | some m =>
    have hsend := offered_sendHandover (s := s) (r := r) rfl m.target .cancelled
    refine hend (readied_of_offered hsend (withdraws_sendHandover s r m.target .cancelled)) rfl ?_
    unfold State.cancelCall
    simp only [hm, hsend.call]

/-- A cancellation fires CANCEL (R71). -/
theorem cueOccasions_cancel {dst src : Byte} {payload : List Byte} {s : State} {id : Nat} {r : CallRecord} (hreach : s.Reaches .callCancel dst src)
    (hread : readCancel payload = some id) (hr : s.call id = some r) (hlive : r.state.isLive = true) :
    ∃ t r', exec (.callCancel dst src payload) s = .next t ∧ t.call id = some r'
      ∧ ((s.cue r .cancel).used = true → (r'.slot .cancel).state = .fired ∧ (r'.slot .cancel).firedBase = some r.base
        ∧ (s.chanOfKey (.cue id .cancel) = none →
          ∃ u, Withdrawn s.taken u t id .cancel ∧ t.Fires u s.cfg id .cancel (s.cue r .cancel) [r.platform]))
      ∧ ((s.cue r .cancel).used = false → r'.slot .cancel = r.slot .cancel) := by
  have hexec := exec_reaches hreach hread (y := exec (.callCancel dst src payload) s) rfl
  obtain ⟨v, b, hready, hact, hst, hrecord⟩ := readied_cancelCall (s := s.taken) hr
  have hin : insideOf s.taken.cfg b .cancel = true := by
    unfold insideOf
    rw [hst]
    rfl
  obtain ⟨w, hcompared, hnotice⟩ := hready.compared (.inl rfl) hin
  have hslot : (comparedAll s.taken.cfg b).slot .cancel = r.slot .cancel := by
    rw [slot_comparedAll, comparedSlot_of_special rfl hin, hrecord]
    rfl
  have hframe := slotsOnly_compared s.taken.cfg b
  generalize comparedAll s.taken.cfg b = p at hcompared hnotice hslot hframe
  have hpst : p.state = .cancelled := by rw [hframe, hst]
  have hbase : p.base = r.base := by rw [hframe, hrecord]; rfl
  have hcue : planCue s.taken.cfg p .cancel = s.cue r .cancel := by rw [hframe, hrecord]; rfl
  have hplatform : p.platform = r.platform := by rw [hframe, hrecord]
  have hoccasion : occasionTaken id r.state p w = w.cancelOccasion id := by
    unfold occasionTaken
    rw [hpst]
  rw [callCancel_of_live (s := s.taken) hr hlive, hact, hnotice, hoccasion, cancelOccasion_of_ready hcompared hcue, hplatform] at hexec
  obtain ⟨r', hcall, hfired, hunused⟩ := occasioned (platforms := [r.platform]) hcompared hcue rfl
  refine ⟨_, r', hexec, hcall, fun hused => ?_, fun hused => (hunused hused).trans hslot⟩
  obtain ⟨hstate, hfiredBase, hfires⟩ := hfired hused
  refine ⟨hstate, by rw [hfiredBase, hbase], fun hnone => ?_⟩
  obtain ⟨u, hwithdrawn, -, -, hu⟩ := hfires hnone
  exact ⟨u, hwithdrawn, hu⟩


/-- A CALL_MOVE to another platform up to the occasion of ALTERATION, by whether the platform is one of this node (R46, R47). -/
theorem readied_callMove {s : State} {x : CallPlatform} {r : CallRecord} (hr : s.call x.id = some r) (hrunning : r.state.running = true)
    (hne : x.platform ≠ r.platform) :
    ∃ v p, Readied x.id .alteration s v p
      ∧ s.callMove x = v.alterationOccasion x.id (if s.cfg.ownPlatform x.platform then [x.platform, r.platform] else [r.platform])
      ∧ (s.cfg.ownPlatform x.platform = true → v.queue = s.queue ∧ v.chans = s.chans)
      ∧ p.base = r.base ∧ p.kind = r.kind ∧ ((p.slot .alteration).state = .fired → (r.slot .alteration).state = .fired) := by
  have hid : r.id = x.id := id_of_call hr
  rw [callMove_of_running hr hrunning, if_neg hne]
  cases hown : s.cfg.ownPlatform x.platform with
  | true =>
    have hready : Readied x.id .alteration s (s.putCall { r with platform := x.platform }) { r with platform := x.platform } :=
      readied_of_edited (edited_putCall hid) (withdraws_putCall s _)
    refine ⟨_, _, hready, ?_, fun _ => ⟨rfl, rfl⟩, rfl, rfl, id⟩
    simp only [State.localMove, State.noticeLocalMove, hid, if_true]
  | false =>
    have hput := offered_putHandover (s := s) (r := leaving s r x.platform) hid x.platform r.state
    have hready : Readied x.id .alteration s (handedOff s r x.platform) (readRecord s (leaving s r x.platform)) :=
      readied_of_offered hput ((withdraws_putCall s _).trans (withdraws_sendHandover _ _ _ _))
    have hin : insideOf s.cfg (readRecord s (leaving s r x.platform)) .alteration = true := rfl
    obtain ⟨w, hcompared, hnotice⟩ := hready.compared (.inr rfl) hin
    have hslot : (comparedAll s.cfg (readRecord s (leaving s r x.platform))).slot .alteration = r.slot .alteration := by
      rw [slot_comparedAll, comparedSlot_of_special rfl hin]
      rfl
    have hframe := slotsOnly_compared s.cfg (readRecord s (leaving s r x.platform))
    generalize comparedAll s.cfg (readRecord s (leaving s r x.platform)) = p at hcompared hnotice hslot hframe
    refine ⟨w, p, hcompared, ?_, (fun hno => nomatch hno), by rw [hframe]; rfl, by rw [hframe]; rfl, fun hst => by rwa [hslot] at hst⟩
    have hst : p.state = .moving := by rw [hframe]; rfl
    have hplatform : p.platform = r.platform := by rw [hframe]; rfl
    rw [if_neg Bool.false_ne_true, if_neg Bool.false_ne_true, beginHandover_eq, hid, hnotice]
    unfold occasionTaken
    rw [hst, hplatform]

/-- A move fires ALTERATION (R72). -/
theorem cueOccasions_move {dst src : Byte} {payload : List Byte} {s : State} {x : CallPlatform} {r : CallRecord}
    (hreach : s.Reaches .callMove dst src) (hread : readCallPlatform payload = some x) (hr : s.call x.id = some r)
    (hrunning : r.state.running = true) (hne : x.platform ≠ r.platform) :
    ∃ t r', exec (.callMove dst src payload) s = .next t ∧ t.call x.id = some r'
      ∧ ((s.cue r .alteration).used = true → (r'.slot .alteration).state = .fired ∧ (r'.slot .alteration).firedBase = some r.base
        ∧ (s.chanOfKey (.cue x.id .alteration) = none →
          ∃ u, Withdrawn s.taken u t x.id .alteration
            ∧ (s.cfg.ownPlatform x.platform = true → u.queue = s.queue ∧ u.chans = s.chans)
            ∧ t.Fires u s.cfg x.id .alteration (s.cue r .alteration)
              (if s.cfg.ownPlatform x.platform then [x.platform, r.platform] else [r.platform])))
      ∧ ((s.cue r .alteration).used = false → (r'.slot .alteration).state ≠ .fired ∨ (r.slot .alteration).state = .fired) := by
  have hexec := exec_reaches hreach hread (y := exec (.callMove dst src payload) s) rfl
  obtain ⟨v, p, hready, hact, hlocal, hbase, hkind, hslot⟩ := readied_callMove (s := s.taken) hr hrunning hne
  have hcue : planCue s.taken.cfg p .alteration = s.cue r .alteration := by
    unfold planCue
    rw [hkind]
    rfl
  rw [hact, alterationOccasion_of_ready hready hcue] at hexec
  obtain ⟨r', hcall, hfired, hunused⟩ := occasioned hready hcue rfl
  refine ⟨_, r', hexec, hcall, fun hused => ?_, fun hused => ?_⟩
  · obtain ⟨hstate, hfiredBase, hfires⟩ := hfired hused
    refine ⟨hstate, by rw [hfiredBase, hbase], fun hnone => ?_⟩
    obtain ⟨u, hwithdrawn, hqueue, hchans, hu⟩ := hfires hnone
    refine ⟨u, hwithdrawn, fun hown => ?_, hu⟩
    obtain ⟨hq, hc⟩ := hlocal hown
    exact ⟨hqueue.trans hq, hchans.trans hc⟩
  · rw [hunused hused, or_iff_not_imp_left, not_not]
    exact hslot


/-! ### DELAY (R68, R69) -/

theorem delay_of_expected {r : CallRecord} {d : Nat} (h : r.expected = some (r.scheduled + d)) : r.delay = some d := by
  unfold CallRecord.delay
  rw [h]
  simp

theorem delayDue_iff {threshold rearm d : Nat} {last : Option Nat} :
    delayDue threshold rearm last d = true ↔ threshold ≤ d
      ∧ (last = none ∨ ∃ l, last = some l ∧ (l < threshold ∨ l + rearm ≤ d ∨ d + rearm ≤ l)) := by
  have hdistance (l : Nat) : rearm ≤ distance d l ↔ l + rearm ≤ d ∨ d + rearm ≤ l := by
    unfold distance
    omega
  unfold delayDue
  cases last <;> simp [hdistance]

/-- A record whose DELAY cue R68 looks at: the cue is used, the state is in its window, its slot is IDLE or FIRED, and there is a delay. -/
structure DelayTestable (c : NodeConfig) (r : CallRecord) (d : Nat) : Prop where
  delay : r.delay = some d
  used : (planCue c r .delay).used = true
  state : r.state ∈ [.planned, .approaching, .atPlatform]
  slot : (r.slot .delay).state = .idle ∨ (r.slot .delay).state = .fired

section
variable {c : NodeConfig} {r : CallRecord} {d : Nat} (h : DelayTestable c r d)
include h

theorem delayFires_eq : delayFires c r d = delayDue c.delayThreshold c.rearmThreshold r.lastDelay d := by
  have hin : insideOf c r .delay = true := List.contains_iff_mem.mpr h.state
  unfold delayFires
  obtain hst | hst := h.slot <;> simp [h.used, hin, hst]

variable {id : Nat} {s : State} (hr : s.call id = some r) (hc : s.cfg = c)
include hr hc

theorem delayTest_of_testable :
    s.delayTest id = if delayDue c.delayThreshold c.rearmThreshold r.lastDelay d then
      (s.putCall { r with lastDelay := some d }).fireHere id .delay else s := by
  have hfires := delayFires_eq h
  unfold delayFires at hfires
  unfold State.delayTest
  rw [hr]
  dsimp only
  rw [h.delay, cue_eq, inside_eq, hc]
  dsimp only
  rw [hfires]

end

theorem delayEnd_of_long {id d : Nat} {s : State} {r : CallRecord} (hr : s.call id = some r) (hdelay : r.delay = some d)
    (hlong : s.cfg.delayThreshold ≤ d) : s.delayEnd id = s := by
  unfold State.delayEnd
  rw [hr]
  dsimp only
  rw [hdelay]
  exact if_neg (by simp; omega)

/-- The record that R69 takes back (R69). -/
def delayForgotten (r : CallRecord) : CallRecord :=
  { r.setSlot .delay { r.slot .delay with state := .idle, next := none } with lastDelay := none }

theorem delayEnd_of_short {id d : Nat} {s : State} {r : CallRecord} (hr : s.call id = some r) (hdelay : r.delay = some d)
    (hshort : d < s.cfg.delayThreshold) (hslot : (r.slot .delay).state = .idle ∨ (r.slot .delay).state = .fired) :
    s.delayEnd id = if (r.slot .delay).state = .fired then (s.putCall (delayForgotten r)).withdraw id .delay else s := by
  unfold State.delayEnd
  rw [hr]
  dsimp only
  rw [hdelay]
  obtain hst | hst := hslot
  · simp [hst]
  · simp [hst, hshort, delayForgotten]

/-! ### Re-arming (R70) -/

theorem setSlot_calls (s : State) (id : Nat) (n : CueName) (f : CueSlot → CueSlot) : s.setSlot id n f = { s with calls := (s.setSlot id n f).calls } := by
  unfold State.setSlot
  split <;> rfl

theorem rearmAll_calls (s : State) (id : Nat) : s.rearmAll id = { s with calls := (s.rearmAll id).calls } := by
  refine List.foldlRecOn (motive := fun t : State => t = { s with calls := t.calls }) allCues _ rfl fun t ht n _ => ?_
  have hstep : t.rearm id n = { t with calls := (t.rearm id n).calls } := by
    unfold State.rearm
    split
    · split
      · exact setSlot_calls t id n _
      · rfl
    · rfl
  rw [hstep]
  exact congrArg (fun v : State => { v with calls := (t.rearm id n).calls }) ht

theorem fires_of_calls {t v u : State} {c : NodeConfig} {id : Nat} {n : CueName} {q : Cue} {platforms : List Nat}
    (h : v.Fires u c id n q platforms) (ht : t = { v with calls := t.calls }) : t.Fires u c id n q platforms := by
  obtain ⟨e, hv, hrest⟩ := h
  refine ⟨e, ?_, hrest⟩
  rw [hv] at ht
  exact ht

theorem slot_rearmed (c : NodeConfig) (m : Option Nat) (r : CallRecord) (n : CueName) : (rearmedAll c m r).slot n = rearmedSlot c m r n :=
  slot_editAll (slotwise_rearmed c m) r n

theorem slot_rearmed_of_special (c : NodeConfig) (m : Option Nat) (r : CallRecord) {n : CueName} (h : n.isPlan = false) :
    (rearmedAll c m r).slot n = r.slot n := by
  rw [slot_rearmed]
  exact if_neg (by simp [h])

/-- The notice of an amendment in which R68 fires: the firing, then what R70 makes of the other slots. -/
theorem noticeAmended_of_due {s : State} {id d : Nat} {r : CallRecord} (hr : s.call id = some r) (h : DelayTestable s.cfg r d)
    (hdue : delayDue s.cfg.delayThreshold s.cfg.rearmThreshold r.lastDelay d = true) :
    s.noticeAmended id = ((s.putCall { r with lastDelay := some d }).fire id .delay [r.platform]).rearmAll id := by
  have hid : r.id = id := id_of_call hr
  have hput : Edited id s (s.putCall { r with lastDelay := some d }) { r with lastDelay := some d } := edited_putCall hid
  have hfire := hput.trans (edited_fire hput.call .delay [r.platform])
  have htest : s.delayTest id = (s.putCall { r with lastDelay := some d }).fire id .delay [r.platform] := by
    rw [delayTest_of_testable h hr rfl, if_pos hdue, fireHere_of_call hput.call]
  unfold State.noticeAmended State.delayRules
  rw [htest, delayEnd_of_long hfire.call h.delay]
  rw [hfire.cfg]
  exact (delayDue_iff.mp hdue).1

/-- The notice of an amendment in which R68 does not fire. -/
theorem noticeAmended_of_undue {s : State} {id d : Nat} {r : CallRecord} (hr : s.call id = some r) (h : DelayTestable s.cfg r d)
    (hundue : ¬delayDue s.cfg.delayThreshold s.cfg.rearmThreshold r.lastDelay d = true) :
    s.noticeAmended id = (if d < s.cfg.delayThreshold ∧ (r.slot .delay).state = .fired then (s.putCall (delayForgotten r)).withdraw id .delay
      else s).rearmAll id := by
  have htest : s.delayTest id = s := by rw [delayTest_of_testable h hr rfl, if_neg hundue]
  unfold State.noticeAmended State.delayRules
  rw [htest]
  by_cases hshort : d < s.cfg.delayThreshold
  · rw [delayEnd_of_short hr h.delay hshort h.slot]
    by_cases hfired : (r.slot .delay).state = .fired
    · rw [if_pos hfired, if_pos ⟨hshort, hfired⟩]
    · rw [if_neg hfired, if_neg fun hand => hfired hand.2]
  · rw [delayEnd_of_long hr h.delay (not_lt.mp hshort), if_neg fun hand => hshort hand.1]

/-- What an amendment leaves of the DELAY cue, seen from the state with the new expected minute. -/
theorem delay_amendment {s : State} {id d : Nat} {r : CallRecord} (hr : s.call id = some r) (h : DelayTestable s.cfg r d) :
    ∃ r', (s.noticeAmended id).call id = some r'
      ∧ (delayDue s.cfg.delayThreshold s.cfg.rearmThreshold r.lastDelay d = true →
        (r'.slot .delay).state = .fired ∧ (r'.slot .delay).firedBase = some r.base ∧ r'.lastDelay = some d
          ∧ (s.chanOfKey (.cue id .delay) = none → ∃ u b, Readied id .delay s u b ∧ SlotsOnly b r' ∧ u.queue = s.queue ∧ u.chans = s.chans
            ∧ (s.noticeAmended id).Fires u s.cfg id .delay (planCue s.cfg r .delay) [r.platform]))
      ∧ (¬delayDue s.cfg.delayThreshold s.cfg.rearmThreshold r.lastDelay d = true → s.cfg.delayThreshold ≤ d →
        r'.slot .delay = r.slot .delay ∧ r'.lastDelay = r.lastDelay)
      ∧ (d < s.cfg.delayThreshold → (r'.slot .delay).state = .idle
        ∧ ((r.slot .delay).state = .fired → (r'.slot .delay).next = none ∧ r'.lastDelay = none
          ∧ (s.KeysApart → (s.noticeAmended id).entryOf (.cue id .delay) = none))) := by
  have hid : r.id = id := id_of_call hr
  by_cases hdue : delayDue s.cfg.delayThreshold s.cfg.rearmThreshold r.lastDelay d = true
  · obtain ⟨b, hb⟩ : ∃ b : CallRecord, b = { r with lastDelay := some d } := ⟨_, rfl⟩
    have hready : Readied id .delay s (s.putCall b) b := by
      rw [hb]
      exact readied_of_edited (edited_putCall hid) (withdraws_putCall s _)
    have hact := noticeAmended_of_due hr h hdue
    rw [← hb] at hact
    obtain ⟨hcall, hfires⟩ := hready.fires [r.platform]
    have hcalls := rearmAll_calls ((s.putCall b).fire id .delay [r.platform]) id
    have hedit := edited_rearmAll hcall
    have hslot := slot_rearmed_of_special ((s.putCall b).fire id .delay [r.platform]).cfg
      ((s.putCall b).fire id .delay [r.platform]).minuteNow (b.setSlot .delay (firedSlot s.cfg s.minuteNow b .delay)) (n := .delay) rfl
    have hframe := slotsOnly_rearmed ((s.putCall b).fire id .delay [r.platform]).cfg
      ((s.putCall b).fire id .delay [r.platform]).minuteNow (b.setSlot .delay (firedSlot s.cfg s.minuteNow b .delay))
    rw [slot_setSlot_self] at hslot
    rw [← hact] at hedit hcalls
    have hlast : (b.setSlot .delay (firedSlot s.cfg s.minuteNow b .delay)).lastDelay = some d := by rw [hb]; rfl
    have hbase : b.base = r.base := by rw [hb]; rfl
    have hcue : planCue s.cfg b .delay = planCue s.cfg r .delay := by rw [hb]; rfl
    refine ⟨_, hedit.call, fun _ => ⟨by rw [hslot]; rfl, ?_, by rw [hframe]; exact hlast, fun hnone => ?_⟩, fun hno => absurd hdue hno, fun hshort => ?_⟩
    · rw [hslot, ← hbase]
      rfl
    · obtain ⟨u, hu, hqueue, hchans, hfire⟩ := hfires hnone
      rw [hcue] at hfire
      exact ⟨u, _, hu, hframe, hqueue, hchans, fires_of_calls hfire hcalls⟩
    · exact absurd (delayDue_iff.mp hdue).1 (not_le.mpr hshort)
  · have hact := noticeAmended_of_undue hr h hdue
    have hrest {v : State} {b : CallRecord} (hv : v.call id = some b) : ∃ r', (v.rearmAll id).call id = some r'
        ∧ r'.slot .delay = b.slot .delay ∧ r'.lastDelay = b.lastDelay :=
      ⟨_, (edited_rearmAll hv).call, slot_rearmed_of_special _ _ _ rfl, by rw [slotsOnly_rearmed]⟩
    by_cases hend : d < s.cfg.delayThreshold ∧ (r.slot .delay).state = .fired
    · rw [if_pos hend] at hact
      have hput : Edited id s (s.putCall (delayForgotten r)) (delayForgotten r) := edited_putCall hid
      obtain ⟨r', hr', hslot, hlast⟩ := hrest (edited_withdraw hput.call id .delay).call
      have hforgotten : (delayForgotten r).slot .delay = { r.slot .delay with state := .idle, next := none } := slot_setSlot_self _ _ _
      rw [hforgotten] at hslot
      rw [← hact] at hr'
      refine ⟨r', hr', fun hyes => absurd hyes hdue, fun _ hlong => absurd hend.1 (not_lt.mpr hlong), fun _ => ⟨by rw [hslot], fun _ =>
        ⟨by rw [hslot], hlast, fun hkeys => ?_⟩⟩⟩
      have hstilled := stilled_withdraw (keysApart_putCall hkeys (delayForgotten r)) id .delay
      rw [hact]
      exact (hstilled.of_eq (by rw [rearmAll_calls]) (by rw [rearmAll_calls])).1
    · rw [if_neg hend] at hact
      obtain ⟨r', hr', hslot, hlast⟩ := hrest hr
      rw [← hact] at hr'
      refine ⟨r', hr', fun hyes => absurd hyes hdue, fun _ _ => ⟨hslot, hlast⟩, fun hshort => ?_⟩
      have hfired : (r.slot .delay).state ≠ .fired := fun hst => hend ⟨hshort, hst⟩
      exact ⟨by rw [hslot]; exact h.slot.resolve_right hfired, fun hst => absurd hst hfired⟩


/-- An amendment and DELAY (R68, R69). -/
theorem cueOccasions_delay {dst src : Byte} {payload : List Byte} {s : State} {a : AmendFields} {r : CallRecord} {d : Nat}
    (hreach : s.Reaches .callAmend dst src) (hread : readAmend payload = some a) (hr : s.call a.id = some r) (hne : r.expected ≠ a.expected)
    (hst : r.state ∈ [.planned, .approaching, .atPlatform]) (hexpected : a.expected = some (r.scheduled + d))
    (hused : (s.cue r .delay).used = true) (hslot : (r.slot .delay).state = .idle ∨ (r.slot .delay).state = .fired) :
    ∃ t r', exec (.callAmend dst src payload) s = .next t ∧ t.call a.id = some r'
      ∧ (delayDue s.cfg.delayThreshold s.cfg.rearmThreshold r.lastDelay d = true →
        (r'.slot .delay).state = .fired ∧ (r'.slot .delay).firedBase = some (r.scheduled + d) ∧ r'.lastDelay = some d
          ∧ (s.chanOfKey (.cue a.id .delay) = none →
            ∃ u, Withdrawn s.taken u t a.id .delay ∧ u.queue = s.queue ∧ u.chans = s.chans
              ∧ t.Fires u s.cfg a.id .delay (s.cue r .delay) [r.platform]))
      ∧ (¬delayDue s.cfg.delayThreshold s.cfg.rearmThreshold r.lastDelay d = true → s.cfg.delayThreshold ≤ d →
        r'.slot .delay = r.slot .delay ∧ r'.lastDelay = r.lastDelay)
      ∧ (d < s.cfg.delayThreshold → (r'.slot .delay).state = .idle
        ∧ ((r.slot .delay).state = .fired → (r'.slot .delay).next = none ∧ r'.lastDelay = none
          ∧ (s.KeysApart → t.entryOf (.cue a.id .delay) = none))) := by
  have hexec := exec_reaches hreach hread (y := exec (.callAmend dst src payload) s) rfl
  have hid : r.id = a.id := id_of_call hr
  have hlive : r.state.isLive = true ∧ r.state ≠ .moving := by
    simp only [List.mem_cons, List.not_mem_nil, or_false] at hst
    obtain hst | hst | hst := hst <;> rw [hst] <;> decide
  rw [callAmend_of_live (s := s.taken) hr hlive.1 hne, if_neg hlive.2] at hexec
  have hready : Readied a.id .delay s.taken (s.taken.putCall (amended r a.expected)) (amended r a.expected) :=
    readied_of_edited (edited_putCall hid) (withdraws_putCall _ _)
  have htest : DelayTestable s.cfg (amended r a.expected) d := ⟨delay_of_expected hexpected, hused, hst, hslot⟩
  obtain ⟨r', hcall, hdue, hkept, hshort⟩ := delay_amendment hready.call htest
  have hbase : (amended r a.expected).base = r.scheduled + d := by
    change a.expected.getD r.scheduled = _
    rw [hexpected]
    rfl
  rw [hbase] at hdue
  refine ⟨_, r', hexec, hcall, fun hyes => ?_, hkept, fun hlt => ?_⟩
  · obtain ⟨hstate, hfired, hlast, hfires⟩ := hdue hyes
    refine ⟨hstate, hfired, hlast, fun hnone => ?_⟩
    obtain ⟨u, b, hu, hframe, hqueue, hchans, hfire⟩ := hfires hnone
    exact ⟨u, (hready.trans hu).withdrawn hcall hframe, hqueue, hchans, hfire⟩
  · obtain ⟨hidle, hended⟩ := hshort hlt
    refine ⟨hidle, fun hfired => ?_⟩
    obtain ⟨hnext, hlast, hwaiting⟩ := hended hfired
    exact ⟨hnext, hlast, fun hkeys => hwaiting (keysApart_putCall (keysApart_taken hkeys) _)⟩

theorem slots_resendHandover {t : State} {id : Nat} {q : CallRecord} (h : t.call id = some q) :
    ∃ p, (t.resendHandover id).call id = some p ∧ p.slots = q.slots := by
  have hid : q.id = id := id_of_call h
  cases hm : q.moving with
  | none =>
    refine ⟨q, ?_, rfl⟩
    unfold State.resendHandover
    simp only [h, hm]
  | some m =>
    rw [resendHandover_of_moving h hm]
    exact ⟨_, (offered_sendHandover hid m.target m.prior).call, rfl⟩

/-- An amendment and the slots of the plan cues (R70). -/
theorem slots_callAmend {s : State} {a : AmendFields} {r : CallRecord} (hr : s.call a.id = some r) (hlive : r.state.isLive = true)
    (hne : r.expected ≠ a.expected) :
    ∃ p, (s.callAmend a).call a.id = some p
      ∧ p.slots = (rearmedAll s.cfg s.minuteNow (delayRuled s.cfg s.minuteNow (amended r a.expected))).slots := by
  have hcall := (edited_amended hr).call
  rw [callAmend_of_live hr hlive hne]
  split
  · exact slots_resendHandover hcall
  · exact ⟨_, hcall, rfl⟩

/-- The slot of a FIRED BEFORE_TIME cue after R70. -/
theorem rearmedSlot_beforeTime {c : NodeConfig} {m f o : Nat} {r : CallRecord} {n : CueName} (hplan : n.isPlan = true)
    (hused : (planCue c r n).used = true) (hin : r.state ∈ (planCue c r n).window) (hfired : (r.slot n).state = .fired)
    (hbase : (r.slot n).firedBase = some f) (htrigger : (planCue c r n).trigger = .beforeTime o) :
    rearmedSlot c (some m) r n = if m < r.base - o ∧ f + c.rearmThreshold ≤ r.base then { r.slot n with state := .armed, next := none }
      else r.slot n := by
  have hinside : insideOf c r n = true := by
    rw [insideOf_of_plan hplan, List.contains_iff_mem]
    exact hin
  unfold rearmedSlot rearms
  simp only [Option.any_some, hplan, hused, hinside, htrigger, hbase, hfired, Bool.true_and, decide_true, Bool.and_eq_true, decide_eq_true_eq]

/-- An amendment and a FIRED BEFORE_TIME cue (R70). -/
theorem cueOccasions_rearm {dst src : Byte} {payload : List Byte} {s : State} {a : AmendFields} {r : CallRecord} {n : CueName} {f m o : Nat}
    (hreach : s.Reaches .callAmend dst src) (hread : readAmend payload = some a) (hr : s.call a.id = some r) (hne : r.expected ≠ a.expected)
    (hlive : r.state.isLive = true) (hplan : n.isPlan = true) (hused : (s.cue r n).used = true) (hin : r.state ∈ (s.cue r n).window)
    (hfired : (r.slot n).state = .fired) (hbase : (r.slot n).firedBase = some f) (hm : s.minuteNow = some m)
    (htrigger : (s.cue r n).trigger = .beforeTime o) :
    ∃ t r', exec (.callAmend dst src payload) s = .next t ∧ t.call a.id = some r'
      ∧ r'.slot n = if m < a.expected.getD r.scheduled - o ∧ f + s.cfg.rearmThreshold ≤ a.expected.getD r.scheduled then
        { r.slot n with state := .armed, next := none } else r.slot n := by
  have hexec := exec_reaches hreach hread (y := exec (.callAmend dst src payload) s) rfl
  obtain ⟨p, hcall, hslots⟩ := slots_callAmend (s := s.taken) hr hlive hne
  have hframe := delay_ruled s.taken.cfg s.taken.minuteNow (amended r a.expected)
  have hslot : p.slot n = rearmedSlot s.taken.cfg s.taken.minuteNow (delayRuled s.taken.cfg s.taken.minuteNow (amended r a.expected)) n := by
    rw [← slot_rearmed, CallRecord.slot, hslots]
    rfl
  have hsame : (delayRuled s.taken.cfg s.taken.minuteNow (amended r a.expected)).slot n = r.slot n := slot_delayRuled_of_plan hplan _ _ _
  have hcue := hframe.planCue s.taken.cfg n
  generalize delayRuled s.taken.cfg s.taken.minuteNow (amended r a.expected) = q at hframe hslot hsame hcue
  have hqcue : planCue s.taken.cfg q n = s.cue r n := hcue
  have hqbase : q.base = a.expected.getD r.scheduled := hframe.base
  rw [show s.taken.minuteNow = some m from hm, rearmedSlot_beforeTime hplan (by rwa [hqcue]) (by rw [hqcue, hframe.state]; exact hin)
    (by rwa [hsame]) (by rwa [hsame]) (by rwa [hqcue]), hsame, hqbase] at hslot
  exact ⟨_, p, hexec, hcall, hslot⟩

/-- Settles O34: the four events each by the record that it leaves and the state that its firing is made from. -/
theorem cueOccasions : Obligations.CueOccasions := by
  refine ⟨fun dst src payload s a r d hreach hread hr hne hst hexpected hused hslot => ?_,
    fun dst src payload s a r n hreach hread hr hne hlive hplan hused hin hfired f hbase m hm b hb o htrigger => ?_,
    fun dst src payload s id r hreach hread hr hlive => cueOccasions_cancel hreach hread hr hlive,
    fun dst src payload s x r hreach hread hr hrunning hne => cueOccasions_move hreach hread hr hrunning hne⟩
  · obtain ⟨t, r', hexec, hcall, hdue, hkept, hshort⟩ := cueOccasions_delay hreach hread hr hne hst hexpected hused hslot
    refine ⟨t, r', hexec, hcall, fun hle hoccasion => hdue (delayDue_iff.mpr ⟨hle, hoccasion⟩), fun l hle hlast hl hup hdown => ?_, hshort⟩
    rw [← hlast]
    refine hkept (fun hyes => ?_) hle
    obtain ⟨-, hnone | ⟨l', hl', hcase⟩⟩ := delayDue_iff.mp hyes
    · cases hlast.symm.trans hnone
    · obtain rfl : l = l' := Option.some.inj (hlast.symm.trans hl')
      omega
  · obtain ⟨t, r', hexec, hcall, hslot⟩ := cueOccasions_rearm hreach hread hr hne hlive hplan hused hin hfired hbase hm htrigger
    rw [← hb] at hslot
    refine ⟨t, r', hexec, hcall, fun hlt hle => ?_, fun hno => ?_⟩
    · rw [hslot, if_pos ⟨hlt, hle⟩]
    · rw [hslot, if_neg]
      omega

end Sys2Proof.Proofs.OccasionRules

end
